-- ==== Sys2Proof/Word.lean ====
section
/-! DEFINITION. The byte of the serial lines (R182, R197). -/

namespace Sys2Proof

/-- One byte as the link, the REF-A input and the FEED output carry it. -/
abbrev Byte := BitVec 8

end Sys2Proof
end

