-- ==== Sys2Proof/Syntax.lean ====
section
/-! DEFINITION. The commands of the PT-832: one constructor of `Instr` for each row of
spec/opcode_table.json, with the operands its rule gives it. Numeric operands that travel in a request body
have the width Chapter 12 gives them; line and unit operands are plain counts. -/

namespace Sys2Proof

/-- A reference source: REF-A or REF-B (Chapter 2). -/
inductive Source where
  | a | b
deriving DecidableEq, Repr, Inhabited

/-- What TSC latches at an instant (R7): S, N, the epoch, E and the class then in force. A line change keeps
its compensated latch as its raw date (R75). -/
structure Latch where
  s : Nat
  n : Nat
  epoch : Nat
  e : Nat
  cls : Nat
deriving DecidableEq, Repr, Inhabited

/-- Bytes 2 to 10 of the station time message (Chapter 12): what stands between the sync pair and the check. -/
structure StationMessage where
  sourceId : Byte
  status : Byte
  civil : BitVec 40
  leap : BitVec 8
  sequence : Byte
deriving DecidableEq, Repr, Inhabited

/-- One entry of an SCHW body as the host writes it (Chapter 12). -/
structure ScheduleWrite where
  start : BitVec 16
  crew : Byte
  window : Byte
deriving DecidableEq, Repr, Inhabited

/-- The two moments of a character or byte on a serial line: the falling edge of its start bit, and its stop bit
with the eight data bits received (R19, R182). -/
inductive SerialMoment where
  | begins
  | completes (value : Byte)
deriving DecidableEq, Repr, Inhabited

/-- The commands. A request row carries its TAG and the items of its body: it is the arrival of a complete
frame of that request with a correct check (entry 1). Every other row is an event of the plant, of a line or
of the part's own clock. -/
inductive Instr where
  /-- POWER_ON_RESET (R172): the straps RATE1 and RATE0, the levels of EV1 to EV32 (bit n - 1 is EVn) and
  the HOLDUP level as the reset finds them. -/
  | powerOnReset (straps : BitVec 2) (pins : BitVec 32) (holdup : Bool)
  | rstrt (tag : Byte)
  | holdupAssertion
  | holdupRelease
  | secondBoundary
  | feedTransmissionEnd
  | trd (tag : Byte)
  /-- REFA_FRAME (R22): a whole frame, the sync pair, its message and the check it carries (entry 8). -/
  | refaFrame (message : StationMessage) (check : BitVec 16)
  | candidateTimeout
  | refaBreak
  | refbPulse
  | missingSample (source : Source)
  | sourceAbsent (source : Source)
  | revertTimerExpiry
  | pinj (tag source : Byte) (value : BitVec 32) (count : Byte)
  | refs (tag selector : Byte)
  | tset (tag : Byte) (seconds : BitVec 40) (micros : BitVec 24) (uncertainty : BitVec 32)
  | tacq (tag : Byte)
  | disc (tag : Byte)
  /-- RAW_EDGE (R75): the pin of the line goes to this level (true is high). -/
  | rawEdge (line : Nat) (pinHigh : Bool)
  | filterExpiry (line : Nat)
  | quietTimerExpiry (line : Nat)
  | einj (tag line level : Byte)
  | lnst (tag selector : Byte)
  | efls (tag : Byte)
  | efch (tag wanted : Byte)
  | erel (tag : Byte) (seq : BitVec 32)
  | discrepancyTimerExpiry (unit : Nat)
  | tlrd (tag unit : Byte)
  | tlps (tag selector n field : Byte) (value : BitVec 32)
  | periodicEvaluation
  | mset (tag selector n : Byte) (limit : BitVec 32)
  | schw (tag : Byte) (entries : List ScheduleWrite)
  | schr (tag : Byte)
  | hrel (tag crew : Byte)
  | hacc (tag crew : Byte)
  | windowTimerExpiry
  | hopn (tag crew : Byte) (window : Option Byte)
  | tack (tag crew : Byte) (seq : BitVec 32)
  | tackAll (tag crew : Byte)
  | shhs (tag index : Byte)
  | shst (tag : Byte)
  /-- SAVE_END (R175): whether the image read back equals the snapshot. -/
  | saveEnd (readBackEqual : Bool)
  | save (tag : Byte)
  | autosaveExpiry
  | dflt (tag : Byte)
  /-- REQUEST_FRAME (R185): a complete frame as received, with the check bytes it came with. -/
  | requestFrame (kind tag : Byte) (body : List Byte) (check : BitVec 16)
  | gapExpiry
  | replyEnd
  | stat (tag : Byte)
  | lstat (tag : Byte)
  | idnt (tag : Byte)
  | cfgw (tag item index : Byte) (value : BitVec 32)
  | cfgr (tag item index : Byte)
  /-- REFA_CHARACTER (R19, R20): a character on REF-A begins, where its date is latched, or completes with the level of
  its stop bit (entry 7). -/
  | refaCharacter (moment : SerialMoment) (stopHigh : Bool)
  /-- LINK_BYTE (R183): a byte on LRXD begins, where it stops the gap timer, or completes, whatever the
  level of its stop bit (R182, entry 14). -/
  | linkByte (moment : SerialMoment)
  | unusedLinePinChange (line : Nat) (pinHigh : Bool)
deriving DecidableEq, Repr

end Sys2Proof
end

