-- ==== Sys2Proof/Decode.lean ====
section
/-! DEFINITION. What a word spells by the table's bits. No row of spec/opcode_table.json gives bits: the
part's commands are events and link requests, not instruction words (entry 29). -/

namespace Sys2Proof

/-- The command that the `nbits` bits of `w` spell by the table: none, since no row gives bits. -/
def decodeTableWord (_nbits _w : Nat) : Option Instr := none

end Sys2Proof
end

