-- ==== Sys2Proof/Machine/State.lean ====
section
/-! DEFINITION. The state of the PT-832 as plain data, block by block as the tables "The state held by …" of
the chapters list it, and the state right after a power-on reset of a part with an erased store. -/

namespace Sys2Proof.Machine

/-! ### Why a command may stop -/

/-- A command that the part cannot receive. Each is raised by `exec` for an operand outside what the spec
gives the part, and is safe: nothing is claimed of such a command. -/
inductive Fault where
  /-- A line outside EV1 to EV32; raised by the line commands. Safe. -/
  | noSuchLine
  /-- A unit outside 1 to 8; raised by DISCREPANCY_TIMER_EXPIRY. Safe. -/
  | noSuchUnit
deriving DecidableEq, Repr

/-- Why the model declines a command. -/
inductive Refusal where
  /-- The command has no meaning yet; raised by `exec`'s arm for it alone. Safe. -/
  | notModelled (mnemonic : String)
deriving DecidableEq, Repr

/-! ### Dates and the time scale (Chapter 1) -/

/-- A date as records and replies carry it (R7): µs is N div 1000. -/
structure Date where
  epoch : Nat
  cls : Nat
  s : Nat
  us : Nat
deriving DecidableEq, Repr, Inhabited

/-- The two directions of a leap (R9). -/
inductive LeapDirection where
  | insert | delete
deriving DecidableEq, Repr, Inhabited

/-- A leap announced for the end of the current civil day (R9). -/
structure PendingLeap where
  direction : LeapDirection
  target : Int
deriving DecidableEq, Repr, Inhabited

/-- A local minute (d, m) (R5). -/
structure LocalMinute where
  day : Int
  minute : Nat
deriving DecidableEq, Repr, Inhabited

/-- TSC: the table at the head of Chapter 1. `e` counts on past 2^64 and is shown modulo it (entry 5);
`eSub` and `frac` are the model's own (entry 6). -/
structure TimeScale where
  s : Nat
  n : Nat
  e : Nat
  eSub : Nat
  frac : Nat
  epoch : Nat
  leap : Int
  pendingLeap : Option PendingLeap
  tracker : Option LocalMinute
  lastFired : List (Nat × Int)
deriving DecidableEq, Repr, Inhabited

/-! ### The reference receiver (Chapter 2) -/

/-- The REF-A receiver state (R24). -/
inductive ReceiverState where
  | hunt | sync
deriving DecidableEq, Repr, Inhabited

/-- The four source states (R31). -/
inductive SourceState where
  | absent | qualifying | usable | faulted
deriving DecidableEq, Repr, Inhabited

/-- An injection of PINJ (R35). -/
structure Injection where
  value : Int
  remaining : Nat
deriving DecidableEq, Repr, Inhabited

/-- What RRX holds for each source. `nextMissing` and `absentAt` are the instants of R29 on E. -/
structure SourceData where
  lastMark : Option Latch
  state : SourceState
  qualify : Nat
  out : Nat
  release : Nat
  lastSample : Option Int
  injection : Option Injection
  nextMissing : Option Nat
  absentAt : Option Nat
deriving DecidableEq, Repr, Inhabited

/-- The fields kept of the last accepted frame (R25). -/
structure FrameFields where
  sourceId : Byte
  cls : Nat
  degraded : Bool
deriving DecidableEq, Repr, Inhabited

/-- The candidate in hand: its mark and its bytes so far, the sync pair included (R20). -/
structure Candidate where
  mark : Latch
  bytes : List Byte
deriving DecidableEq, Repr, Inhabited

/-- A running revert timer (R37); the start is kept for R39. -/
structure RevertTimer where
  start : Nat
  expiry : Nat
deriving DecidableEq, Repr, Inhabited

/-- The REF-A counters of R40. -/
structure CountersA where
  accepted : Nat
  check : Nat
  ident : Nat
  repeated : Nat
  mistimed : Nat
  brk : Nat
  stale : Nat
  missing : Nat
deriving DecidableEq, Repr, Inhabited

/-- The REF-B counters of R40. -/
structure CountersB where
  accepted : Nat
  spurious : Nat
  missing : Nat
deriving DecidableEq, Repr, Inhabited

/-- RRX: the table at the head of Chapter 2. `begun` is the latch of the character now being received, none while
none is (R19). -/
structure Receiver where
  state : ReceiverState
  begun : Option Latch
  prevChar : Option (Byte × Latch)
  candidate : Option Candidate
  lastSeq : Option Byte
  lastFrame : Option FrameFields
  srcClass : Nat
  discards : Nat
  srcA : SourceData
  srcB : SourceData
  selection : Option Source
  revert : Option RevertTimer
  countA : CountersA
  countB : CountersB
deriving DecidableEq, Repr, Inhabited

/-! ### The discipline unit (Chapter 3) -/

/-- The discipline states (R42). -/
inductive DiscState where
  | free | acquire | locked | holdover
deriving DecidableEq, Repr, Inhabited

/-- The sample that may pair with the next (R43). -/
structure PrevSample where
  source : Source
  e : Int
  c : Int
deriving DecidableEq, Repr, Inhabited

/-- DSC: the table at the head of Chapter 3. -/
structure Discipline where
  state : DiscState
  f : Int
  sum : Int
  count : Nat
  prev : Option PrevSample
  c : Int
  u : Nat
  lock : Nat
  oneShot : Bool
  view : Option Source
  srcClass : Nat
  effClass : Nat
deriving DecidableEq, Repr, Inhabited

/-! ### The feed transmitter (Chapter 4) -/

/-- What is on the FEED line, with its end instant on E (R66, R68). -/
inductive Transmission where
  | frame (bytes : List Byte) (endAt : Nat)
  | brk (endAt : Nat)
deriving DecidableEq, Repr, Inhabited

/-- FTX: the table at the head of Chapter 4. -/
structure Feed where
  enable : Bool
  sequence : Nat
  transmission : Option Transmission
deriving DecidableEq, Repr, Inhabited

/-! ### The line qualifier (Chapter 5) -/

/-- The kinds of line (R72). -/
inductive LineKind where
  | unused | plain | trip | breaker | speed | pump | cond
deriving DecidableEq, Repr, Inhabited

/-- The line states (R74). -/
inductive LineState where
  | unused | steady | pending | chatter
deriving DecidableEq, Repr, Inhabited

/-- The change the filter is timing (R75); the raw date keeps its compensated E. -/
structure PendingChange where
  level : Bool
  raw : Latch
  expiry : Nat
deriving DecidableEq, Repr, Inhabited

/-- LQU's state of one line: the second table of Chapter 5. Levels are true for active; the line level is
the view `State.lineLevel` of the pin through the polarity (R74). -/
structure Line where
  pinHigh : Bool
  filtered : Bool
  effective : Bool
  state : LineState
  pending : Option PendingChange
  lastRawEdge : Option Nat
  recent : List Nat
  quiet : Option Nat
  bounce : Nat
deriving DecidableEq, Repr, Inhabited

/-! ### Units (Chapters 7 and 8) -/

/-- The modes of a unit (R115). -/
inductive Mode where
  | none | still | spin | gen | pump | cond | indet
deriving DecidableEq, Repr, Inhabited

/-- One accumulator: whole seconds and a remainder in µs (R118). -/
structure Acc where
  secs : Nat
  rem : Nat
deriving DecidableEq, Repr, Inhabited

/-- The six mode accumulators of a unit (R118). -/
structure Accs where
  still : Acc
  spin : Acc
  gen : Acc
  pump : Acc
  cond : Acc
  indet : Acc
deriving DecidableEq, Repr, Inhabited

/-- What the image keeps of a unit (R170). -/
structure Tally where
  accs : Accs
  starts : Nat
  trips : Nat
  sat : Bool
  baseline : Nat
  limit : Nat
  due : Bool
deriving DecidableEq, Repr, Inhabited

/-- The discrepancy timer (R122). -/
inductive DiscTimer where
  | stopped
  | running (expiry : Nat)
  | expired
deriving DecidableEq, Repr, Inhabited

/-- TLU's state of one unit: the table at the head of Chapter 7. -/
structure GenUnit where
  mode : Mode
  entry : Nat
  entryDate : Date
  ecp : Option Nat
  timer : DiscTimer
  tally : Tally
deriving DecidableEq, Repr, Inhabited

/-- TLU: eight units and the next instant of the periodic evaluation (R136). -/
structure TallyUnit where
  units : Vector GenUnit 8
  nextEval : Nat
deriving DecidableEq, Repr, Inhabited

/-! ### Event records and the queue (Chapter 6) -/

/-- Tally fields of TLPS (R129). -/
inductive TallyField where
  | stillS | spinS | genS | pumpS | condS | indetS | starts | trips | baseline
deriving DecidableEq, Repr, Inhabited

/-- Reasons of a step (R8). -/
inductive StepReason where
  | acquire | forcedAcquire | hostSet
deriving DecidableEq, Repr, Inhabited

/-- Events of a SHIFT record (R96). -/
inductive ShiftEvent where
  | handoverDue | overdue | missed | completed | self | skipped
deriving DecidableEq, Repr, Inhabited

/-- Triggers of a save (R173). -/
inductive Trigger where
  | save | shift | autosave | holdup | dflt
deriving DecidableEq, Repr, Inhabited

/-- The store states (R171). -/
inductive StoreState where
  | valid | blank | corrupt
deriving DecidableEq, Repr, Inhabited

/-- The particulars of a record; the constructor is its kind (R94 to R96). -/
inductive Detail where
  | edge (level : Bool) (kind : LineKind) (unit : Nat)
  | trip (unit : Nat) (mode : Mode) (seconds trips : Nat)
  | tripclr (unit : Nat)
  | chatter (entered level : Bool)
  | mode (unit : Nat) (old new : Mode) (starts : Nat)
  | discrep (unit : Nat) (breaker speed pump cond : Bool)
  | maint (unit eoh : Nat)
  | preset (unit : Nat) (field : TallyField) (value : Nat)
  | ref (source : Source) (old new : SourceState) (selected : Option Source)
  | disc (old new : DiscState) (cls : Nat)
  | step (amount : Int) (reason : StepReason)
  | leap (old new : Int) (self : Bool)
  | shift (event : ShiftEvent) (number crew : Nat)
  | store (ok : Bool) (trigger : Trigger)
  | overflow (lost lostTrips : Nat)
  | flushed (count : Nat)
  | restart (powerOn : Bool) (store : StoreState)
deriving DecidableEq, Repr, Inhabited

/-- A record of the event queue (R93). -/
structure Record where
  seq : Nat
  detail : Detail
  injected : Bool
  delivered : Bool
  station : Bool
  source : Nat
  date : Date
deriving DecidableEq, Repr, Inhabited

/-- EVQ: the table at the head of Chapter 6. `nextSeq` is none when EXHAUSTED (R98). -/
structure EventQueue where
  records : List Record
  nextSeq : Option Nat
  lostTotal : Nat
  lostTrips : Nat
  overwritten : Nat
deriving DecidableEq, Repr, Inhabited

/-! ### Shifts (Chapter 9) -/

/-- One entry of the schedule (R143). -/
structure ScheduleEntry where
  start : Nat
  crew : Nat
  window : Nat
deriving DecidableEq, Repr, Inhabited

/-- The shift states (R146). -/
inductive ShiftState where
  | onShift | handover | overdue
deriving DecidableEq, Repr, Inhabited

/-- The kinds of shift record (R147). -/
inductive ShiftKind where
  | opened | completed | self | interrupted
deriving DecidableEq, Repr, Inhabited

/-- A unit's activity during a shift (R147). -/
structure ShiftUnit where
  genUs : Nat
  pumpUs : Nat
  starts : Nat
  trips : Nat
deriving DecidableEq, Repr, Inhabited

/-- A shift record (R147). -/
structure ShiftRecord where
  number : Nat
  crew : Nat
  kind : ShiftKind
  nextCrew : Nat
  openDate : Date
  duration : Nat
  units : Vector ShiftUnit 8
  stationTrips : Nat
  worstClass : Nat
  steps : Nat
  missed : Nat
  overdue : Bool
  loss : Bool
deriving DecidableEq, Repr, Inhabited

/-- The handover window timer: its opening instant and its expiry on E (R154). -/
structure WindowTimer where
  opening : Nat
  expiry : Nat
deriving DecidableEq, Repr, Inhabited

/-- An entry of the open trip list (R162). -/
structure OpenTrip where
  seq : Nat
  unit : Nat
  date : Date
deriving DecidableEq, Repr, Inhabited

/-- SHU: the table at the head of Chapter 9. -/
structure ShiftUnitState where
  schedule : List ScheduleEntry
  state : ShiftState
  current : ShiftRecord
  expected : Option Nat
  release : Bool
  accept : Bool
  window : Option WindowTimer
  openTrips : List OpenTrip
  overflow : Bool
  history : List ShiftRecord
deriving DecidableEq, Repr, Inhabited

/-! ### The configuration table (Chapter 11) -/

/-- The queue policies (R100, R102). -/
inductive QueuePolicy where
  | stop | overwrite
deriving DecidableEq, Repr, Inhabited

/-- The configuration of one line (the first table of Chapter 5). -/
structure LineSettings where
  kind : LineKind
  unit : Nat
  activeLow : Bool
  filter : Nat
  comp : Nat
  record : Bool
  notify : Bool
deriving DecidableEq, Repr, Inhabited

/-- The configuration of one unit (Chapters 7 and 8). -/
structure UnitSettings where
  group : Nat
  wStill : Nat
  wSpin : Nat
  wGen : Nat
  wPump : Nat
  wCond : Nat
  wIndet : Nat
  startWeight : Nat
  tripWeight : Nat
  modeRecord : Bool
  discrepDelay : Nat
deriving DecidableEq, Repr, Inhabited

/-- The configuration table: every item of 11.4 (R191). -/
structure Settings where
  localOffset : Int
  prefSource : Source
  revertDelay : Nat
  refaId : Nat
  refaMatchHigh : Bool
  delayA : Nat
  delayB : Nat
  phaseLimit : Nat
  phaseHyst : Nat
  faultCount : Nat
  lockLimit : Nat
  stepLimit : Nat
  stepAllow : Bool
  freqWindow : Nat
  phaseGain : Nat
  slewLimit : Nat
  holdDrift : Nat
  feedEnable : Bool
  feedId : Nat
  feedClassLimit : Nat
  feedActHold : Nat
  feedActClass : Nat
  feedActFree : Nat
  chatterCount : Nat
  chatterWindow : Nat
  queuePolicy : QueuePolicy
  watermark : Nat
  autosaveHours : Nat
  saveAtShift : Bool
  noticeMask : BitVec 14
  manualWindow : Nat
  lines : Vector LineSettings 32
  units : Vector UnitSettings 8
deriving DecidableEq, Repr, Inhabited

/-! ### The store (Chapter 10) -/

/-- The image (R170): its parts as data, since the spec lays out no bytes for them (entry 13). -/
structure Image where
  cfg : Settings
  schedule : List ScheduleEntry
  tallies : Vector Tally 8
  current : ShiftRecord
  openTrips : List OpenTrip
  overflow : Bool
  history : List ShiftRecord
  f : Int
  leap : Int
deriving DecidableEq, Repr, Inhabited

/-- An image as it is written (R170): the format byte, the items and the check. -/
structure StoredImage where
  format : Byte
  image : Image
  check : BitVec 16
deriving DecidableEq, Repr, Inhabited

/-- What stands in the non-volatile memory (R171, R181): every byte erased, an image, or bytes that a write which
failed or was cut off has left (entry 13). -/
inductive Store where
  | erased
  | holds (x : StoredImage)
  | broken
deriving DecidableEq, Repr, Inhabited

/-- The save in flight (R173, R174). The snapshot, with its format byte and check, is none only between the request
of a SHIFT save and the end of the close that asked for it. `draw` numbers the free values of this save
(entry 12). -/
structure SaveInFlight where
  trigger : Trigger
  start : Nat
  snapshot : Option StoredImage
  draw : Nat
deriving DecidableEq, Repr, Inhabited

/-- STC: the table at the head of Chapter 10, and the non-volatile memory itself. -/
structure StoreController where
  store : Store
  state : StoreState
  inFlight : Option SaveInFlight
  queued : Option Trigger
  lastEnd : Nat
  autosave : Option Nat
  holdup : Bool
deriving DecidableEq, Repr, Inhabited

/-! ### The link and the notices (Chapter 11) -/

/-- The reply being sent and its end instant on E (R186). -/
structure ReplyInProgress where
  bytes : List Byte
  endAt : Nat
deriving DecidableEq, Repr, Inhabited

/-- LKC: the first table of Chapter 11. `receive` is none in HUNT; `begun` says that a byte is being received on
LRXD (R182). -/
structure LinkController where
  rate : BitVec 2
  begun : Bool
  receive : Option (List Byte)
  gap : Option Nat
  reply : Option ReplyInProgress
  noise : Nat
  gapErr : Nat
  length : Nat
  check : Nat
  overrun : Nat
  linkErr : Bool
deriving DecidableEq, Repr, Inhabited

/-- NTC (R193, R195). `flags` and `conditions` have the notice bits of Chapter 12. -/
structure NoticeUnit where
  flags : BitVec 14
  conditions : BitVec 14
  attn : Bool
deriving DecidableEq, Repr, Inhabited

/-! ### The whole part -/

/-- The state of the part, the count of free values drawn (entry 25) and the queue of waiting commands. -/
structure State where
  tsc : TimeScale
  rrx : Receiver
  dsc : Discipline
  ftx : Feed
  lqu : Vector Line 32
  evq : EventQueue
  tlu : TallyUnit
  shu : ShiftUnitState
  stc : StoreController
  lkc : LinkController
  ntc : NoticeUnit
  cfg : Settings
  draws : Nat
  pending : List Instr
deriving DecidableEq, Repr, Inhabited

/-! ### Values at reset -/

/-- The line defaults of 11.4. -/
def LineSettings.dflt : LineSettings :=
  { kind := .unused, unit := 0, activeLow := false, filter := 10, comp := 0, record := true, notify := true }

/-- The unit defaults of 11.4. -/
def UnitSettings.dflt : UnitSettings :=
  { group := 0, wStill := 0, wSpin := 128, wGen := 256, wPump := 256, wCond := 64, wIndet := 256,
    startWeight := 25, tripWeight := 100, modeRecord := true, discrepDelay := 5 }

/-- The defaults of the configuration table (11.4). -/
def Settings.dflt : Settings :=
  { localOffset := 0, prefSource := .a, revertDelay := 60, refaId := 255, refaMatchHigh := false,
    delayA := 0, delayB := 0, phaseLimit := 100000, phaseHyst := 10000, faultCount := 2,
    lockLimit := 10000, stepLimit := 1000000, stepAllow := true, freqWindow := 4, phaseGain := 4,
    slewLimit := 50000, holdDrift := 1000, feedEnable := true, feedId := 1, feedClassLimit := 3,
    feedActHold := 1, feedActClass := 1, feedActFree := 2, chatterCount := 10, chatterWindow := 10,
    queuePolicy := .stop, watermark := 240, autosaveHours := 4, saveAtShift := true, noticeMask := 0,
    manualWindow := 15, lines := Vector.replicate 32 LineSettings.dflt,
    units := Vector.replicate 8 UnitSettings.dflt }

/-- The date of the instant of a power-on reset: time 0, epoch 0, class 7 (R17, R61). -/
def Date.atReset : Date := { epoch := 0, cls := 7, s := 0, us := 0 }

/-- A source after a reset (R41). -/
def SourceData.reset : SourceData :=
  { lastMark := none, state := .absent, qualify := 0, out := 0, release := 0, lastSample := none,
    injection := none, nextMissing := none, absentAt := none }

/-- RRX after a power-on reset or an RSTRT (R41). -/
def Receiver.reset : Receiver :=
  { state := .hunt, begun := none, prevChar := none, candidate := none, lastSeq := none, lastFrame := none, srcClass := 6,
    discards := 0, srcA := SourceData.reset, srcB := SourceData.reset, selection := none, revert := none,
    countA := { accepted := 0, check := 0, ident := 0, repeated := 0, mistimed := 0, brk := 0, stale := 0,
                missing := 0 },
    countB := { accepted := 0, spurious := 0, missing := 0 } }

/-- A tally with nothing in it (R130, R140). -/
def Tally.zero : Tally :=
  { accs := { still := ⟨0, 0⟩, spin := ⟨0, 0⟩, gen := ⟨0, 0⟩, pump := ⟨0, 0⟩, cond := ⟨0, 0⟩, indet := ⟨0, 0⟩ },
    starts := 0, trips := 0, sat := false, baseline := 0, limit := 4294967295, due := false }

/-- A unit's activity at the opening of a shift (R150). -/
def ShiftUnit.zero : ShiftUnit := { genUs := 0, pumpUs := 0, starts := 0, trips := 0 }

/-- A shift record as it opens (R150). -/
def ShiftRecord.fresh (number crew : Nat) (openDate : Date) (cls : Nat) : ShiftRecord :=
  { number := number, crew := crew, kind := .opened, nextCrew := 0, openDate := openDate, duration := 0,
    units := Vector.replicate 8 ShiftUnit.zero, stationTrips := 0, worstClass := cls, steps := 0,
    missed := 0, overdue := false, loss := false }

/-- The part right after a power-on reset with an erased store, every pin low, the straps at 00 and HOLDUP
released (R17, R41, R61, R71, R91, R112, R130, R140, R168, R172, R196; entry 23 for what the pins and the
store hold). The queue of commands is empty. -/
def State.reset : State :=
  { tsc := { s := 0, n := 0, e := 0, eSub := 0, frac := 0, epoch := 0, leap := 0, pendingLeap := none,
             tracker := none, lastFired := [] },
    rrx := Receiver.reset,
    dsc := { state := .free, f := 0, sum := 0, count := 0, prev := none, c := 0, u := 4294967295, lock := 0,
             oneShot := false, view := none, srcClass := 6, effClass := 7 },
    ftx := { enable := true, sequence := 0, transmission := none },
    lqu := Vector.replicate 32
      { pinHigh := false, filtered := false, effective := false, state := .unused, pending := none,
        lastRawEdge := none, recent := [], quiet := none, bounce := 0 },
    evq := { records := [{ seq := 0, detail := .restart true .blank, injected := false, delivered := false,
                           station := false, source := 0, date := Date.atReset }],
             nextSeq := some 1, lostTotal := 0, lostTrips := 0, overwritten := 0 },
    tlu := { units := Vector.replicate 8
               { mode := .none, entry := 0, entryDate := Date.atReset, ecp := none, timer := .stopped,
                 tally := Tally.zero },
             nextEval := 60000000 },
    shu := { schedule := [], state := .onShift, current := ShiftRecord.fresh 1 0 Date.atReset 7,
             expected := none, release := false, accept := false, window := none, openTrips := [],
             overflow := false, history := [] },
    stc := { store := .erased, state := .blank, inFlight := none, queued := none, lastEnd := 0,
             autosave := some 14400000000, holdup := false },
    lkc := { rate := 0, begun := false, receive := none, gap := none, reply := none, noise := 0, gapErr := 0, length := 0,
             check := 0, overrun := 0, linkErr := false },
    ntc := { flags := 0x100, conditions := 0, attn := true },
    cfg := Settings.dflt,
    draws := 0,
    pending := [] }

end Sys2Proof.Machine
end

