-- ==== Sys2Proof/Config.lean ====
section
/-! DEFINITION. The free values: what the spec leaves open and the part goes on all the same. Each is a
constant with no body, so a statement that mentions one holds for every value of it. -/

namespace Sys2Proof.Config

/-- Where the spec lets two blocks act "in either order": whether the first one named acts first, at the
draw with this number (R6, R25, R126). DESIGN CHOICE of the form only (entries 10, 11, 21, 32). -/
opaque firstActs : Nat → Bool

/-- Which of several things that have no order among them comes next, at the draw with this number: an
index, taken modulo their count (R2, R180; entries 4 and 20). -/
opaque pickNext : Nat → Nat

/-- The length of the save with this draw number beyond 30 ms, in µs, taken modulo 30,001: R175 leaves the
length within 30 to 60 ms to the store (entry 12). -/
opaque saveLength : Nat → Nat

/-- Whether the store reads back the image of the save with this draw number as it was written, when the
part's own clock and not the sender ends the save (R175, entry 12). -/
opaque readBackEqual : Nat → Bool

/-- The bytes of the image between its format byte and its check: R170 gives the items and no places for them
(entry 13). -/
opaque imageBytes : Machine.Image → List Byte

end Sys2Proof.Config
end

