-- ==== Sys2Proof/Machine/Bytes.lean ====
section
/-! DEFINITION. Bytes: multi-byte fields (R197), the check (R199), the codes of enumerated items (R198), dates,
event records and shift records (12.3), and the station time message (12.2). -/

namespace Sys2Proof.Machine

/-! ### Fields (R197) -/

/-- A value in `k` bytes, most significant first; what does not fit is cut off (R197). -/
def beBytes : Nat → Nat → List Byte
  | 0, _ => []
  | k + 1, v => BitVec.ofNat 8 (v / 256 ^ k) :: beBytes k v

/-- A signed value in two's complement over `k` bytes (R197). -/
def beSigned (k : Nat) (v : Int) : List Byte := beBytes k (v % (256 ^ k : Nat)).toNat

/-- The unsigned value of bytes sent most significant first (R197). -/
def ofBytes (bs : List Byte) : Nat := bs.foldl (fun acc b => acc * 256 + b.toNat) 0

/-- One byte holding a small number. -/
def byteOf (v : Nat) : Byte := BitVec.ofNat 8 v

/-- A flag or level in a byte: 1 for set or active (R198). -/
def flagByte (b : Bool) : Byte := if b then 1 else 0

/-! ### The check (R199) -/

/-- One shift of the CRC register: the generator is combined when the outgoing top bit was 1 (R199). -/
def crcShift (r : BitVec 16) : BitVec 16 := if r.msb then (r <<< 1) ^^^ 0x1021#16 else r <<< 1

/-- One byte into the CRC register (R199). -/
def crcByte (r : BitVec 16) (b : Byte) : BitVec 16 :=
  let r0 := r ^^^ (b.setWidth 16 <<< 8)
  crcShift (crcShift (crcShift (crcShift (crcShift (crcShift (crcShift (crcShift r0)))))))

/-- The check over the bytes in the order they are sent (R199). -/
def crc16 (bs : List Byte) : BitVec 16 := bs.foldl crcByte 0xFFFF#16

/-- The two check bytes, high byte first (R199). -/
def checkBytes (bs : List Byte) : List Byte := beBytes 2 (crc16 bs).toNat

/-! ### Codes (R198) -/

/-- A source: 1 A, 2 B (R198). -/
def sourceCode : Source → Nat
  | .a => 1 | .b => 2

/-- A selection: 0 NONE, 1 A, 2 B (R198). -/
def selectionCode : Option Source → Nat
  | none => 0 | some src => sourceCode src

def Mode.code : Mode → Nat
  | .none => 0 | .still => 1 | .spin => 2 | .gen => 3 | .pump => 4 | .cond => 5 | .indet => 6

def DiscState.code : DiscState → Nat
  | .free => 0 | .acquire => 1 | .locked => 2 | .holdover => 3

def SourceState.code : SourceState → Nat
  | .absent => 0 | .qualifying => 1 | .usable => 2 | .faulted => 3

def ReceiverState.code : ReceiverState → Nat
  | .hunt => 0 | .sync => 1

/-- The pending leap: 0 NONE, 1 INSERT, 2 DELETE (R198). -/
def pendingLeapCode : Option PendingLeap → Nat
  | none => 0
  | some p => match p.direction with | .insert => 1 | .delete => 2

def StepReason.code : StepReason → Nat
  | .acquire => 1 | .forcedAcquire => 2 | .hostSet => 3

def LineState.code : LineState → Nat
  | .unused => 0 | .steady => 1 | .pending => 2 | .chatter => 3

def LineKind.code : LineKind → Nat
  | .unused => 0 | .plain => 1 | .trip => 2 | .breaker => 3 | .speed => 4 | .pump => 5 | .cond => 6

/-- The discrepancy timer: 0 STOPPED, 1 RUNNING, 2 EXPIRED (R198). -/
def DiscTimer.code : DiscTimer → Nat
  | .stopped => 0 | .running _ => 1 | .expired => 2

def TallyField.code : TallyField → Nat
  | .stillS => 1 | .spinS => 2 | .genS => 3 | .pumpS => 4 | .condS => 5 | .indetS => 6 | .starts => 7
  | .trips => 8 | .baseline => 9

def ShiftState.code : ShiftState → Nat
  | .onShift => 0 | .handover => 1 | .overdue => 2

def ShiftKind.code : ShiftKind → Nat
  | .opened => 0 | .completed => 1 | .self => 2 | .interrupted => 3

def ShiftEvent.code : ShiftEvent → Nat
  | .handoverDue => 1 | .overdue => 2 | .missed => 3 | .completed => 4 | .self => 5 | .skipped => 6

def StoreState.code : StoreState → Nat
  | .valid => 0 | .blank => 1 | .corrupt => 2

def Trigger.code : Trigger → Nat
  | .save => 1 | .shift => 2 | .autosave => 3 | .holdup => 4 | .dflt => 5

/-! ### Composite items (R198) and records (12.3) -/

/-- A date in 10 bytes (R198). -/
def Date.bytes (d : Date) : List Byte :=
  [byteOf d.epoch, byteOf d.cls] ++ beBytes 5 d.s ++ beBytes 3 d.us

/-- The kind byte of a record (12.3). -/
def Detail.kindCode : Detail → Nat
  | .edge .. => 1 | .trip .. => 2 | .tripclr .. => 3 | .chatter .. => 4 | .mode .. => 5 | .discrep .. => 6
  | .maint .. => 7 | .preset .. => 8 | .ref .. => 9 | .disc .. => 10 | .step .. => 11 | .leap .. => 12
  | .shift .. => 13 | .store .. => 14 | .overflow .. => 15 | .flushed .. => 16 | .restart .. => 17

/-- The detail bytes a kind uses, from d0 on (the table of 12.3). -/
def Detail.usedBytes : Detail → List Byte
  | .edge level kind unit => [flagByte level, byteOf kind.code, byteOf unit]
  | .trip unit m seconds trips =>
      [byteOf (unit * 16 + m.code)] ++ beBytes 4 seconds ++ beBytes 2 trips
  | .tripclr unit => [byteOf unit]
  | .chatter entered level => [if entered then 1 else 2, flagByte level]
  | .mode unit old new starts => [byteOf unit, byteOf old.code, byteOf new.code] ++ beBytes 2 starts
  | .discrep unit b sp p c => [byteOf unit, flagByte b, flagByte sp, flagByte p, flagByte c]
  | .maint unit eoh => byteOf unit :: beBytes 4 eoh
  | .preset unit field value => [byteOf unit, byteOf field.code] ++ beBytes 4 value
  | .ref source old new selected =>
      [byteOf (sourceCode source), byteOf old.code, byteOf new.code, byteOf (selectionCode selected)]
  | .disc old new cls => [byteOf old.code, byteOf new.code, byteOf cls]
  | .step amount reason => beSigned 6 amount ++ [byteOf reason.code]
  | .leap old new self => beSigned 1 old ++ beSigned 1 new ++ [if self then 2 else 1]
  | .shift event number crew => byteOf event.code :: beBytes 2 number ++ [byteOf crew]
  | .store ok trigger => [if ok then 0 else 1, byteOf trigger.code]
  | .overflow lost lostTrips => beBytes 2 lost ++ beBytes 2 lostTrips
  | .flushed count => beBytes 2 count
  | .restart powerOn st => [if powerOn then 1 else 2, byteOf st.code]

/-- The seven detail bytes; those a kind does not use are 0 (R197). -/
def Detail.bytes (d : Detail) : List Byte := (d.usedBytes ++ List.replicate 7 0).take 7

/-- The flags byte of a record (12.3). -/
def Record.flagsByte (r : Record) : Byte :=
  byteOf ((if r.injected then 1 else 0) + (if r.delivered then 2 else 0) + (if r.station then 4 else 0))

/-- A record in 24 bytes (12.3). -/
def Record.bytes (r : Record) : List Byte :=
  beBytes 4 r.seq ++ [byteOf r.detail.kindCode, r.flagsByte, byteOf r.source] ++ r.date.bytes ++ r.detail.bytes

/-- A unit's twelve bytes in a shift record (12.3). -/
def ShiftUnit.bytes (u : ShiftUnit) : List Byte :=
  beBytes 5 u.genUs ++ beBytes 5 u.pumpUs ++ [byteOf u.starts, byteOf u.trips]

/-- A shift record in 122 bytes (12.3). -/
def ShiftRecord.bytes (r : ShiftRecord) : List Byte :=
  beBytes 4 r.number ++ [byteOf r.crew, byteOf r.kind.code, byteOf r.nextCrew] ++ r.openDate.bytes
    ++ beBytes 2 r.duration ++ r.units.toList.flatMap ShiftUnit.bytes ++ [byteOf r.stationTrips, byteOf r.worstClass]
    ++ beBytes 2 r.steps ++ [byteOf r.missed, flagByte r.overdue, flagByte r.loss]

/-- An open trip list entry in 15 bytes (12.3). -/
def OpenTrip.bytes (t : OpenTrip) : List Byte := beBytes 4 t.seq ++ [byteOf t.unit] ++ t.date.bytes

end Sys2Proof.Machine

namespace Sys2Proof

open Sys2Proof.Machine

/-! ### The station time message (12.2) -/

/-- Bytes 2 to 10, which the check covers (R199). -/
def StationMessage.covered (m : StationMessage) : List Byte :=
  [m.sourceId, m.status] ++ beBytes 5 m.civil.toNat ++ [m.leap, m.sequence]

/-- Bytes 2 to 12: the message and the check it carries. -/
def StationMessage.bytes (m : StationMessage) (check : BitVec 16) : List Byte := m.covered ++ beBytes 2 check.toNat

/-- The thirteen characters: the sync pair and the bytes after it. -/
def StationMessage.characters (m : StationMessage) (check : BitVec 16) : List Byte := [0xC3, 0x3C] ++ m.bytes check

/-- The message and the check in bytes 2 to 12 of a candidate; none when there are not eleven of them. -/
def StationMessage.ofBytes : List Byte → Option (StationMessage × BitVec 16)
  | [b2, b3, b4, b5, b6, b7, b8, b9, b10, b11, b12] =>
      some ({ sourceId := b2, status := b3, civil := BitVec.ofNat 40 (Machine.ofBytes [b4, b5, b6, b7, b8]),
              leap := b9, sequence := b10 }, BitVec.ofNat 16 (Machine.ofBytes [b11, b12]))
  | _ => none

/-- Bits 0 to 2 of the status byte: the source class field (12.2). -/
def StationMessage.classField (m : StationMessage) : Nat := m.status.toNat % 8

/-- Bit 3: leap pending (12.2). -/
def StationMessage.leapPending (m : StationMessage) : Bool := m.status.getLsbD 3

/-- Bit 4: leap direction, 0 insert and 1 delete (12.2, R9). -/
def StationMessage.leapDirection (m : StationMessage) : LeapDirection :=
  if m.status.getLsbD 4 then .delete else .insert

/-- Bit 5: degraded (12.2). -/
def StationMessage.degraded (m : StationMessage) : Bool := m.status.getLsbD 5

/-- L of the frame, signed (12.2). -/
def StationMessage.leapCount (m : StationMessage) : Int := m.leap.toInt

end Sys2Proof
end

