-- ==== Sys2Proof/Machine/Flags.lean ====
section
/-! DEFINITION. The fourteen notices, their flags and conditions, and the ATTN line (R193 to R195, 12.2). -/

namespace Sys2Proof.Machine

/-- The fourteen notices in the order of their bits (12.2). -/
inductive Notice where
  | trip | queueLoss | refChange | disciplineChange | handoverDue | handoverMissed | chatter | storeFail
  | restarted | queueLevel | maintDue | discrepancy | supplyLow | handoverOverdue
deriving DecidableEq, Repr, Inhabited

/-- The bit of a notice in every notice set (12.2). -/
def Notice.bit : Notice → BitVec 14
  | .trip => 0x1 | .queueLoss => 0x2 | .refChange => 0x4 | .disciplineChange => 0x8 | .handoverDue => 0x10
  | .handoverMissed => 0x20 | .chatter => 0x40 | .storeFail => 0x80 | .restarted => 0x100
  | .queueLevel => 0x200 | .maintDue => 0x400 | .discrepancy => 0x800 | .supplyLow => 0x1000
  | .handoverOverdue => 0x2000

/-- ATTN by its definition: some latched flag is not masked (R195). -/
def attnOf (flags mask : BitVec 14) : Bool := decide (flags &&& ~~~mask ≠ 0)

/-- NTC with these flags, ATTN evaluated again (R193, R195). -/
def NoticeUnit.withFlags (n : NoticeUnit) (flags mask : BitVec 14) : NoticeUnit :=
  { n with flags := flags, attn := attnOf flags mask }

/-- An event notice raised (R193). -/
def NoticeUnit.raise (n : NoticeUnit) (what : Notice) (mask : BitVec 14) : NoticeUnit :=
  n.withFlags (n.flags ||| what.bit) mask

/-- Whether NTC records the condition as holding (R193). -/
def NoticeUnit.holds (n : NoticeUnit) (what : Notice) : Bool := decide (n.conditions &&& what.bit ≠ 0)

/-- A condition handed to NTC (R193): one already recorded as holding changes nothing. -/
def NoticeUnit.hand (n : NoticeUnit) (what : Notice) (holds : Bool) (mask : BitVec 14) : NoticeUnit :=
  if holds then
    if n.holds what then n
    else { n.raise what mask with conditions := n.conditions ||| what.bit }
  else { n with conditions := n.conditions &&& ~~~what.bit }

/-- A STAT's clearing: every flag is cleared, and the flag of each condition that holds is set again (R194). -/
def NoticeUnit.clear (n : NoticeUnit) (mask : BitVec 14) : NoticeUnit := n.withFlags n.conditions mask

/-- NTC's part of an RSTRT: the flags are cleared, RESTARTED is set, and the conditions that hold set theirs
again, under the reloaded mask (R196). -/
def NoticeUnit.restart (n : NoticeUnit) (mask : BitVec 14) : NoticeUnit :=
  n.withFlags (n.conditions ||| Notice.restarted.bit) mask

/-- NTC's part of a power-on reset (R196). -/
def NoticeUnit.powerOn (mask : BitVec 14) : NoticeUnit :=
  { flags := Notice.restarted.bit, conditions := 0, attn := attnOf Notice.restarted.bit mask }

end Sys2Proof.Machine
end

