-- ==== Sys2Proof/Machine/Ops.lean ====
section
/-! DEFINITION. The shared operations: arithmetic words of the introduction, one update for each block of the
state, lines and units by their numbers, the passage of time on S:N and E (R1 to R3), date latches (R7), civil
and local time (R5), notices and the quality class, and the free choice between two orders. -/

namespace Sys2Proof.Machine

/-! ### Arithmetic (the introduction's words) -/

/-- clamp(x, lo, hi): lo if x < lo, hi if x > hi, otherwise x. -/
def clampInt (x lo hi : Int) : Int := if x < lo then lo else if hi < x then hi else x

/-- clamp on counts. -/
def clampNat (x lo hi : Nat) : Nat := if x < lo then lo else if hi < x then hi else x

/-- A count that holds at its largest value. -/
def satAdd (x d hi : Nat) : Nat := min (x + d) hi

/-- x held at ±hi. -/
def holdAt (x : Int) (hi : Nat) : Int := clampInt x (-(hi : Int)) hi

/-- a / k rounded to the nearest integer, halves away from zero (R44, R46). -/
def roundDiv (a : Int) (k : Nat) : Int :=
  if 0 ≤ a then ((2 * a.natAbs + k) / (2 * k) : Nat) else -((2 * a.natAbs + k) / (2 * k) : Nat)

/-- a / k rounded up, for remaining times (R198). -/
def ceilDiv (a k : Nat) : Nat := (a + k - 1) / k

/-- The largest 32-bit count. -/
def max32 : Nat := 4294967295

/-- The largest 16-bit count. -/
def max16 : Nat := 65535

/-! ### Blocks -/

def State.setTsc (s : State) (x : TimeScale) : State := { s with tsc := x }
def State.setRrx (s : State) (x : Receiver) : State := { s with rrx := x }
def State.setDsc (s : State) (x : Discipline) : State := { s with dsc := x }
def State.setFtx (s : State) (x : Feed) : State := { s with ftx := x }
def State.setLqu (s : State) (x : Vector Line 32) : State := { s with lqu := x }
def State.setEvq (s : State) (x : EventQueue) : State := { s with evq := x }
def State.setTlu (s : State) (x : TallyUnit) : State := { s with tlu := x }
def State.setShu (s : State) (x : ShiftUnitState) : State := { s with shu := x }
def State.setStc (s : State) (x : StoreController) : State := { s with stc := x }
def State.setLkc (s : State) (x : LinkController) : State := { s with lkc := x }
def State.setNtc (s : State) (x : NoticeUnit) : State := { s with ntc := x }
def State.setCfg (s : State) (x : Settings) : State := { s with cfg := x }
def State.setDraws (s : State) (x : Nat) : State := { s with draws := x }

/-! ### Numbered things -/

/-- Entry number `i` of a table numbered from 1; the default outside it. -/
def nth {α : Type} [Inhabited α] {k : Nat} (v : Vector α k) (i : Nat) : α :=
  if i = 0 then default else v[i - 1]?.getD default

/-- The table with entry number `i` (from 1) replaced; unchanged outside it. -/
def setNth {α : Type} {k : Nat} (v : Vector α k) (i : Nat) (x : α) : Vector α k :=
  if i = 0 then v else v.setIfInBounds (i - 1) x

/-- Line EV`i`. -/
def State.line (s : State) (i : Nat) : Line := nth s.lqu i

/-- Line EV`i` replaced. -/
def State.setLine (s : State) (i : Nat) (x : Line) : State := s.setLqu (setNth s.lqu i x)

/-- The configuration of line EV`i`. -/
def State.lineCfg (s : State) (i : Nat) : LineSettings := nth s.cfg.lines i

/-- Unit `u`. -/
def State.unit (s : State) (u : Nat) : GenUnit := nth s.tlu.units u

/-- Unit `u` replaced. -/
def State.setUnit (s : State) (u : Nat) (x : GenUnit) : State :=
  s.setTlu { s.tlu with units := setNth s.tlu.units u x }

/-- The tally of unit `u` replaced. -/
def State.setTally (s : State) (u : Nat) (x : Tally) : State := s.setUnit u { s.unit u with tally := x }

/-- The configuration of unit `u`. -/
def State.unitCfg (s : State) (u : Nat) : UnitSettings := nth s.cfg.units u

/-- The current shift record replaced. -/
def State.setCurrent (s : State) (x : ShiftRecord) : State := s.setShu { s.shu with current := x }

/-- The numbers 1 to `k`. -/
def numbers (k : Nat) : List Nat := (List.range k).map (· + 1)

/-- A change applied for each of several things in turn. -/
def forAll {α : Type} (xs : List α) (f : α → State → State) (s : State) : State :=
  xs.foldl (fun acc x => f x acc) s

/-! ### Free order -/

/-- Two changes in either order (R6, R25, R126): the free value of this draw says whether `f` is first. -/
def eitherOrder (f g : State → State) (s : State) : State :=
  let s' := s.setDraws (s.draws + 1)
  if Config.firstActs s.draws then g (f s') else f (g s')

/-- The things of a list in a free order: each time the free value picks the next (entries 4 and 20). `fuel`
bounds the recursion by the list's length. -/
def freeOrderAux {α : Type} : Nat → Nat → List α → List α
  | 0, _, xs => xs
  | _ + 1, _, [] => []
  | _ + 1, _, [x] => [x]
  | fuel + 1, draw, x :: y :: rest =>
      let xs := x :: y :: rest
      let i := Config.pickNext draw % xs.length
      (xs[i]?).toList ++ freeOrderAux fuel (draw + 1) (xs.eraseIdx i)

/-- The list in a free order, by the draws from `draw` on. -/
def freeOrder {α : Type} (draw : Nat) (xs : List α) : List α := freeOrderAux xs.length draw xs

/-! ### Time (R1 to R3) -/

/-- Nanoseconds in a second. -/
def nsPerS : Nat := 1000000000

/-- Station time counts 2^40 seconds before it wraps (R1). -/
def secondsModulus : Nat := 2 ^ 40

/-- `ns` ns of steered time pass: S:N and E advance together (R1 to R3). -/
def TimeScale.advance (t : TimeScale) (ns : Nat) : TimeScale :=
  { t with
    s := (t.s + (t.n + ns) / nsPerS) % secondsModulus
    n := (t.n + ns) % nsPerS
    e := t.e + (t.eSub + ns) / 1000
    eSub := (t.eSub + ns) % 1000 }

/-- Elapsed time in ns: E and what has passed of its next µs (entry 6). -/
def TimeScale.elapsed (t : TimeScale) : Nat := t.e * 1000 + t.eSub

/-- E as the part shows it: it wraps at 2^64 (R2, entry 5). -/
def TimeScale.shownE (t : TimeScale) : Nat := t.e % 2 ^ 64

/-- Station time in ns (R1, R8). -/
def TimeScale.totalNs (t : TimeScale) : Int := (t.s * nsPerS + t.n : Nat)

/-! ### Dates (R7) -/

/-- The date latch: S, N, epoch and E as they stand, and the class in force (R7). -/
def State.latch (s : State) : Latch :=
  { s := s.tsc.s, n := s.tsc.n, epoch := s.tsc.epoch, e := s.tsc.e, cls := s.dsc.effClass }

/-- A latch as records and replies carry it: µs is N div 1000 (R7). -/
def dateOf (l : Latch) : Date := { epoch := l.epoch, cls := l.cls, s := l.s, us := l.n / 1000 }

/-- The date of this instant. -/
def State.dateNow (s : State) : Date := dateOf s.latch

/-! ### Civil and local time (R5) -/

/-- Civil seconds C = S - L (R5). -/
def TimeScale.civil (t : TimeScale) : Int := t.s - t.leap

/-- The minute count 1,440 d + m of a local minute (R5). -/
def LocalMinute.count (m : LocalMinute) : Int := 1440 * m.day + m.minute

/-- The local minute of a count of minutes. -/
def LocalMinute.ofCount (c : Int) : LocalMinute := { day := c / 1440, minute := (c % 1440).toNat }

/-- The local minute (d, m) of the present (R5): local seconds div 60, in days and minutes. -/
def State.localMinute (s : State) : LocalMinute :=
  LocalMinute.ofCount ((s.tsc.civil + 60 * s.cfg.localOffset) / 60)

/-! ### Notices (Chapter 11) -/

/-- An event notice raised in NTC (R193). -/
def State.raise (s : State) (what : Notice) : State := s.setNtc (s.ntc.raise what s.cfg.noticeMask)

/-- A condition handed to NTC (R193). -/
def State.hand (s : State) (what : Notice) (holds : Bool) : State :=
  s.setNtc (s.ntc.hand what holds s.cfg.noticeMask)

/-! ### The quality class (R50) -/

/-- The U class: the first row whose bound U does not exceed (R50). -/
def uClass (u : Nat) : Nat :=
  if u ≤ 1000 then 0 else if u ≤ 10000 then 1 else if u ≤ 100000 then 2 else if u ≤ 1000000 then 3
  else if u ≤ 10000000 then 4 else if u ≤ 100000000 then 5 else 6

/-- The effective class by its definition (R50). -/
def Discipline.classNow (d : Discipline) : Nat :=
  if d.state = .free then 7
  else max (uClass d.u) (if d.view = some .a then d.srcClass else 0)

/-- DSC evaluates the effective class and hands a change to SHU, which keeps the worst of the shift
(R50, R148). -/
def State.evalClass (s : State) : State :=
  let cls := s.dsc.classNow
  if cls = s.dsc.effClass then s
  else
    (s.setDsc { s.dsc with effClass := cls }).setCurrent
      { s.shu.current with worstClass := max s.shu.current.worstClass cls }

/-! ### Lines -/

/-- The line level: the pin level read through the polarity, true for active (R74). -/
def State.lineLevel (s : State) (i : Nat) : Bool := (s.line i).pinHigh != (s.lineCfg i).activeLow

/-- The four status kinds (R72). -/
def LineKind.isStatus : LineKind → Bool
  | .breaker | .speed | .pump | .cond => true
  | .unused | .plain | .trip => false

end Sys2Proof.Machine
end

