-- ==== Sys2Proof/Machine/Queue.lean ====
section
/-! DEFINITION. EVQ (Chapter 6): placing a record under the two policies, losses, the watermark, and the bodies
of the requests EFLS, EFCH and EREL. -/

namespace Sys2Proof.Machine

/-- The room of the queue (Chapter 6). -/
def queueCapacity : Nat := 320

/-- A request to place a record (R99): `date` is none for a record dated at its placement. -/
structure Placement where
  detail : Detail
  source : Nat := 0
  injected : Bool := false
  station : Bool := false
  date : Option Date := none

/-- A TRIP record, for the trip counts and the OVERWRITE policy. -/
def Detail.isTrip : Detail → Bool
  | .trip .. => true
  | _ => false

/-- An OVERFLOW marker (R101). -/
def Detail.isMarker : Detail → Bool
  | .overflow .. => true
  | _ => false

/-- A marker that has absorbed one more record, both counts holding at 65,535 (R101). -/
def Detail.absorb (trip : Bool) : Detail → Detail
  | .overflow lost lostTrips =>
      .overflow (satAdd lost 1 max16) (satAdd lostTrips (if trip then 1 else 0) max16)
  | d => d

/-- The queue has counted one lost record (R100, R102). -/
def EventQueue.countLoss (q : EventQueue) (trip : Bool) : EventQueue :=
  { q with lostTotal := satAdd q.lostTotal 1 max32
           lostTrips := satAdd q.lostTrips (if trip then 1 else 0) max16 }

/-- The record given the next sequence number and put after the newest (R98, R99). -/
def EventQueue.append (q : EventQueue) (seq : Nat) (r : Record) : EventQueue :=
  { q with records := q.records ++ [{ r with seq := seq }]
           nextSeq := if seq = max32 then none else some (seq + 1) }

/-- What becomes of an arriving record. -/
inductive Fate where
  /-- It is placed with this number. -/
  | placed (seq : Nat)
  /-- It is placed with this number after a removal by the OVERWRITE policy. -/
  | placedOver (seq : Nat)
  /-- It is lost. -/
  | lost
deriving DecidableEq, Repr

/-- The list with its newest record changed. -/
def mapNewest (f : Record → Record) : List Record → List Record
  | [] => []
  | [r] => [f r]
  | r :: rs => r :: mapNewest f rs

/-- Under STOP (R100). `r` is the arriving record, `marker` an OVERFLOW marker as it would be placed now. -/
def EventQueue.placeStop (q : EventQueue) (seq : Nat) (r marker : Record) : EventQueue × Fate :=
  let trip := r.detail.isTrip
  if q.records.length ≤ 318 then (q.append seq r, .placed seq)
  else if (q.records.getLast?.map (·.detail.isMarker)).getD false then
    ({ q.countLoss trip with
        records := mapNewest (fun m => { m with detail := m.detail.absorb trip }) q.records }, .lost)
  else if q.records.length = 319 then ((q.countLoss trip).append seq marker, .lost)
  else (q.countLoss trip, .lost)

/-- A record that R102 case 1 may remove: neither delivered nor a TRIP. -/
def Record.yields (r : Record) : Bool := !r.delivered && !r.detail.isTrip

/-- A record that R102 case 2 may remove: an undelivered TRIP. -/
def Record.yieldsToTrip (r : Record) : Bool := !r.delivered && r.detail.isTrip

/-- Under OVERWRITE (R102). -/
def EventQueue.placeOverwrite (q : EventQueue) (seq : Nat) (r : Record) : EventQueue × Fate :=
  let trip := r.detail.isTrip
  let removing (pick : Record → Bool) : EventQueue :=
    { q with records := q.records.eraseP pick, overwritten := satAdd q.overwritten 1 max32 }
  if q.records.length < queueCapacity then (q.append seq r, .placed seq)
  else if q.records.any Record.yields then ((removing Record.yields).append seq r, .placedOver seq)
  else if trip && q.records.any Record.yieldsToTrip then
    ((removing Record.yieldsToTrip).append seq r, .placedOver seq)
  else (q.countLoss trip, .lost)

/-- An arriving record by the policy in force (R99 to R102). While the numbers are EXHAUSTED it is lost (R98), and a
marker that is newest keeps its counts: DESIGN CHOICE, since under STOP R100 case 2 and R101 would have it absorb
the record (entry 39). -/
def EventQueue.place (q : EventQueue) (policy : QueuePolicy) (r marker : Record) : EventQueue × Fate :=
  match q.nextSeq with
  | none => (q.countLoss r.detail.isTrip, .lost)
  | some seq =>
      match policy with
      | .stop => q.placeStop seq r marker
      | .overwrite => q.placeOverwrite seq r

/-- A loss or a removal by policy is reported (R104): QUEUE_LOSS, and the loss flag of the shift. -/
def State.reportLoss (s : State) : State :=
  (s.raise .queueLoss).setCurrent { s.shu.current with loss := true }

/-- The QUEUE_LEVEL condition evaluated (R105). -/
def State.evalWatermark (s : State) : State :=
  s.hand .queueLevel (decide (s.cfg.watermark ≤ s.evq.records.length))

/-- A record as it would be placed at this instant. -/
def State.recordOf (s : State) (p : Placement) : Record :=
  { seq := 0, detail := p.detail, injected := p.injected, delivered := false, station := p.station,
    source := p.source, date := p.date.getD s.dateNow }

/-- EVQ takes a request to place a record (R99): the state after it, and the seq given, or none for LOST. -/
def State.placeSeq (s : State) (p : Placement) : State × Option Nat :=
  let r := s.evq.place s.cfg.queuePolicy (s.recordOf p)
    (s.recordOf { detail := .overflow 1 (if p.detail.isTrip then 1 else 0) })
  let s1 := s.setEvq r.1
  match r.2 with
  | .placed seq => (s1.evalWatermark, some seq)
  | .placedOver seq => (s1.reportLoss.evalWatermark, some seq)
  | .lost => (s1.reportLoss.evalWatermark, none)

/-- A record placed where the placer does not need its seq. -/
def State.place (s : State) (p : Placement) : State := (s.placeSeq p).1

/-- The QUEUE_DATA bit: some held record is not DELIVERED (R105). -/
def EventQueue.hasData (q : EventQueue) : Bool := q.records.any (fun r => !r.delivered)

/-- The held records that carry DELIVERED (Chapter 6). -/
def EventQueue.deliveredCount (q : EventQueue) : Nat := q.records.countP (·.delivered)

/-- EFCH marks the records it hands (R107). -/
def EventQueue.deliver (q : EventQueue) (k : Nat) : EventQueue :=
  { q with records := (q.records.take k).map (fun r => { r with delivered := true }) ++ q.records.drop k }

/-- RSTRT clears every DELIVERED flag (R113). -/
def EventQueue.undeliver (q : EventQueue) : EventQueue :=
  { q with records := q.records.map (fun r => { r with delivered := false }) }

/-- How many records a release of `seq` removes: up to and including the delivered record of that number;
none when no delivered record has it (R108). -/
def EventQueue.releasable (q : EventQueue) (seq : Nat) : Option Nat :=
  (q.records.findIdx? (fun r => r.seq == seq && r.delivered)).map (· + 1)

/-- A release of the `k` oldest records (R108). -/
def EventQueue.release (q : EventQueue) (k : Nat) : EventQueue := { q with records := q.records.drop k }

/-- A flush of every record, which ends the exhausted state (R106 steps 1 and 2). -/
def EventQueue.flush (q : EventQueue) : EventQueue :=
  { q with records := [], nextSeq := some (q.nextSeq.getD 0) }

end Sys2Proof.Machine
end

