-- ==== Sys2Proof/Machine/Link.lean ====
section
/-! DEFINITION. LKC's taking of a request and its reply (R184 to R187): results, the summary byte, the reply
frame, and what is refused during a save and while HOLDUP is asserted (R176, R179). -/

namespace Sys2Proof.Machine

/-- The ten result codes of R186. -/
inductive Result where
  | ok | clamped | busy | state | param | conflict | crew | notdue | unknown | badlen
deriving DecidableEq, Repr, Inhabited

/-- The code of a result (R186). -/
def Result.code : Result → Byte
  | .ok => 0 | .clamped => 1 | .busy => 2 | .state => 3 | .param => 4 | .conflict => 5 | .crew => 6
  | .notdue => 7 | .unknown => 8 | .badlen => 9

/-- What the owning block answers: a result and the reply body (R185 case 4). -/
structure Answer where
  result : Result
  body : List Byte := []
deriving DecidableEq, Repr, Inhabited

/-- The thirty request kinds (R185). -/
inductive Kind where
  | stat | lstat | idnt | rstrt | cfgw | cfgr | save | dflt | trd | tset | tacq | refs | disc | pinj
  | efch | erel | efls | lnst | einj | tlrd | tlps | mset | schw | schr | shst | hopn | hrel | hacc | tack | shhs
deriving DecidableEq, Repr, Inhabited

/-- The KIND byte of a request (R185). -/
def Kind.code : Kind → Byte
  | .stat => 0x01 | .lstat => 0x02 | .idnt => 0x03 | .rstrt => 0x04 | .cfgw => 0x05 | .cfgr => 0x06
  | .save => 0x07 | .dflt => 0x08 | .trd => 0x10 | .tset => 0x11 | .tacq => 0x12 | .refs => 0x13
  | .disc => 0x14 | .pinj => 0x15 | .efch => 0x20 | .erel => 0x21 | .efls => 0x22 | .lnst => 0x23
  | .einj => 0x24 | .tlrd => 0x30 | .tlps => 0x31 | .mset => 0x32 | .schw => 0x40 | .schr => 0x41
  | .shst => 0x42 | .hopn => 0x43 | .hrel => 0x44 | .hacc => 0x45 | .tack => 0x46 | .shhs => 0x47

/-- Every request kind. -/
def Kind.all : List Kind :=
  [.stat, .lstat, .idnt, .rstrt, .cfgw, .cfgr, .save, .dflt, .trd, .tset, .tacq, .refs, .disc, .pinj,
   .efch, .erel, .efls, .lnst, .einj, .tlrd, .tlps, .mset, .schw, .schr, .shst, .hopn, .hrel, .hacc, .tack, .shhs]

/-- The request kind of a KIND byte; none is UNKNOWN (R185 case 1). -/
def Kind.ofCode (b : Byte) : Option Kind := Kind.all.find? (fun k => k.code == b)

/-- The kinds refused while a save is in flight (R176). -/
def Kind.refusedInSave : Kind → Bool
  | .cfgw | .tlps | .mset | .schw | .dflt | .rstrt => true
  | _ => false

/-- The kinds served while HOLDUP is asserted (R179). -/
def Kind.servedInHoldup : Kind → Bool
  | .stat | .lstat | .idnt | .trd | .tlrd | .shst | .efch | .erel => true
  | _ => false

/-- A request that R185 case 3 answers BUSY. -/
def State.busy (s : State) (k : Kind) : Bool :=
  (s.stc.inFlight.isSome && k.refusedInSave) || (s.stc.holdup && !k.servedInHoldup)

/-- The five link error counters (R184). -/
inductive LinkError where
  | length | gap | check | overrun
deriving DecidableEq, Repr, Inhabited

/-- A damaged frame is counted and LINK_ERR set (R184). -/
def LinkController.error (l : LinkController) : LinkError → LinkController
  | .length => { l with length := satAdd l.length 1 max16, linkErr := true }
  | .gap => { l with gapErr := satAdd l.gapErr 1 max16, linkErr := true }
  | .check => { l with check := satAdd l.check 1 max16, linkErr := true }
  | .overrun => { l with overrun := satAdd l.overrun 1 max16, linkErr := true }

/-- A damaged frame: nothing outside LKC changes (R184). -/
def State.linkError (s : State) (what : LinkError) : State := s.setLkc (s.lkc.error what)

/-- The summary byte as the state stands (R187, bits of 12.2). -/
def State.summary (s : State) : Byte :=
  byteOf ((if s.ntc.flags &&& Notice.restarted.bit ≠ 0 then 1 else 0)
    + (if s.lkc.linkErr then 2 else 0)
    + (if s.ntc.attn then 4 else 0)
    + (if s.dsc.effClass ≤ s.cfg.feedClassLimit then 8 else 0)
    + (if s.stc.inFlight.isSome then 16 else 0)
    + (if s.evq.hasData then 32 else 0))

/-- The part of a reply frame that its check covers: LEN in two bytes, KIND with 0x80 added, TAG, RESULT,
SUMMARY and the body (R182, R186, 12.2). A result other than OK or CLAMPED has an empty body (R197). For a request
KIND of 0x80 or above, which is UNKNOWN, the sum wraps within its byte: DESIGN CHOICE (entry 40). -/
def replyCovered (kind tag : Byte) (a : Answer) (summary : Byte) : List Byte :=
  let body := if a.result = .ok ∨ a.result = .clamped then a.body else []
  beBytes 2 (body.length + 4) ++ [kind + 0x80, tag, a.result.code, summary] ++ body

/-- A reply frame: SOF, the covered part and its check (R186). -/
def replyFrame (kind tag : Byte) (a : Answer) (summary : Byte) : List Byte :=
  let covered := replyCovered kind tag a summary
  0xA7 :: covered ++ checkBytes covered

/-- The link rate in baud (R182). -/
def baud (rate : BitVec 2) : Nat :=
  match rate.toNat with
  | 0 => 19200
  | 1 => 57600
  | 2 => 115200
  | _ => 230400

/-- The time `k` bytes take on the link, in µs of E, rounded up (R182, entry 15). -/
def linkTime (rate : BitVec 2) (k : Nat) : Nat := ceilDiv (k * 10 * 1000000) (baud rate)

/-- LKC builds the reply and begins to send it (R186). -/
def State.sendReply (s : State) (kind tag : Byte) (a : Answer) : State :=
  let bytes := replyFrame kind tag a s.summary
  s.setLkc { s.lkc with reply := some { bytes := bytes, endAt := s.tsc.e + linkTime s.lkc.rate bytes.length } }

/-- A complete good frame of a request of kind `k` (R184, R185): OVERRUN while a reply is in progress, BUSY by
case 3, else handed to its owning block, whose answer LKC sends. -/
def State.takeRequest (s : State) (k : Kind) (tag : Byte) (serve : State → State × Answer) : State :=
  if s.lkc.reply.isSome then s.linkError .overrun
  else if s.busy k then s.sendReply k.code tag { result := .busy }
  else
    let r := serve s
    r.1.sendReply k.code tag r.2

end Sys2Proof.Machine
end

