-- ==== Sys2Proof/Machine/Collect.lean ====
section
/-! DEFINITION. The requests of EVQ (R106 to R108) and the general readings STAT, LSTAT and IDNT (R188, R189,
R194). -/

namespace Sys2Proof.Machine

/-! ### EFLS, EFCH, EREL -/

/-- EFLS at EVQ (R106): every record removed, the FLUSHED record placed. -/
def serveEfls (s : State) : State × Answer :=
  let removed := s.evq.records.length
  let r := (s.setEvq s.evq.flush).placeSeq { detail := .flushed removed }
  (r.1, { result := .ok, body := beBytes 2 removed ++ beBytes 4 (r.2.getD 0) })

/-- EFLS (R106). -/
def execEfls (tag : Byte) (s : State) : Host.Outcome State Fault Refusal := .next (s.takeRequest .efls tag serveEfls)

/-- The largest fetch (R107). -/
def largestFetch : Nat := 8

/-- The EFCH reply body for the `k` oldest records: the delivered count is that after the fetch, the records show
their flags as before it (R107, 12.4). -/
def EventQueue.fetchBody (q : EventQueue) (k : Nat) : List Byte :=
  beBytes 2 q.records.length ++ [byteOf (q.deliver k).deliveredCount] ++ beBytes 4 q.lostTotal
    ++ beBytes 2 q.lostTrips ++ beBytes 4 q.overwritten
    ++ [byteOf (q.records.take k).length] ++ (q.records.take k).flatMap Record.bytes

/-- EFCH at EVQ (R107): 1 to 8 records wanted, any other value PARAM. -/
def serveEfch (wanted : Byte) (s : State) : State × Answer :=
  if 1 ≤ wanted.toNat ∧ wanted.toNat ≤ largestFetch then
    (s.setEvq (s.evq.deliver wanted.toNat), { result := .ok, body := s.evq.fetchBody wanted.toNat })
  else (s, { result := .param })

/-- EFCH (R107). -/
def execEfch (tag wanted : Byte) (s : State) : Host.Outcome State Fault Refusal :=
  .next (s.takeRequest .efch tag (serveEfch wanted))

/-- EREL at EVQ (R108): a seq that no delivered record has is PARAM. -/
def serveErel (seq : BitVec 32) (s : State) : State × Answer :=
  match s.evq.releasable seq.toNat with
  | none => (s, { result := .param })
  | some k =>
      let q := s.evq.release k
      ((s.setEvq q).evalWatermark, { result := .ok, body := beBytes 2 k ++ beBytes 2 q.records.length })

/-- EREL (R108). -/
def execErel (tag : Byte) (seq : BitVec 32) (s : State) : Host.Outcome State Fault Refusal :=
  .next (s.takeRequest .erel tag (serveErel seq))

/-! ### STAT, LSTAT, IDNT -/

/-- The STAT reply body: flags, conditions and mask in notice bits (R194, 12.4). -/
def State.statBody (s : State) : List Byte :=
  beBytes 2 s.ntc.flags.toNat ++ beBytes 2 s.ntc.conditions.toNat ++ beBytes 2 s.cfg.noticeMask.toNat

/-- STAT at NTC (R194): the body is filled, then the flags are cleared and those of holding conditions set. -/
def serveStat (s : State) : State × Answer :=
  (s.setNtc (s.ntc.clear s.cfg.noticeMask), { result := .ok, body := s.statBody })

/-- STAT (R194). -/
def execStat (tag : Byte) (s : State) : Host.Outcome State Fault Refusal := .next (s.takeRequest .stat tag serveStat)

/-- The LSTAT reply body (R188, 12.4). -/
def LinkController.statBody (l : LinkController) : List Byte :=
  [l.noise, l.gapErr, l.length, l.check, l.overrun].flatMap (beBytes 2) ++ [flagByte l.linkErr]

/-- The counters and LINK_ERR cleared (R188). -/
def LinkController.clear (l : LinkController) : LinkController :=
  { l with noise := 0, gapErr := 0, length := 0, check := 0, overrun := 0, linkErr := false }

/-- LSTAT at LKC (R188). -/
def serveLstat (s : State) : State × Answer := (s.setLkc s.lkc.clear, { result := .ok, body := s.lkc.statBody })

/-- LSTAT (R188). -/
def execLstat (tag : Byte) (s : State) : Host.Outcome State Fault Refusal :=
  .next (s.takeRequest .lstat tag serveLstat)

/-- The IDNT reply body (R189, 12.4). -/
def State.identity (s : State) : List Byte :=
  [0x08, 0x32, 1, 8, 32] ++ beBytes 2 queueCapacity
    ++ [byteOf largestFetch, 16, 16, 6, byteOf s.lkc.rate.toNat, byteOf s.stc.state.code]

/-- IDNT at LKC (R189). -/
def serveIdnt (s : State) : State × Answer := (s, { result := .ok, body := s.identity })

/-- IDNT (R189). -/
def execIdnt (tag : Byte) (s : State) : Host.Outcome State Fault Refusal := .next (s.takeRequest .idnt tag serveIdnt)

end Sys2Proof.Machine
end

