-- ==== Sys2Proof/Machine/Operands.lean ====
section
/-! DEFINITION. The configuration items as operands of CFGW and CFGR (11.4): numbers, scopes, ranges, what
happens outside a range, and the reading and writing of an entry. -/

namespace Sys2Proof.Machine

/-- The items of the configuration table (11.4). -/
inductive Item where
  | localOffset | prefSource | revertDelay | refaId | refaMatch | delayA | delayB | phaseLimit | phaseHyst
  | faultCount | lockLimit | stepLimit | stepAllow | freqWindow | phaseGain | slewLimit | holdDrift
  | feedEnable | feedId | feedClassLimit | feedActHold | feedActClass | feedActFree
  | lineKind | lineUnit | linePolarity | lineFilter | lineComp | lineRecord | lineNotify
  | chatterCount | chatterWindow
  | unitGroup | weightStill | weightSpin | weightGen | weightPump | weightCond | weightIndet
  | startWeight | tripWeight | modeRecord | discrepDelay
  | queuePolicy | watermark | autosaveHours | saveAtShift | noticeMask | manualWindow
deriving DecidableEq, Repr

/-- The items of chapters 1 to 4 (11.4). -/
def Item.timeItems : List Item :=
  [.localOffset, .prefSource, .revertDelay, .refaId, .refaMatch, .delayA, .delayB, .phaseLimit, .phaseHyst,
   .faultCount, .lockLimit, .stepLimit, .stepAllow, .freqWindow, .phaseGain, .slewLimit, .holdDrift, .feedEnable,
   .feedId, .feedClassLimit, .feedActHold, .feedActClass, .feedActFree]

/-- The items of chapter 5 (11.4). -/
def Item.lineItems : List Item :=
  [.lineKind, .lineUnit, .linePolarity, .lineFilter, .lineComp, .lineRecord, .lineNotify, .chatterCount,
   .chatterWindow]

/-- The items of the units (11.4). -/
def Item.unitItems : List Item :=
  [.unitGroup, .weightStill, .weightSpin, .weightGen, .weightPump, .weightCond, .weightIndet, .startWeight,
   .tripWeight, .modeRecord, .discrepDelay]

/-- The other items (11.4). -/
def Item.otherItems : List Item :=
  [.queuePolicy, .watermark, .autosaveHours, .saveAtShift, .noticeMask, .manualWindow]

/-- Every item, in the order of the table. -/
def Item.all : List Item := Item.timeItems ++ Item.lineItems ++ Item.unitItems ++ Item.otherItems

/-- The item numbers (11.4). -/
def Item.number : Item → Nat
  | .localOffset => 1 | .prefSource => 2 | .revertDelay => 3 | .refaId => 4 | .refaMatch => 5 | .delayA => 6
  | .delayB => 7 | .phaseLimit => 8 | .phaseHyst => 9 | .faultCount => 10 | .lockLimit => 11 | .stepLimit => 12
  | .stepAllow => 13 | .freqWindow => 14 | .phaseGain => 15 | .slewLimit => 16 | .holdDrift => 17
  | .feedEnable => 18 | .feedId => 19 | .feedClassLimit => 20 | .feedActHold => 21 | .feedActClass => 22
  | .feedActFree => 23
  | .lineKind => 32 | .lineUnit => 33 | .linePolarity => 34 | .lineFilter => 35 | .lineComp => 36
  | .lineRecord => 37 | .lineNotify => 38 | .chatterCount => 39 | .chatterWindow => 40
  | .unitGroup => 48 | .weightStill => 49 | .weightSpin => 50 | .weightGen => 51 | .weightPump => 52
  | .weightCond => 53 | .weightIndet => 54 | .startWeight => 55 | .tripWeight => 56 | .modeRecord => 57
  | .discrepDelay => 58
  | .queuePolicy => 64 | .watermark => 65 | .autosaveHours => 66 | .saveAtShift => 67 | .noticeMask => 68
  | .manualWindow => 69

/-- The item of a number; none is PARAM (R191 step 1). -/
def Item.ofNumber (b : Byte) : Option Item := Item.all.find? (fun it => it.number == b.toNat)

/-- The scopes of the table (11.4). -/
inductive Scope where
  | part | line | unit
deriving DecidableEq, Repr

/-- The scope of an item (11.4). -/
def Item.scope : Item → Scope
  | .lineKind | .lineUnit | .linePolarity | .lineFilter | .lineComp | .lineRecord | .lineNotify => .line
  | .unitGroup | .weightStill | .weightSpin | .weightGen | .weightPump | .weightCond | .weightIndet
  | .startWeight | .tripWeight | .modeRecord | .discrepDelay => .unit
  | .localOffset | .prefSource | .revertDelay | .refaId | .refaMatch | .delayA | .delayB | .phaseLimit
  | .phaseHyst | .faultCount | .lockLimit | .stepLimit | .stepAllow | .freqWindow | .phaseGain | .slewLimit
  | .holdDrift | .feedEnable | .feedId | .feedClassLimit | .feedActHold | .feedActClass | .feedActFree
  | .chatterCount | .chatterWindow | .queuePolicy | .watermark | .autosaveHours | .saveAtShift | .noticeMask
  | .manualWindow => .part

/-- The indices of a scope (R191 step 2). -/
def Scope.indices : Scope → List Nat
  | .part => [0]
  | .line => numbers 32
  | .unit => numbers 8

/-- The ends of an item's range; that of PHASE_HYST is taken under the PHASE_LIMIT in force (11.4, R191 step 3).
The value of an enumerated item is its code. -/
def Item.range (cfg : Settings) : Item → Int × Int
  | .localOffset => (-720, 840)
  | .prefSource | .refaMatch | .stepAllow | .feedEnable | .linePolarity | .lineRecord | .lineNotify | .modeRecord
  | .queuePolicy | .saveAtShift => (0, 1)
  | .revertDelay => (10, 600)
  | .refaId => (1, 255)
  | .delayA | .delayB => (0, 1000000)
  | .phaseLimit => (100, 100000000)
  | .phaseHyst => (0, (cfg.phaseLimit / 2 : Nat))
  | .faultCount => (0, 15)
  | .lockLimit => (100, 1000000)
  | .stepLimit => (1000000, 500000000)
  | .freqWindow => (0, 7)
  | .phaseGain => (0, 10)
  | .slewLimit => (1000, 200000)
  | .holdDrift => (10, 100000)
  | .feedId => (1, 254)
  | .feedClassLimit => (0, 6)
  | .feedActHold | .feedActClass => (0, 3)
  | .feedActFree => (1, 3)
  | .lineKind => (0, 6)
  | .lineUnit => (0, 8)
  | .lineFilter => (0, 250)
  | .lineComp => (0, 65535)
  | .chatterCount => (1, 31)
  | .chatterWindow => (1, 60)
  | .unitGroup => (0, 7)
  | .weightStill | .weightSpin | .weightGen | .weightPump | .weightCond | .weightIndet => (0, 1023)
  | .startWeight | .tripWeight => (0, 65535)
  | .discrepDelay => (1, 60)
  | .watermark => (1, 320)
  | .autosaveHours => (0, 24)
  | .noticeMask => (0, 16383)
  | .manualWindow => (5, 120)

/-- The items whose row says "refuse" (11.4). -/
def Item.refuses : Item → Bool
  | .prefSource | .refaMatch | .stepAllow | .feedEnable | .lineKind | .lineUnit | .linePolarity | .lineRecord
  | .lineNotify | .modeRecord | .queuePolicy | .saveAtShift | .noticeMask => true
  | .localOffset | .revertDelay | .refaId | .delayA | .delayB | .phaseLimit | .phaseHyst | .faultCount
  | .lockLimit | .stepLimit | .freqWindow | .phaseGain | .slewLimit | .holdDrift | .feedId | .feedClassLimit
  | .feedActHold | .feedActClass | .feedActFree | .lineFilter | .lineComp | .chatterCount | .chatterWindow
  | .unitGroup | .weightStill | .weightSpin | .weightGen | .weightPump | .weightCond | .weightIndet
  | .startWeight | .tripWeight | .discrepDelay | .watermark | .autosaveHours | .manualWindow => false

/-- The value that a write stores, or none for PARAM (R191 step 3): REFA_ID refuses below its range and clamps
above it. -/
def Item.stored (it : Item) (cfg : Settings) (v : Int) : Option Int :=
  let lo := (it.range cfg).1
  let hi := (it.range cfg).2
  if lo ≤ v ∧ v ≤ hi then some v
  else if it.refuses || (decide (it = .refaId) && decide (v < lo)) then none
  else some (clampInt v lo hi)

/-! ### Reading and writing -/

/-- A flag as a value. -/
def flagValue (b : Bool) : Int := if b then 1 else 0

/-- The code of a queue policy (11.4). -/
def QueuePolicy.code : QueuePolicy → Nat
  | .stop => 0
  | .overwrite => 1

/-- PREF_SOURCE by its code in the configuration table: 0 A, 1 B (R198, 11.4; entry 27). -/
def prefCode : Source → Nat
  | .a => 0
  | .b => 1

/-- The line kind of a code (11.4). -/
def LineKind.ofCode : Nat → LineKind
  | 1 => .plain | 2 => .trip | 3 => .breaker | 4 => .speed | 5 => .pump | 6 => .cond | _ => .unused

/-- The value in force of an entry (R192). -/
def Item.read (cfg : Settings) (i : Nat) : Item → Int
  | .localOffset => cfg.localOffset
  | .prefSource => prefCode cfg.prefSource
  | .revertDelay => cfg.revertDelay
  | .refaId => cfg.refaId
  | .refaMatch => flagValue cfg.refaMatchHigh
  | .delayA => cfg.delayA
  | .delayB => cfg.delayB
  | .phaseLimit => cfg.phaseLimit
  | .phaseHyst => cfg.phaseHyst
  | .faultCount => cfg.faultCount
  | .lockLimit => cfg.lockLimit
  | .stepLimit => cfg.stepLimit
  | .stepAllow => flagValue cfg.stepAllow
  | .freqWindow => cfg.freqWindow
  | .phaseGain => cfg.phaseGain
  | .slewLimit => cfg.slewLimit
  | .holdDrift => cfg.holdDrift
  | .feedEnable => flagValue cfg.feedEnable
  | .feedId => cfg.feedId
  | .feedClassLimit => cfg.feedClassLimit
  | .feedActHold => cfg.feedActHold
  | .feedActClass => cfg.feedActClass
  | .feedActFree => cfg.feedActFree
  | .lineKind => (nth cfg.lines i).kind.code
  | .lineUnit => (nth cfg.lines i).unit
  | .linePolarity => flagValue (nth cfg.lines i).activeLow
  | .lineFilter => (nth cfg.lines i).filter
  | .lineComp => (nth cfg.lines i).comp
  | .lineRecord => flagValue (nth cfg.lines i).record
  | .lineNotify => flagValue (nth cfg.lines i).notify
  | .chatterCount => cfg.chatterCount
  | .chatterWindow => cfg.chatterWindow
  | .unitGroup => (nth cfg.units i).group
  | .weightStill => (nth cfg.units i).wStill
  | .weightSpin => (nth cfg.units i).wSpin
  | .weightGen => (nth cfg.units i).wGen
  | .weightPump => (nth cfg.units i).wPump
  | .weightCond => (nth cfg.units i).wCond
  | .weightIndet => (nth cfg.units i).wIndet
  | .startWeight => (nth cfg.units i).startWeight
  | .tripWeight => (nth cfg.units i).tripWeight
  | .modeRecord => flagValue (nth cfg.units i).modeRecord
  | .discrepDelay => (nth cfg.units i).discrepDelay
  | .queuePolicy => cfg.queuePolicy.code
  | .watermark => cfg.watermark
  | .autosaveHours => cfg.autosaveHours
  | .saveAtShift => flagValue cfg.saveAtShift
  | .noticeMask => cfg.noticeMask.toNat
  | .manualWindow => cfg.manualWindow

/-- The entry of a line replaced. -/
def Settings.setLine (cfg : Settings) (i : Nat) (x : LineSettings) : Settings :=
  { cfg with lines := setNth cfg.lines i x }

/-- The entry of a unit replaced. -/
def Settings.setUnit (cfg : Settings) (i : Nat) (x : UnitSettings) : Settings :=
  { cfg with units := setNth cfg.units i x }

/-- A line entry with one of its items stored. -/
def LineSettings.put (x : LineSettings) (v : Int) : Item → LineSettings
  | .lineKind => { x with kind := LineKind.ofCode v.toNat }
  | .lineUnit => { x with unit := v.toNat }
  | .linePolarity => { x with activeLow := decide (v = 1) }
  | .lineFilter => { x with filter := v.toNat }
  | .lineComp => { x with comp := v.toNat }
  | .lineRecord => { x with record := decide (v = 1) }
  | .lineNotify => { x with notify := decide (v = 1) }
  | _ => x

/-- A unit entry with one of its items stored. -/
def UnitSettings.put (x : UnitSettings) (v : Int) : Item → UnitSettings
  | .unitGroup => { x with group := v.toNat }
  | .weightStill => { x with wStill := v.toNat }
  | .weightSpin => { x with wSpin := v.toNat }
  | .weightGen => { x with wGen := v.toNat }
  | .weightPump => { x with wPump := v.toNat }
  | .weightCond => { x with wCond := v.toNat }
  | .weightIndet => { x with wIndet := v.toNat }
  | .startWeight => { x with startWeight := v.toNat }
  | .tripWeight => { x with tripWeight := v.toNat }
  | .modeRecord => { x with modeRecord := decide (v = 1) }
  | .discrepDelay => { x with discrepDelay := v.toNat }
  | _ => x

/-- An entry of scope "–" stored. -/
def Settings.put (cfg : Settings) (v : Int) : Item → Settings
  | .localOffset => { cfg with localOffset := v }
  | .prefSource => { cfg with prefSource := if v = 0 then .a else .b }
  | .revertDelay => { cfg with revertDelay := v.toNat }
  | .refaId => { cfg with refaId := v.toNat }
  | .refaMatch => { cfg with refaMatchHigh := decide (v = 1) }
  | .delayA => { cfg with delayA := v.toNat }
  | .delayB => { cfg with delayB := v.toNat }
  | .phaseLimit => { cfg with phaseLimit := v.toNat }
  | .phaseHyst => { cfg with phaseHyst := v.toNat }
  | .faultCount => { cfg with faultCount := v.toNat }
  | .lockLimit => { cfg with lockLimit := v.toNat }
  | .stepLimit => { cfg with stepLimit := v.toNat }
  | .stepAllow => { cfg with stepAllow := decide (v = 1) }
  | .freqWindow => { cfg with freqWindow := v.toNat }
  | .phaseGain => { cfg with phaseGain := v.toNat }
  | .slewLimit => { cfg with slewLimit := v.toNat }
  | .holdDrift => { cfg with holdDrift := v.toNat }
  | .feedEnable => { cfg with feedEnable := decide (v = 1) }
  | .feedId => { cfg with feedId := v.toNat }
  | .feedClassLimit => { cfg with feedClassLimit := v.toNat }
  | .feedActHold => { cfg with feedActHold := v.toNat }
  | .feedActClass => { cfg with feedActClass := v.toNat }
  | .feedActFree => { cfg with feedActFree := v.toNat }
  | .chatterCount => { cfg with chatterCount := v.toNat }
  | .chatterWindow => { cfg with chatterWindow := v.toNat }
  | .queuePolicy => { cfg with queuePolicy := if v = 0 then .stop else .overwrite }
  | .watermark => { cfg with watermark := v.toNat }
  | .autosaveHours => { cfg with autosaveHours := v.toNat }
  | .saveAtShift => { cfg with saveAtShift := decide (v = 1) }
  | .noticeMask => { cfg with noticeMask := BitVec.ofInt 14 v }
  | .manualWindow => { cfg with manualWindow := v.toNat }
  | _ => cfg

/-- The table with one entry stored (R191). -/
def Item.write (it : Item) (cfg : Settings) (i : Nat) (v : Int) : Settings :=
  match it.scope with
  | .part => cfg.put v it
  | .line => cfg.setLine i ((nth cfg.lines i).put v it)
  | .unit => cfg.setUnit i ((nth cfg.units i).put v it)

/-- Every entry of the table. -/
def entries : List (Item × Nat) := Item.all.flatMap (fun it => it.scope.indices.map (fun i => (it, i)))

/-- Every value clamped into its item's range, as a table is loaded at power-on (R172). -/
def Settings.clamp (cfg : Settings) : Settings :=
  entries.foldl (fun c p => p.1.write c p.2 (clampInt (p.1.read c p.2) (p.1.range c).1 (p.1.range c).2)) cfg

/-- PHASE_HYST clamped into 0 to PHASE_LIMIT div 2 (R191). -/
def Settings.clampHyst (cfg : Settings) : Settings := { cfg with phaseHyst := min cfg.phaseHyst (cfg.phaseLimit / 2) }

/-! ### Conflicts (R73) -/

/-- Another line has the same status kind and the same unit, 1 to 8, as line `i` (R73). -/
def Settings.conflict (cfg : Settings) (i : Nat) : Bool :=
  let x := nth cfg.lines i
  x.kind.isStatus && decide (1 ≤ x.unit) &&
    (numbers 32).any (fun j => j != i && (nth cfg.lines j).kind == x.kind && (nth cfg.lines j).unit == x.unit)

end Sys2Proof.Machine
end

