-- ==== Sys2Proof/Machine/Tally.lean ====
section
/-! DEFINITION. TLU (Chapters 7 and 8): modes, checkpoints, the discrepancy timer, equivalent hours and the
maintenance evaluation. Trips, status changes and the requests stand in Units.lean. -/

namespace Sys2Proof.Machine

/-! ### Modes (R114, R115) -/

/-- The line of this status kind and unit, if there is one (R114). -/
def State.statusLine (s : State) (u : Nat) (k : LineKind) : Option Nat :=
  (numbers 32).find? (fun i => decide ((s.lineCfg i).kind = k ∧ (s.lineCfg i).unit = u))

/-- The effective level of a unit's line of this kind; an absent line reads as inactive (R115). -/
def State.statusLevel (s : State) (u : Nat) (k : LineKind) : Bool :=
  match s.statusLine u k with
  | none => false
  | some i => (s.line i).effective

/-- The mode table of R115. -/
def modeOf (b sp c p : Bool) : Mode :=
  match b, sp, c, p with
  | false, false, _, _ => .still
  | false, true, _, _ => .spin
  | true, false, _, _ => .indet
  | true, true, true, _ => .cond
  | true, true, false, true => .pump
  | true, true, false, false => .gen

/-- The mode of a unit derived from the effective levels; NONE without a BREAKER line (R114, R115). -/
def State.deriveMode (s : State) (u : Nat) : Mode :=
  if (s.statusLine u .breaker).isSome then
    modeOf (s.statusLevel u .breaker) (s.statusLevel u .speed) (s.statusLevel u .cond) (s.statusLevel u .pump)
  else .none

/-! ### Accumulators and checkpoints (R118 to R120) -/

/-- The accumulator of a mode; NONE has none. -/
def Accs.get (a : Accs) : Mode → Acc
  | .none => ⟨0, 0⟩ | .still => a.still | .spin => a.spin | .gen => a.gen | .pump => a.pump | .cond => a.cond
  | .indet => a.indet

/-- The accumulators with that of a mode replaced. -/
def Accs.set (a : Accs) (m : Mode) (x : Acc) : Accs :=
  match m with
  | .none => a
  | .still => { a with still := x }
  | .spin => { a with spin := x }
  | .gen => { a with gen := x }
  | .pump => { a with pump := x }
  | .cond => { a with cond := x }
  | .indet => { a with indet := x }

/-- Whether booking `d` µs would carry the seconds beyond their largest value (R120). -/
def Acc.overflows (a : Acc) (d : Nat) : Bool := decide (max32 < a.secs + (a.rem + d) / 1000000)

/-- `d` µs booked to an accumulator (R118 step 2, R120). -/
def Acc.book (a : Acc) (d : Nat) : Acc :=
  if a.overflows d then { secs := max32, rem := 999999 }
  else { secs := a.secs + (a.rem + d) / 1000000, rem := (a.rem + d) % 1000000 }

/-- The time booked by a checkpoint at `t` (R118 step 1). -/
def GenUnit.open' (g : GenUnit) (t : Nat) : Nat := t - g.ecp.getD t

/-- A unit after a checkpoint at `t` (R118 steps 2 and 4, R120); a unit in NONE books nothing. -/
def GenUnit.checkpoint (g : GenUnit) (t : Nat) : GenUnit :=
  if g.mode = .none then g
  else
    let a := g.tally.accs.get g.mode
    { g with
      ecp := some t
      tally := { g.tally with
        accs := g.tally.accs.set g.mode (a.book (g.open' t))
        sat := g.tally.sat || a.overflows (g.open' t) } }

/-- GEN and PUMP time may run to 2^40 - 1 µs in a shift record (R147). -/
def maxShiftUs : Nat := 2 ^ 40 - 1

/-- The GEN or PUMP time of a checkpoint added to the shift's totals of a unit (R118 step 3, R148). -/
def ShiftRecord.addTime (r : ShiftRecord) (u : Nat) (m : Mode) (d : Nat) : ShiftRecord :=
  let x := nth r.units u
  match m with
  | .gen => { r with units := setNth r.units u { x with genUs := satAdd x.genUs d maxShiftUs } }
  | .pump => { r with units := setNth r.units u { x with pumpUs := satAdd x.pumpUs d maxShiftUs } }
  | .none | .still | .spin | .cond | .indet => r

/-- A checkpoint of unit `u` at `t` (R118). -/
def State.checkpoint (u t : Nat) (s : State) : State :=
  let g := s.unit u
  (s.setUnit u (g.checkpoint t)).setCurrent (s.shu.current.addTime u g.mode (g.open' t))

/-- A checkpoint of unit `u` at the present instant. -/
def State.checkpointNow (u : Nat) (s : State) : State := s.checkpoint u s.tsc.e

/-! ### Equivalent hours (R132, R133) -/

/-- The accumulators as a checkpoint at `now` would leave them; a reading (R128, R132). -/
def GenUnit.reading (g : GenUnit) (now : Nat) : Accs := (g.checkpoint now).tally.accs

/-- Σ of R132: seconds by weight over the six modes. -/
def weightedSum (a : Accs) (w : UnitSettings) : Nat :=
  a.still.secs * w.wStill + a.spin.secs * w.wSpin + a.gen.secs * w.wGen + a.pump.secs * w.wPump
    + a.cond.secs * w.wCond + a.indet.secs * w.wIndet

/-- EOH in centihours, held at its largest value (R132, R133). -/
def GenUnit.eoh (g : GenUnit) (w : UnitSettings) (now : Nat) : Nat :=
  min (g.tally.baseline + weightedSum (g.reading now) w / 9216 + g.tally.starts * w.startWeight
    + g.tally.trips * w.tripWeight) max32

/-- EOH of unit `u` at this instant. -/
def State.eoh (s : State) (u : Nat) : Nat := (s.unit u).eoh (s.unitCfg u) s.tsc.e

/-! ### Evaluation (R134, R137) -/

/-- The MAINT_DUE condition (R137). -/
def State.someDue (s : State) : Bool := s.tlu.units.toList.any (·.tally.due)

/-- A unit's maintenance evaluated (R134). -/
def State.evalMaintenance (u : Nat) (s : State) : State :=
  let eoh := s.eoh u
  let t := (s.unit u).tally
  let now := decide (t.limit ≤ eoh)
  let s1 := s.setTally u { t with due := now }
  let s2 := if now && !t.due then s1.place { detail := .maint u eoh, source := u } else s1
  if now = t.due then s2 else s2.hand .maintDue s2.someDue

/-- Units 1 to 8 evaluated in increasing order (R135, R136). -/
def State.evalAll (s : State) : State := forAll (numbers 8) State.evalMaintenance s

/-- The order of SHU or STC: every unit checkpointed now, then evaluated (R121, R135). -/
def State.checkpointAll (s : State) : State := (forAll (numbers 8) State.checkpointNow s).evalAll

/-! ### The discrepancy timer (R122, R123) -/

/-- The DISCREPANCY condition: some timer is EXPIRED (R123). -/
def State.someDiscrepancy (s : State) : Bool :=
  s.tlu.units.toList.any (fun g => decide (g.timer = .expired))

/-- The DISCREPANCY condition evaluated and handed to NTC (R123). -/
def State.evalDiscrepancy (s : State) : State := s.hand .discrepancy s.someDiscrepancy

/-- A unit's timer becomes EXPIRED: a DISCREP record and the condition (R123). -/
def State.expireDiscrepancy (u : Nat) (s : State) : State :=
  ((s.setUnit u { s.unit u with timer := .expired }).place
    { detail := .discrep u (s.statusLevel u .breaker) (s.statusLevel u .speed) (s.statusLevel u .pump)
        (s.statusLevel u .cond)
      source := u }).evalDiscrepancy

/-- A running timer whose instant has passed expires at once (R2, R122). -/
def State.expireIfPassed (u : Nat) (s : State) : State :=
  match (s.unit u).timer with
  | .running expiry => if expiry ≤ s.tsc.e then s.expireDiscrepancy u else s
  | .stopped | .expired => s

/-- The expiry a unit's timer takes: its entry instant plus DISCREP_DELAY (R122). -/
def State.discrepancyExpiry (s : State) (u : Nat) : Nat :=
  (s.unit u).entry + (s.unitCfg u).discrepDelay * 1000000

/-- The timer after the mode has changed from `old` to the one now held (R122): started on entering INDET,
STOPPED on leaving it. -/
def State.updateTimer (u : Nat) (old : Mode) (s : State) : State :=
  let g := s.unit u
  if g.mode = .indet then
    if old = .indet then s
    else (s.setUnit u { g with timer := .running (s.discrepancyExpiry u) }).expireIfPassed u
  else if g.timer = .expired then (s.setUnit u { g with timer := .stopped }).evalDiscrepancy
  else s.setUnit u { g with timer := .stopped }

end Sys2Proof.Machine
end

