-- ==== Sys2Proof/Machine/Store.lean ====
section
/-! DEFINITION. STC (Chapter 10): the image and its judgement, save requests and starts, the autosave expiry.
The store's own events and requests stand in Saves.lean, the loads in Restart.lean. -/

namespace Sys2Proof.Machine

/-- The format byte of the image (R170). -/
def imageFormat : Byte := 0x32

/-- The check over the format byte and the items that follow it (R170, R199). -/
def imageCheck (format : Byte) (i : Image) : BitVec 16 := crc16 (format :: Config.imageBytes i)

/-- The image of these items with its format byte and check (R170, R174 step 3). -/
def Image.stored (i : Image) : StoredImage :=
  { format := imageFormat, image := i, check := imageCheck imageFormat i }

/-- The judgement of the image, the first case that holds (R171). -/
def Store.judge : Store → StoreState
  | .erased => .blank
  | .holds x => if x.format ≠ imageFormat ∨ x.check ≠ imageCheck x.format x.image then .corrupt else .valid
  | .broken => .corrupt

/-- The image of a VALID store; a CORRUPT or BLANK one is set aside whole (R171, R172). -/
def Store.load : Store → Option Image
  | .holds x => if Store.judge (.holds x) = .valid then some x.image else none
  | .erased | .broken => none

/-- The snapshot: every item of R170 as it stands (R174 step 3). -/
def State.snapshot (s : State) : Image :=
  { cfg := s.cfg, schedule := s.shu.schedule, tallies := s.tlu.units.map (·.tally), current := s.shu.current,
    openTrips := s.shu.openTrips, overflow := s.shu.overflow, history := s.shu.history, f := s.dsc.f,
    leap := s.tsc.leap }

/-- A save is recorded as in flight (R174 step 1). It draws the number of its free values. -/
def State.beginSave (s : State) (t : Trigger) : State :=
  (s.setStc { s.stc with inFlight := some { trigger := t, start := s.tsc.e, snapshot := none, draw := s.draws } }).setDraws
    (s.draws + 1)

/-- Every unit is checkpointed and evaluated, and the snapshot is taken (R174 steps 2 and 3). -/
def State.takeSnapshot (s : State) : State :=
  let s1 := s.checkpointAll
  s1.setStc { s1.stc with inFlight := s1.stc.inFlight.map (fun f => { f with snapshot := some s1.snapshot.stored }) }

/-- A save starts (R174). -/
def State.startSave (s : State) (t : Trigger) : State := (s.beginSave t).takeSnapshot

/-- A save request while a save is in flight: queued, or absorbed (R173). -/
def State.queueSave (s : State) (t : Trigger) : State :=
  s.setStc { s.stc with queued := some (s.stc.queued.getD t) }

/-- STC takes a save request (R173). -/
def State.requestSave (s : State) (t : Trigger) : State :=
  if s.stc.inFlight.isSome then s.queueSave t else s.startSave t

/-- The instant an autosave falls due: stopped for 0 hours, else the last save end and that many hours (R178). -/
def autosaveAt (lastEnd hours : Nat) : Option Nat :=
  if hours = 0 then none else some (lastEnd + hours * 3600 * 1000000)

/-- The autosave expiry set afresh (R178). -/
def State.setAutosave (s : State) : State :=
  s.setStc { s.stc with autosave := autosaveAt s.stc.lastEnd s.cfg.autosaveHours }

/-- The autosave expiry is reached: it is stopped and a save with the trigger AUTOSAVE requested (R178). -/
def State.autosaveReached (s : State) : State :=
  (s.setStc { s.stc with autosave := none }).requestSave .autosave

/-- An expiry set at or before the present E is reached at once (R2, R178). -/
def State.autosaveIfPassed (s : State) : State :=
  match s.stc.autosave with
  | none => s
  | some t => if t ≤ s.tsc.e then s.autosaveReached else s

end Sys2Proof.Machine
end

