-- ==== Sys2Proof/Machine/Shift.lean ====
section
/-! DEFINITION. SHU's shared operations (Chapter 9): trips, the close and opening of a shift, the opening and
missing of a handover, and the boundaries that MINUTE and JUMP reports fire. The requests stand in Shifts.lean. -/

namespace Sys2Proof.Machine

/-! ### Trips (R148, R162) -/

/-- The room of the open trip list (R162). -/
def openTripCapacity : Nat := 16

/-- A trip counted into the shift (R148): station trips for unit 0, else the unit's trips. -/
def ShiftRecord.countTrip (r : ShiftRecord) (u : Nat) : ShiftRecord :=
  if u = 0 then { r with stationTrips := satAdd r.stationTrips 1 255 }
  else
    let x := nth r.units u
    { r with units := setNth r.units u { x with trips := satAdd x.trips 1 255 } }

/-- A start counted into the shift (R117, R148). -/
def ShiftRecord.countStart (r : ShiftRecord) (u : Nat) : ShiftRecord :=
  let x := nth r.units u
  { r with units := setNth r.units u { x with starts := satAdd x.starts 1 255 } }

/-- A trip offered to the open trip list with the outcome of its record (R162). -/
def ShiftUnitState.listTrip (h : ShiftUnitState) (u : Nat) (d : Date) (outcome : Option Nat) : ShiftUnitState :=
  match outcome with
  | none => { h with overflow := true }
  | some seq =>
      if h.openTrips.any (fun t => t.seq == seq) then { h with overflow := true }
      else if openTripCapacity ≤ h.openTrips.length then { h with overflow := true }
      else { h with openTrips := h.openTrips ++ [{ seq := seq, unit := u, date := d }] }

/-- A trip reaches SHU: counted first, then offered to the list (R162). -/
def State.shiftTrip (s : State) (u : Nat) (d : Date) (outcome : Option Nat) : State :=
  let s1 := s.setCurrent (s.shu.current.countTrip u)
  s1.setShu (s1.shu.listTrip u d outcome)

/-! ### Closing and opening a shift (R149, R150) -/

/-- The room of the history (R164). -/
def historyCapacity : Nat := 16

/-- A closed record joins the history as its newest; the oldest of 16 is dropped (R164). -/
def pushHistory (r : ShiftRecord) (h : List ShiftRecord) : List ShiftRecord := (r :: h).take historyCapacity

/-- The low 16 bits of a shift number (R96). -/
def low16 (n : Nat) : Nat := n % 65536

/-- A SHIFT record asked of EVQ: the current shift's number and the crew concerned (R96). -/
def State.placeShift (s : State) (event : ShiftEvent) (crew : Nat) : State :=
  s.place { detail := .shift event (low16 s.shu.current.number) crew }

/-- The next shift opens with this crew (R150): the number is one above, and its wrap empties the history. -/
def State.openShift (s : State) (crew : Nat) : State :=
  if max32 ≤ s.shu.current.number then
    (s.setShu { s.shu with history := [] }).setCurrent (ShiftRecord.fresh 1 crew s.dateNow s.dsc.effClass)
  else s.setCurrent (ShiftRecord.fresh (s.shu.current.number + 1) crew s.dateNow s.dsc.effClass)

/-- No handover is open: ON_SHIFT, no expected crew, both flags clear, the window stopped, and the
HANDOVER_OVERDUE condition ended (R146, R149 step 7, R160). -/
def State.endHandover (s : State) : State :=
  (s.setShu { s.shu with state := .onShift, expected := none, release := false, accept := false, window := none }).hand
    .handoverOverdue false

/-- The close of a shift up to the opening of the next (R149 steps 1 to 4). The loss flag is cleared on the
record still current, so that a loss met by the SHIFT record itself can be told apart (entry 19). -/
def State.closeRecord (s : State) (kind : ShiftKind) (event : ShiftEvent) (crew duration : Nat) : State :=
  let s1 := s.checkpointAll
  let closed := { s1.shu.current with kind := kind, nextCrew := crew, duration := duration }
  ((s1.setShu { s1.shu with history := pushHistory closed s1.shu.history }).setCurrent
    { closed with loss := false }).placeShift event crew

/-- The save that a close may ask for is only recorded here (R149 step 5, R174). -/
def State.requestShiftSave (s : State) : State :=
  if s.cfg.saveAtShift then
    if s.stc.inFlight.isSome then s.queueSave .shift else s.beginSave .shift
  else s

/-- A shift is closed and the next one opened (R149). The snapshot of a save that this close started is taken
at its end (R174). A loss met by the close's own SHIFT record is counted in the new shift (entry 19). -/
def State.closeShift (s : State) (kind : ShiftKind) (event : ShiftEvent) (crew duration : Nat) : State :=
  let s1 := s.closeRecord kind event crew duration
  let s2 := s1.requestShiftSave.openShift crew
  let s3 := (s2.setCurrent { s2.shu.current with loss := s1.shu.current.loss }).endHandover
  if s.cfg.saveAtShift && s1.stc.inFlight.isNone then s3.takeSnapshot else s3

/-! ### Handovers (R154 to R156) -/

/-- A window of some minutes in µs. -/
def minutesUs (m : Nat) : Nat := m * 60 * 1000000

/-- A handover opens with this incoming crew and window (R154). -/
def State.openHandover (s : State) (crew window : Nat) : State :=
  let s1 := s.setShu { s.shu with
    state := .handover, expected := some crew, release := false, accept := false
    window := some { opening := s.tsc.e, expiry := s.tsc.e + minutesUs window } }
  let s2 := (s1.placeShift .handoverDue crew).raise .handoverDue
  s2.setShu { s2.shu with release := decide (s2.shu.current.crew = 0) }

/-- An open handover is missed (R156 steps 1 to 4). -/
def State.missHandover (s : State) : State :=
  let s1 := (s.placeShift .missed (s.shu.expected.getD 0)).raise .handoverMissed
  (s1.setCurrent { s1.shu.current with missed := satAdd s1.shu.current.missed 1 255 }).endHandover

/-- An entry judged in ON_SHIFT by its crew (R154, R155). -/
def State.judgeEntry (s : State) (x : ScheduleEntry) : State :=
  if x.crew = s.shu.current.crew then s.closeShift .self .self x.crew 0 else s.openHandover x.crew x.window

/-- The pair of a start minute becomes the day of its firing (R15). -/
def fired (t : List (Nat × Int)) (start : Nat) (day : Int) : List (Nat × Int) :=
  t.filter (fun p => p.1 != start) ++ [(start, day)]

/-- An entry fires for a day (R151, R152): the last-fired pair, a miss of an open handover, the judgement. -/
def State.fireEntry (s : State) (x : ScheduleEntry) (day : Int) : State :=
  let s1 := s.setTsc { s.tsc with lastFired := fired s.tsc.lastFired x.start day }
  if s1.shu.state = .onShift then s1.judgeEntry x else s1.missHandover.judgeEntry x

/-- The last-fired pairs whose start minute is still in the schedule (R15, R144). -/
def State.pruneFired (s : State) : State :=
  s.setTsc { s.tsc with lastFired :=
    s.tsc.lastFired.filter (fun p => s.shu.schedule.any (fun x => x.start == p.1)) }

/-! ### Reports of the minute tracker (R151, R152) -/

/-- A MINUTE report (R151). -/
def State.minuteReport (s : State) (m : LocalMinute) : State :=
  match s.shu.schedule.find? (fun x => x.start == m.minute) with
  | none => s
  | some x => if s.tsc.lastFired.contains (m.minute, m.day) then s else s.fireEntry x m.day

/-- The place of an entry in a skipped interval that begins at minute count `first` (R152). -/
def ScheduleEntry.at' (x : ScheduleEntry) (first : Int) : Int := first + ((x.start : Int) - first) % 1440

/-- An entry put into a list kept in the order of their places. -/
def insertAt (p : Int × ScheduleEntry) : List (Int × ScheduleEntry) → List (Int × ScheduleEntry)
  | [] => [p]
  | q :: qs => if p.1 ≤ q.1 then p :: q :: qs else q :: insertAt p qs

/-- The entries that a skipped interval reaches and that have not fired for its day, in the order of their
places in it (R152). -/
def State.reached (s : State) (first last : Int) : List (Int × ScheduleEntry) :=
  ((s.shu.schedule.map (fun x => (x.at' first, x))).filter (fun p =>
      decide (p.1 ≤ last) && !s.tsc.lastFired.contains (p.2.start, (LocalMinute.ofCount p.1).day))).foldr
    insertAt []

/-- A JUMP report over the minutes `first` to `last` (R152): the latest entry fires, the others are skipped. -/
def State.jumpReport (s : State) (first last : Int) : State :=
  let found := s.reached first last
  match found.getLast? with
  | none => s
  | some p =>
      (forAll found.dropLast (fun q acc => acc.placeShift .skipped q.2.crew) s).fireEntry p.2
        (LocalMinute.ofCount p.1).day

end Sys2Proof.Machine
end

