-- ==== Sys2Proof/Machine/Scale.lean ====
section
/-! DEFINITION. TSC's shared operations (Chapter 1): the minute tracker and its reports, steps, leaps. -/

namespace Sys2Proof.Machine

/-! ### The minute tracker (R12 to R14) -/

/-- The tracker set to a local minute. -/
def State.setTracker (s : State) (m : Option LocalMinute) : State := s.setTsc { s.tsc with tracker := m }

/-- Normal advance at a second boundary (R12). -/
def State.trackAdvance (s : State) : State :=
  match s.tsc.tracker with
  | none => s
  | some r =>
      let m := s.localMinute
      let d := m.count - r.count
      if 0 < d then (s.setTracker (some m)).minuteReport m
      else if d < -1 then s.setTracker (some m)
      else s

/-- A move of the local minute (R13): the distance from R decides between no report, a JUMP and a RESYNC. `held` is
for an adopted leap, where one minute back gives no report. -/
def State.trackMove (held : Bool) (s : State) : State :=
  match s.tsc.tracker with
  | none => s
  | some r =>
      let m := s.localMinute
      let d := m.count - r.count
      if d = 0 then s
      else if held && decide (d = -1) then s
      else if 1 ≤ d ∧ d ≤ 1439 then (s.setTracker (some m)).jumpReport (r.count + 1) m.count
      else s.setTracker (some m)

/-- A step or an adopted leap, which is evaluated only when it has moved the local minute from what it was
(R10, R13). -/
def State.trackChange (held : Bool) (before : LocalMinute) (s : State) : State :=
  if s.localMinute = before then s else s.trackMove held

/-- The discipline leaves FREE: R becomes the local minute, with a RESYNC report (R14), which fires nothing
(R153). -/
def State.trackLeave (s : State) : State := s.setTracker (some s.localMinute)

/-! ### Steps (R8) -/

/-- Station time counted in ns runs up to 2^40 × 10^9 - 1 (R1). -/
def maxStationNs : Int := (secondsModulus * nsPerS : Nat) - 1

/-- The amount of a step as its record carries it: µs truncated towards zero, held at ±(2^47 - 1) (R8 step 4). -/
def stepAmount (old new : Int) : Int := holdAt ((new - old).tdiv 1000) (2 ^ 47 - 1)

/-- The time scale after a step to a count of ns (R8 steps 1 to 3). -/
def TimeScale.stepTo (t : TimeScale) (ns : Int) : TimeScale :=
  let v := (clampInt ns 0 maxStationNs).toNat
  let t1 := { t with s := v / nsPerS, n := v % nsPerS, epoch := (t.epoch + 1) % 256 }
  { t1 with pendingLeap := if t1.civil / 86400 = t.civil / 86400 then t.pendingLeap else none }

/-- A step of the present time scale is counted into the shift and its record asked of EVQ (R8 step 4, R148). -/
def State.reportStep (s : State) (amount : Int) (reason : StepReason) : State :=
  (s.setCurrent { s.shu.current with steps := satAdd s.shu.current.steps 1 max16 }).place
    { detail := .step amount reason }

/-- A step order to a count of ns (R8). `leaving` is the order that also takes the discipline out of FREE
(R14): the tracker is then set, with no JUMP. -/
def State.stepTo (s : State) (ns : Int) (reason : StepReason) (leaving : Bool) : State :=
  let t := s.tsc.stepTo ns
  let s1 := (s.setTsc t).reportStep (stepAmount s.tsc.totalNs t.totalNs) reason
  if leaving then s1.trackLeave else s1.trackChange false s.localMinute

/-! ### Leaps (R9 to R11) -/

/-- L adopted from an accepted frame (R10). -/
def State.adoptLeap (s : State) (l : Int) : State :=
  if l = s.tsc.leap then s
  else
    ((s.setTsc { s.tsc with leap := l }).place { detail := .leap s.tsc.leap l false }).trackChange true s.localMinute

/-- The pending leap a frame announces (R9). -/
def announcedLeap (announced : Bool) (dir : LeapDirection) (l : Int) : Option PendingLeap :=
  if announced then
    let target := match dir with | .insert => l + 1 | .delete => l - 1
    if -128 ≤ target ∧ target ≤ 127 then some { direction := dir, target := target } else none
  else none

/-- The leap information of an accepted frame taken by TSC: adoption, then the pending leap (R9, R10). -/
def State.takeLeapInfo (m : StationMessage) (s : State) : State :=
  let s1 := s.adoptLeap m.leapCount
  s1.setTsc { s1.tsc with pendingLeap := announcedLeap m.leapPending m.leapDirection m.leapCount }

/-- Whether a pending leap falls due at this second (R11): civil second 0 for an insertion, 86,399 for a
deletion. -/
def PendingLeap.dueAt (p : PendingLeap) (civil : Int) : Bool :=
  match p.direction with
  | .insert => decide (civil % 86400 = 0)
  | .delete => decide (civil % 86400 = 86399)

/-- The L from which a pending leap applies (R11): T - 1 for an insertion, T + 1 for a deletion. -/
def PendingLeap.before (p : PendingLeap) : Int :=
  match p.direction with
  | .insert => p.target - 1
  | .delete => p.target + 1

/-- The check of the pending leap at a second boundary (R11). -/
def State.selfLeap (s : State) : State :=
  match s.tsc.pendingLeap with
  | none => s
  | some p =>
      if p.dueAt s.tsc.civil then
        if s.tsc.leap = p.before then
          (s.setTsc { s.tsc with leap := p.target, pendingLeap := none }).place
            { detail := .leap s.tsc.leap p.target true }
        else s.setTsc { s.tsc with pendingLeap := none }
      else s

end Sys2Proof.Machine
end

