-- ==== Sys2Proof/Machine/Discipline.lean ====
section
/-! DEFINITION. DSC's shared operations (Chapter 3): the window, steering, state changes and their reports,
selection changes and missing samples; and RRX's re-evaluation of the selection (R36, R37), which hands its
changes here. Samples stand in Sample.lean, requests in Time.lean. -/

namespace Sys2Proof.Machine

/-! ### The window and the correction (R42, R45) -/

/-- c in FREE and HOLDOVER: clamp(-F) (R42). -/
def steerFree (f : Int) (limit : Nat) : Int := clampInt (-f) (-(limit : Int)) limit

/-- A window restart: sum and count cleared, the previous sample forgotten (R45). -/
def Discipline.restart (d : Discipline) : Discipline := { d with sum := 0, count := 0, prev := none }

/-- Whether supervision runs in a discipline state (R34, R42). -/
def DiscState.supervised : DiscState → Bool
  | .locked | .holdover => true
  | .free | .acquire => false

/-! ### Reports (R34, R56) -/

/-- RRX is told of a change of discipline state (R34): out and release counts become 0 unless the change is
between LOCKED and HOLDOVER. -/
def Receiver.told (r : Receiver) (old new : DiscState) : Receiver :=
  if old.supervised && new.supervised then r
  else { r with srcA := { r.srcA with out := 0, release := 0 }, srcB := { r.srcB with out := 0, release := 0 } }

/-- A change of the discipline state is reported (R56): the DISC record, the notice, and RRX is told. -/
def State.reportDisc (s : State) (old : DiscState) : State :=
  let s1 := (s.place { detail := .disc old s.dsc.state s.dsc.effClass }).raise .disciplineChange
  s1.setRrx (s1.rrx.told old s1.dsc.state)

/-! ### Missing samples and selection changes (R54, R55) -/

/-- A missing sample of the selected source, or a sample taken as missing (R55). -/
def State.discMissing (s : State) : State :=
  match s.dsc.state with
  | .acquire | .locked => s.setDsc { s.dsc.restart with lock := 0 }
  | .free | .holdover => s

/-- The selection becomes NONE in ACQUIRE or LOCKED: HOLDOVER (R54). -/
def State.enterHoldover (s : State) : State :=
  let old := s.dsc.state
  ((s.setDsc { s.dsc.restart with
      state := .holdover, c := steerFree s.dsc.f s.cfg.slewLimit, lock := 0, oneShot := false }).evalClass).reportDisc
    old

/-- A change of selection handed to DSC (R54). -/
def State.discSelection (s : State) (new : Option Source) : State :=
  let s1 := s.setDsc { s.dsc with view := new }
  match s1.dsc.state, new with
  | .free, _ => s1.evalClass
  | .holdover, _ => (s1.setDsc { s1.dsc.restart with lock := 0 }).evalClass
  | .acquire, some _ | .locked, some _ => (s1.setDsc { s1.dsc.restart with lock := 0 }).evalClass
  | .acquire, none | .locked, none => s1.enterHoldover

/-! ### The selection (R36 to R38) -/

/-- What RRX holds of a source. -/
def Receiver.src (r : Receiver) : Source → SourceData
  | .a => r.srcA
  | .b => r.srcB

/-- RRX with a source replaced. -/
def Receiver.setSrc (r : Receiver) (x : Source) (d : SourceData) : Receiver :=
  match x with
  | .a => { r with srcA := d }
  | .b => { r with srcB := d }

/-- The other source. -/
def otherSource : Source → Source
  | .a => .b
  | .b => .a

/-- A source is eligible when USABLE, REF-B not in FREE (R36). -/
def State.eligible (s : State) (x : Source) : Bool :=
  decide ((s.rrx.src x).state = .usable) && !(decide (x = .b) && decide (s.dsc.state = .free))

/-- The selection by the four cases of R36. -/
def State.selectionNow (s : State) (revertExpired : Bool) : Option Source :=
  let p := s.cfg.prefSource
  let o := otherSource p
  if s.rrx.selection = some o ∧ s.eligible o ∧ s.eligible p ∧ revertExpired = false then some o
  else if s.eligible p then some p
  else if s.eligible o then some o
  else none

/-- A REF record and its notice (R38). -/
def State.placeRef (s : State) (x : Source) (old new : SourceState) (sel : Option Source) : State :=
  (s.place { detail := .ref x old new sel, source := sourceCode x }).raise .refChange

/-- The revert timer after an evaluation (R37): started while the other source is selected and the preferred
one eligible, stopped otherwise. -/
def State.settleRevert (s : State) : State :=
  let waiting := decide (s.rrx.selection = some (otherSource s.cfg.prefSource)) && s.eligible s.cfg.prefSource
  s.setRrx { s.rrx with revert :=
    (match waiting, s.rrx.revert with
     | false, _ => none
     | true, some t => some t
     | true, none => some { start := s.tsc.e, expiry := s.tsc.e + s.cfg.revertDelay * 1000000 }) }

/-- The selection evaluated (R36): a change is recorded (R38), then handed to DSC (R54). -/
def State.evalSelection (revertExpired : Bool) (s : State) : State :=
  let new := s.selectionNow revertExpired
  if new = s.rrx.selection then s.settleRevert
  else
    let named := new.getD (s.rrx.selection.getD .a)
    let st := (s.rrx.src named).state
    (((s.setRrx { s.rrx with selection := new }).settleRevert.placeRef named st st new).discSelection new)

end Sys2Proof.Machine
end

