-- ==== Sys2Proof/Machine/Sample.lean ====
section
/-! DEFINITION. DSC's taking of a sample (R43 to R53): the frequency window, the step decision, steering, the
uncertainty, lock and the report. -/

namespace Sys2Proof.Machine

/-- Bound of a sample and of a frequency sample in ns (R27, R43). -/
def max63 : Nat := 2 ^ 63 - 1

/-- Bound of F in ppb (R44). -/
def maxF : Nat := 200000

/-- A frequency sample added to the window, which ends when it is full (R43, R44). -/
def Discipline.addFreq (d : Discipline) (x : Int) (window : Nat) : Discipline :=
  let sum := d.sum + x
  let count := d.count + 1
  if 2 ^ window ≤ count then { d with f := holdAt (roundDiv sum (2 ^ window)) maxF, sum := 0, count := 0 }
  else { d with sum := sum, count := count }

/-- The frequency sample is formed when the previous sample is of the same source (R43). -/
def Discipline.freqSample (d : Discipline) (src : Source) (e : Int) (window : Nat) : Discipline :=
  match d.prev with
  | none => d
  | some p => if p.source = src then d.addFreq (holdAt (e - p.e - p.c) max63) window else d

/-- c by the steering formula (R46). -/
def steer (f e : Int) (gain limit : Nat) : Int :=
  clampInt (-f - roundDiv e (2 ^ gain)) (-(limit : Int)) limit

/-- Whether a sample steps station time in ACQUIRE (R47, R52). -/
def State.stepPermitted (s : State) (e : Int) (first : Bool) : Bool :=
  decide (s.cfg.stepLimit ≤ e.natAbs) && (first || s.dsc.oneShot || s.cfg.stepAllow)

/-- The reason of a step at a sample, ACQUIRE at the first acquisition, and ONE_SHOT used up by it (R47, R52). -/
def State.orderStep (s : State) (e : Int) (first : Bool) : State :=
  let s1 := s.stepTo (s.tsc.totalNs - e) (if s.dsc.oneShot && !first then .forcedAcquire else .acquire) first
  s1.setDsc { s1.dsc.restart with oneShot := false }

/-- Steps 4 to 7 of R51: c, U, the lock count and the previous sample. `acq` says that the sample is processed
as one of ACQUIRE; the state reached is set with it. -/
def Discipline.settle (d : Discipline) (cfg : Settings) (src : Source) (e : Int) (acq stepped : Bool) : Discipline :=
  let used := if stepped then 0 else e
  let c := steer d.f used cfg.phaseGain cfg.slewLimit
  let lock := if stepped || decide (cfg.lockLimit < e.natAbs) then 0 else d.lock + 1
  let locks := acq && decide (8 ≤ lock)
  { d with
    c := c
    u := min used.natAbs max32
    lock := if acq && !locks then lock else 0
    state := if acq && !locks then .acquire else .locked
    oneShot := d.oneShot && acq && !locks
    prev := if stepped then none else some { source := src, e := e, c := c } }

/-- A sample processed by R51, as one of ACQUIRE when `acq`. `first` is the first acquisition from FREE (R52),
which carries the leaving of FREE to TSC in the step order or on its own (R14). -/
def State.processSample (s : State) (src : Source) (e : Int) (cls : Nat) (acq first : Bool) : State :=
  let old := s.dsc.state
  let s1 := s.setDsc { s.dsc with srcClass := if src = .a then cls else s.dsc.srcClass }
  let s2 := s1.setDsc (s1.dsc.freqSample src e s.cfg.freqWindow)
  let stepped := acq && s2.stepPermitted e first
  let s3 := if stepped then s2.orderStep e first else if first then s2.trackLeave else s2
  let s4 := (s3.setDsc (s3.dsc.settle s3.cfg src e acq stepped)).evalClass
  if s4.dsc.state = old then s4 else s4.reportDisc old

/-- A sample of the selected source handed to DSC (R51 to R53). One marked before a step is taken as missing. -/
def State.discSample (s : State) (src : Source) (e : Int) (epoch cls : Nat) : State :=
  if epoch ≠ s.tsc.epoch then s.discMissing
  else
    match s.dsc.state with
    | .free => ((s.setDsc { s.dsc with lock := 0, prev := none }).processSample src e cls true true).evalSelection false
    | .acquire => s.processSample src e cls true false
    | .locked => s.processSample src e cls false false
    | .holdover =>
        if e.natAbs < s.cfg.stepLimit then s.processSample src e cls false false
        else (s.setDsc { s.dsc with lock := 0 }).processSample src e cls true false

end Sys2Proof.Machine
end

