-- ==== Sys2Proof/Machine/Feed.lean ====
section
/-! DEFINITION. FTX (Chapter 4), DSC's growth of U at a boundary (R49), and the work of the second boundary (R6). -/

namespace Sys2Proof.Machine

/-! ### The action level (R65) -/

/-- The action level of a boundary: the highest level among the active conditions (R65). -/
def actionLevel (cfg : Settings) (state : DiscState) (cls : Nat) : Nat :=
  max (if state = .holdover then cfg.feedActHold else 0)
    (max (if cfg.feedClassLimit < cls then cfg.feedActClass else 0)
      (if state = .free then cfg.feedActFree else 0))

/-! ### The frame (R67, R68) -/

/-- A frame or break takes 130 bit times at 9,600 baud: 13,542 µs of E (R66, R68). -/
def feedTime : Nat := 13542

/-- The status byte of a frame (R67, 12.2). -/
def feedStatus (cls : Nat) (p : Option PendingLeap) (degraded : Bool) : Byte :=
  byteOf (cls % 8
    + (if p.isSome then 8 else 0)
    + (if (p.map (·.direction)) = some .delete then 16 else 0)
    + (if degraded then 32 else 0))

/-- The message of a boundary without its check (R67). -/
def feedMessage (s : State) (cls : Nat) (degraded : Bool) : StationMessage :=
  { sourceId := byteOf s.cfg.feedId
    status := feedStatus cls s.tsc.pendingLeap degraded
    civil := BitVec.ofInt 40 s.tsc.civil
    leap := BitVec.ofInt 8 s.tsc.leap
    sequence := byteOf s.ftx.sequence }

/-- The thirteen bytes of a frame: the sync pair, the covered bytes and their check (R67). -/
def feedBytes (m : StationMessage) : List Byte := [0xC3, 0x3C] ++ m.covered ++ checkBytes m.covered

/-- FTX's work at a boundary, with the class it reads (R64). -/
def State.feedBoundary (s : State) (cls : Nat) : State :=
  let level := actionLevel s.cfg s.dsc.state cls
  let f := { s.ftx with enable := s.cfg.feedEnable }
  if f.transmission.isSome then s.setFtx f
  else if f.enable = false ∨ level = 3 then s.setFtx f
  else if level = 2 then s.setFtx { f with transmission := some (.brk (s.tsc.e + feedTime)) }
  else
    s.setFtx { f with
      sequence := (f.sequence + 1) % 256
      transmission := some (.frame (feedBytes (feedMessage s cls (decide (level = 1)))) (s.tsc.e + feedTime)) }

/-! ### The boundary at DSC (R49) -/

/-- DSC takes a second boundary: U grows in HOLDOVER and is at its maximum in FREE (R49). -/
def State.growU (s : State) : State :=
  match s.dsc.state with
  | .holdover => (s.setDsc { s.dsc with u := min (s.dsc.u + s.cfg.holdDrift) max32 }).evalClass
  | .free => (s.setDsc { s.dsc with u := max32 }).evalClass
  | .acquire | .locked => s

/-! ### The second boundary (R6) -/

/-- One of two classes by a free value; the class itself when they are the same (R64, entry 10). -/
def eitherClass (draw before after : Nat) : Nat :=
  if before = after then after else if Config.firstActs draw then before else after

/-- Steps 2 to 5 of R6 at a boundary that has just been reached. FTX and DSC take it in either order: the class
FTX reads is the one before or after DSC's growth, by a free value (R64, entry 10). -/
def State.boundaryWork (s : State) : State :=
  let s1 := s.selfLeap
  let s2 := (s1.setDraws (s1.draws + 1)).growU
  (s2.feedBoundary (eitherClass s1.draws s1.dsc.effClass s2.dsc.effClass)).trackAdvance

/-- The end instant of a transmission. -/
def Transmission.endAt : Transmission → Nat
  | .frame _ t => t
  | .brk t => t

/-- The transmission on the line ends and the line is idle high (R68). -/
def State.endTransmission (s : State) : State := s.setFtx { s.ftx with transmission := none }

end Sys2Proof.Machine
end

