-- ==== Sys2Proof/WellFormed.lean ====
section
/-! DEFINITION. Which commands the part can receive at all: its lines are 1 to 32 and its units
1 to 8. A command that fails here is stopped by `exec` under a fault of its own name (entry 28); everything else is
judged by the rules. -/

namespace Sys2Proof

/-- EV1 to EV32 (Chapter 5). -/
def lineExists (line : Nat) : Bool := decide (1 ≤ line ∧ line ≤ 32)

/-- Units 1 to 8 (Chapter 7). -/
def unitExists (unit : Nat) : Bool := decide (1 ≤ unit ∧ unit ≤ 8)

/-- The command is one that the part can receive. -/
def Instr.wellFormed : Instr → Bool
  | .rawEdge line _ | .unusedLinePinChange line _ | .filterExpiry line | .quietTimerExpiry line =>
      lineExists line
  | .discrepancyTimerExpiry unit => unitExists unit
  | .powerOnReset .. | .rstrt .. | .holdupAssertion | .holdupRelease | .secondBoundary | .feedTransmissionEnd
  | .trd .. | .refaFrame .. | .candidateTimeout | .refaBreak | .refbPulse | .missingSample .. | .sourceAbsent ..
  | .revertTimerExpiry | .pinj .. | .refs .. | .tset .. | .tacq .. | .disc .. | .einj .. | .lnst .. | .efls ..
  | .efch .. | .erel .. | .tlrd .. | .tlps .. | .periodicEvaluation | .mset .. | .schw .. | .schr .. | .hrel .. | .hacc ..
  | .windowTimerExpiry | .hopn .. | .tack .. | .tackAll .. | .shhs .. | .shst .. | .saveEnd .. | .save ..
  | .autosaveExpiry | .dflt .. | .requestFrame .. | .gapExpiry | .replyEnd | .stat .. | .lstat .. | .idnt .. | .cfgw .. | .cfgr ..
  | .refaCharacter .. | .linkByte .. => true

end Sys2Proof
end

