-- ==== Sys2Proof/Machine/Receiver.lean ====
section
/-! DEFINITION. RRX (Chapter 2): marks, missing samples, qualification and supervision; REF-A characters and
frames, breaks and time-outs; REF-B pulses; the timers of the sources; PINJ and REFS. -/

namespace Sys2Proof.Machine

/-! ### A mark or a missing sample taken by RRX (R30) -/

/-- What R30 takes: an accepted mark, with its sample where one was formed, the epoch latched at it and the
source class; or a missing sample. -/
inductive RefEvent where
  | mark (value : Option Int) (epoch cls : Nat)
  | missing
deriving DecidableEq, Repr

/-- One accepted mark is consumed of an injection, which ends at 0 (R35). -/
def Injection.consume (i : Injection) : Option Injection :=
  if i.remaining ≤ 1 then none else some { i with remaining := i.remaining - 1 }

/-- R30 step 1: the sample is recorded, the injection consumed. -/
def SourceData.record (d : SourceData) : RefEvent → SourceData
  | .mark value _ _ => { d with lastSample := value.or d.lastSample, injection := d.injection.bind Injection.consume }
  | .missing => d

/-- The event's effect on an ABSENT or QUALIFYING source (R31). -/
def SourceData.qualified (d : SourceData) : RefEvent → SourceData
  | .mark .. =>
      match d.state with
      | .absent => { d with state := .qualifying, qualify := 1 }
      | .qualifying =>
          if 4 ≤ d.qualify + 1 then { d with state := .usable, qualify := 4, out := 0, release := 0 }
          else { d with qualify := d.qualify + 1 }
      | .usable | .faulted => d
  | .missing => if d.state = .qualifying then { d with qualify := 0 } else d

/-- A judged event is out (R32): |j| > T, or missing. -/
def isOut (limit : Nat) (j : Option Int) : Bool := (j.map (fun x => decide (limit < x.natAbs))).getD true

/-- A judged event is good (R33): |j| < max(T - H, U), never when missing. -/
def isGood (limit hyst u : Nat) (j : Option Int) : Bool :=
  (j.map (fun x => decide (x.natAbs < max (limit - hyst) u))).getD false

/-- The supervision of a USABLE (R32) or FAULTED (R33) source by the value j, none for a missing sample. -/
def SourceData.supervised (d : SourceData) (cfg : Settings) (u : Nat) (j : Option Int) : SourceData :=
  match d.state with
  | .usable =>
      if isOut cfg.phaseLimit j then
        if cfg.faultCount + 1 ≤ d.out + 1 then { d with state := .faulted, out := 0, release := 0 }
        else { d with out := d.out + 1 }
      else { d with out := 0 }
  | .faulted =>
      if isGood cfg.phaseLimit cfg.phaseHyst u j then
        if cfg.faultCount + 1 ≤ d.release + 1 then { d with state := .usable, out := 0, release := 0 }
        else { d with release := d.release + 1 }
      else { d with release := 0 }
  | .absent | .qualifying => d

/-- The value j that supervision judges, of the source as it stood before the event: the injected value while
an injection is active, else e (R32, R35). None says that nothing is judged; `some none` a missing sample. -/
def SourceData.judged (d : SourceData) : RefEvent → Option (Option Int)
  | .mark none _ _ => none
  | .mark (some e) _ _ => some (some ((d.injection.map (·.value)).getD e))
  | .missing => some none

/-- R30 steps 1 and 2 on the source itself. A source that becomes USABLE at this mark is not supervised at it
(entry 17). -/
def SourceData.take (d : SourceData) (cfg : Settings) (supervising : Bool) (u : Nat) (ev : RefEvent) : SourceData :=
  let d1 := d.record ev
  match d.state with
  | .absent | .qualifying => d1.qualified ev
  | .usable | .faulted =>
      match supervising, d.judged ev with
      | true, some j => d1.supervised cfg u j
      | _, _ => d1

/-- A source of the state replaced. -/
def State.setSrc (s : State) (x : Source) (d : SourceData) : State := s.setRrx (s.rrx.setSrc x d)

/-- A change of a source's state is recorded and the selection evaluated (R30 step 3, R36, R38). -/
def State.sourceMoved (x : Source) (old : SourceState) (s : State) : State :=
  if (s.rrx.src x).state = old then s
  else (s.placeRef x old (s.rrx.src x).state s.rrx.selection).evalSelection false

/-- R30 step 4: the event of a selected source is handed to DSC. -/
def State.handToDsc (x : Source) (ev : RefEvent) (s : State) : State :=
  if s.rrx.selection = some x then
    match ev with
    | .mark (some e) epoch cls => s.discSample x e epoch cls
    | .mark none _ _ => s
    | .missing => s.discMissing
  else s

/-- RRX takes an accepted mark or a missing sample (R30). -/
def State.takeRefEvent (x : Source) (ev : RefEvent) (s : State) : State :=
  let d := s.rrx.src x
  ((s.setSrc x (d.take s.cfg s.dsc.state.supervised s.dsc.u ev)).sourceMoved x d.state).handToDsc x ev

/-! ### The timers of a source (R29) -/

/-- Half a second past the first second after a mark: the first missing-sample instant (R29). -/
def firstMissing : Nat := 1500000

/-- The instant after the mark at which a source goes ABSENT (R29, R31). -/
def absentAfter : Nat := 8000000

/-- A mark starts its own instants and cancels those before (R29). -/
def SourceData.marked (d : SourceData) (m : Latch) : SourceData :=
  { d with lastMark := some m, nextMissing := some (m.e + firstMissing), absentAt := some (m.e + absentAfter) }

/-- The missing-sample instant after `m`: 1 s later while it lies before the 8-second instant (R29). -/
def SourceData.afterMissing (d : SourceData) (m : Nat) : Option Nat :=
  if m + 1000000 < d.absentAt.getD 0 then some (m + 1000000) else none

/-- A missing sample is counted (R29, R40). -/
def Receiver.countMissing (r : Receiver) : Source → Receiver
  | .a => { r with countA := { r.countA with missing := satAdd r.countA.missing 1 max16 } }
  | .b => { r with countB := { r.countB with missing := satAdd r.countB.missing 1 max16 } }

/-- A missing-sample instant of a source is taken (R29): counted, then through R30. -/
def State.takeMissing (x : Source) (s : State) : State :=
  match (s.rrx.src x).nextMissing with
  | none => s
  | some m =>
      let d := s.rrx.src x
      let r := (s.rrx.countMissing x).setSrc x { d with nextMissing := d.afterMissing m }
      (s.setRrx r).takeRefEvent x .missing

/-- The 8-second instant of a source is taken (R24, R31): ABSENT with its counts and last sample cleared, no
further instants, and for REF-A the receiver in HUNT. -/
def State.takeAbsent (x : Source) (s : State) : State :=
  let d := s.rrx.src x
  let s1 := s.setSrc x
    { d with state := .absent, qualify := 0, out := 0, release := 0, lastSample := none, nextMissing := none
             absentAt := none }
  let s2 := if x = .a then s1.setRrx { s1.rrx with state := .hunt, discards := 0 } else s1
  s2.sourceMoved x d.state

/-- An instant that a candidate with this mark has deferred and that E has reached (R29). -/
def deferred (now mark : Nat) (at' : Option Nat) : Bool :=
  (at'.map (fun t => decide (t ≤ now) && decide (mark < t))).getD false

/-- The missing samples deferred by a candidate, counted at its discard (R29). At most seven follow one mark. -/
def State.takeDeferredMissing (mark : Nat) : Nat → State → State
  | 0, s => s
  | fuel + 1, s =>
      if deferred s.tsc.e mark s.rrx.srcA.nextMissing then (s.takeMissing .a).takeDeferredMissing mark fuel else s

/-- Every instant of REF-A deferred by a candidate is taken at its discard (R29). -/
def State.takeDeferred (mark : Nat) (s : State) : State :=
  let s1 := s.takeDeferredMissing mark 7
  if deferred s1.tsc.e mark s1.rrx.srcA.absentAt then s1.takeAbsent .a else s1

/-! ### Candidates (R20 to R24) -/

/-- The reasons for which a candidate is discarded (R21 to R23). -/
inductive Discard where
  | check | ident | repeated | stale | mistimed | brk
deriving DecidableEq, Repr

/-- The counter of the reason (R22, R40). -/
def CountersA.discard (c : CountersA) : Discard → CountersA
  | .check => { c with check := satAdd c.check 1 max16 }
  | .ident => { c with ident := satAdd c.ident 1 max16 }
  | .repeated => { c with repeated := satAdd c.repeated 1 max16 }
  | .stale => { c with stale := satAdd c.stale 1 max16 }
  | .mistimed => { c with mistimed := satAdd c.mistimed 1 max16 }
  | .brk => { c with brk := satAdd c.brk 1 max16 }

/-- RRX after a discard (R20, R22, R24): the reason counted, candidate and previous character forgotten, and in
SYNC the third discard, or any break, back to HUNT. After a break the next falling edge starts a character (R23). -/
def Receiver.discarded (r : Receiver) (why : Discard) : Receiver :=
  let r1 := { r with countA := r.countA.discard why, candidate := none, prevChar := none }
  if why = .brk then { r1 with begun := none, state := .hunt, discards := 0 }
  else
    match r.state with
    | .hunt => r1
    | .sync => if 3 ≤ r.discards + 1 then { r1 with state := .hunt, discards := 0 }
               else { r1 with discards := r.discards + 1 }

/-- A candidate with this mark is discarded (R21 to R24, R29). -/
def State.discard (why : Discard) (mark : Nat) (s : State) : State :=
  (s.setRrx (s.rrx.discarded why)).takeDeferred mark

/-- The mark lies within 50 ms of an expected mark, 1 s to 7 s after the last accepted one (R21). -/
def expectedMark (last mark : Nat) : Bool :=
  (numbers 7).any (fun k => decide (((mark : Int) - last - (k * 1000000 : Nat)).natAbs ≤ 50000))

/-- In SYNC the mark of a newly opened candidate is judged by R21; in HUNT there is no window. -/
def Receiver.inWindow (r : Receiver) (mark : Nat) : Bool :=
  match r.state with
  | .hunt => true
  | .sync => (r.srcA.lastMark.map (fun l => expectedMark l.e mark)).getD false

/-- A source id matches REFA_ID under REFA_MATCH (R22). -/
def idMatches (cfg : Settings) (id : Byte) : Bool :=
  if cfg.refaId = 255 then true
  else if cfg.refaMatchHigh then decide (id.toNat / 16 = cfg.refaId / 16)
  else decide (id.toNat = cfg.refaId)

/-- The judgement of a complete candidate: the first test that fails (R22). -/
def State.judgeFrame (s : State) (mark : Latch) (m : StationMessage) (check : BitVec 16) : Option Discard :=
  if check ≠ crc16 m.covered then some .check
  else if m.sourceId = 0 ∨ idMatches s.cfg m.sourceId = false then some .ident
  else if s.rrx.lastSeq = some m.sequence then some .repeated
  else if s.tsc.epoch ≠ mark.epoch then some .stale
  else none

/-- The source class of a frame (R25 step 2). -/
def sourceClassOf (m : StationMessage) : Nat := min (m.classField + if m.degraded then 1 else 0) 6

/-- The sample of an accepted frame (R27). -/
def sampleOfFrame (cfg : Settings) (mark : Latch) (m : StationMessage) : Int :=
  holdAt (((mark.s * nsPerS + mark.n : Nat) : Int) - cfg.delayA - ((m.civil.toNat : Int) + m.leapCount) * nsPerS) max63

/-- RRX after steps 1 and 2 of an acceptance (R24, R25). -/
def Receiver.accepted (r : Receiver) (mark : Latch) (m : StationMessage) : Receiver :=
  { r with
    state := .sync, prevChar := none, candidate := none, discards := 0, lastSeq := some m.sequence
    lastFrame := some { sourceId := m.sourceId, cls := m.classField, degraded := m.degraded }
    srcClass := sourceClassOf m
    srcA := r.srcA.marked mark
    countA := { r.countA with accepted := satAdd r.countA.accepted 1 max16 } }

/-- An accepted frame (R25). Steps 3 and 4 come in either order (entry 11). -/
def State.acceptFrame (mark : Latch) (m : StationMessage) (s : State) : State :=
  eitherOrder (State.takeLeapInfo m)
    (State.takeRefEvent .a (.mark (some (sampleOfFrame s.cfg mark m)) mark.epoch (sourceClassOf m)))
    (s.setRrx (s.rrx.accepted mark m))

/-- A complete candidate is discarded or accepted (R22). -/
def State.takeFrame (mark : Latch) (m : StationMessage) (check : BitVec 16) (s : State) : State :=
  match s.judgeFrame mark m check with
  | some why => s.discard why mark.e
  | none => s.acceptFrame mark m

/-- The characters of a complete candidate (R20). -/
def candidateLength : Nat := 13

/-- The time a candidate has to complete after its mark (R21). -/
def candidateTime : Nat := 50000

/-- The candidate in hand has not completed in time and is discarded as MISTIMED (R21). -/
def State.candidateLate (s : State) : State :=
  match s.rrx.candidate with
  | none => s
  | some c => s.discard .mistimed c.mark.e

/-- E stands before the expiry of a candidate with this mark (R21). -/
def State.inTime (s : State) (mark : Latch) : Bool := decide (s.tsc.e < mark.e + candidateTime)

/-- E has passed the expiry of this candidate (R21). -/
def State.isOver (s : State) (c : Candidate) : Bool := decide (c.mark.e + candidateTime < s.tsc.e)

/-- A candidate is opened on the latch of the 0xC3 and judged at once: in SYNC by the window (R20, R21), and a mark that
lies 50 ms back already is MISTIMED, since a timer set at or after its expiry expires at once (R2, R21). -/
def State.openCandidate (mark : Latch) (s : State) : State :=
  if s.rrx.inWindow mark.e && s.inTime mark then s.setRrx { s.rrx with candidate := some { mark := mark, bytes := [0xC3, 0x3C] } }
  else s.discard .mistimed mark.e

/-- A character while no candidate is in hand: the sync-pair search (R20). -/
def State.searchPair (prev : Option (Byte × Latch)) (value : Byte) (s : State) : State :=
  match prev with
  | none => s
  | some (p, mark) => if p = 0xC3 ∧ value = 0x3C then s.openCandidate mark else s

/-- A character appended to the candidate in hand; the 13th completes it (R20, R22). A candidate whose expiry E has passed
takes no more and is MISTIMED (R21); no run has one in hand, since the time-out comes at the expiry itself. -/
def State.appendChar (c : Candidate) (value : Byte) (s : State) : State :=
  let bytes := c.bytes ++ [value]
  if s.isOver c then s.discard .mistimed c.mark.e
  else if bytes.length < candidateLength then s.setRrx { s.rrx with candidate := some { c with bytes := bytes } }
  else
    match StationMessage.ofBytes (bytes.drop 2) with
    | some (m, check) => s.takeFrame c.mark m check
    | none => s.discard .check c.mark.e

/-- A character begins: TSC latches its date (R19). A falling edge within a character is no start bit. -/
def State.beginChar (s : State) : State := s.setRrx { s.rrx with begun := some (s.rrx.begun.getD s.latch) }

/-- A character completes (R20): it becomes the previous character with the latch of its start bit, and is searched
or appended. Without a start bit there is no character (R41). -/
def State.completeChar (value : Byte) (s : State) : State :=
  match s.rrx.begun with
  | none => s
  | some latch =>
      let s1 := s.setRrx { s.rrx with begun := none, prevChar := some (value, latch) }
      match s.rrx.candidate with
      | none => s1.searchPair s.rrx.prevChar value
      | some c => s1.appendChar c value

/-- A moment of a character on REF-A (R19, R20). -/
def State.takeCharMoment (moment : SerialMoment) (s : State) : State :=
  match moment with
  | .begins => s.beginChar
  | .completes value => s.completeChar value

/-- REFA_CHARACTER (R19, R20). A stop bit found low changes nothing: the character is taken with its value (R19). -/
def execRefaCharacter (moment : SerialMoment) (_stopHigh : Bool) (s : State) : Host.Outcome State Fault Refusal :=
  .next (s.takeCharMoment moment)

/-- A character that begins and completes at this instant. -/
def State.takeChar (value : Byte) (s : State) : State := s.beginChar.completeChar value

/-- REFA_FRAME (R22): the thirteen characters of a frame one after another, all at the instant of the command
(entry 8). -/
def execRefaFrame (m : StationMessage) (check : BitVec 16) (s : State) : Host.Outcome State Fault Refusal :=
  .next (forAll (m.characters check) State.takeChar s)

/-- BREAK (R23): counted, the candidate in hand discarded, the previous character forgotten, HUNT. -/
def execRefaBreak (s : State) : Host.Outcome State Fault Refusal :=
  match s.rrx.candidate with
  | none => .next (s.setRrx (s.rrx.discarded .brk))
  | some c => .next (s.discard .brk c.mark.e)

/-! ### REF-B (R26, R28) -/

/-- The closest an accepted pulse may follow the last one (R26). -/
def pulseSpacing : Nat := 900000

/-- The sample of a pulse (R28). -/
def sampleOfPulse (cfg : Settings) (n : Nat) : Int :=
  let v := ((n : Int) - cfg.delayB) % nsPerS
  if v < 500000000 then v else v - nsPerS

/-- A pulse comes too soon after the last accepted one (R26). -/
def Receiver.spuriousPulse (r : Receiver) (e : Nat) : Bool :=
  (r.srcB.lastMark.map (fun l => decide (e < l.e + pulseSpacing))).getD false

/-- A pulse accepted with this latch (R26). -/
def Receiver.acceptedPulse (r : Receiver) (l : Latch) : Receiver :=
  { r with srcB := r.srcB.marked l, countB := { r.countB with accepted := satAdd r.countB.accepted 1 max16 } }

/-- The value an accepted pulse carries: none in FREE (R28). -/
def State.pulseValue (s : State) : Option Int :=
  if s.dsc.state = .free then none else some (sampleOfPulse s.cfg s.tsc.n)

/-- REFB_PULSE (R26): discarded as SPURIOUS, or accepted and taken through R28 and R30. -/
def execRefbPulse (s : State) : Host.Outcome State Fault Refusal :=
  if s.rrx.spuriousPulse s.tsc.e then
    .next (s.setRrx { s.rrx with countB := { s.rrx.countB with spurious := satAdd s.rrx.countB.spurious 1 max16 } })
  else
    .next ((s.setRrx (s.rrx.acceptedPulse s.latch)).takeRefEvent .b (.mark s.pulseValue s.tsc.epoch s.rrx.srcClass))

/-! ### Timers -/

/-- A candidate in hand whose mark lies before an instant of REF-A defers it (R29). -/
def Receiver.defers (r : Receiver) (x : Source) (at' : Nat) : Bool :=
  decide (x = .a) && (r.candidate.map (fun c => decide (c.mark.e < at'))).getD false

/-- An instant of a source that no candidate in hand defers (R29). -/
def Receiver.undeferred (r : Receiver) (x : Source) (at' : Option Nat) : Option Nat :=
  at'.filter (fun t => !r.defers x t)

/-- The revert timer expires: it is stopped and the selection evaluated without case 1 (R36, R37). -/
def State.revertExpires (s : State) : State := (s.setRrx { s.rrx with revert := none }).evalSelection true

/-! ### PINJ and REFS -/

/-- The source a PINJ names: 1 A, 2 B (R198). -/
def sourceOfCode (b : Byte) : Option Source :=
  if b = 1 then some .a else if b = 2 then some .b else none

/-- An injection set or cancelled (R35). -/
def SourceData.inject (d : SourceData) (value : BitVec 32) (count : Byte) : SourceData :=
  { d with injection := if count = 0 then none else some { value := value.toInt, remaining := count.toNat } }

/-- PINJ at RRX (R35): STATE in FREE, PARAM for another source. -/
def servePinj (source : Byte) (value : BitVec 32) (count : Byte) (s : State) : State × Answer :=
  if s.dsc.state = .free then (s, { result := .state })
  else
    match sourceOfCode source with
    | none => (s, { result := .param })
    | some x => (s.setSrc x ((s.rrx.src x).inject value count), { result := .ok })

/-- PINJ (R35). -/
def execPinj (tag source : Byte) (value : BitVec 32) (count : Byte) (s : State) :
    Host.Outcome State Fault Refusal :=
  .next (s.takeRequest .pinj tag (servePinj source value count))

/-- The remainder of a running timer in units of `unit` µs, rounded up and at least 1; 0 when stopped (R198). -/
def remaining (now unit : Nat) : Option Nat → Nat
  | none => 0
  | some t => max (ceilDiv (t - now) unit) 1

/-- An optional date with its presence byte (R198). -/
def optionalDate : Option Latch → List Byte
  | none => 0 :: List.replicate 10 0
  | some l => 1 :: (dateOf l).bytes

/-- A source's 29 bytes in the REFS reply (12.4). -/
def SourceData.bytes (d : SourceData) : List Byte :=
  [byteOf d.state.code, byteOf d.qualify, byteOf d.out, byteOf d.release]
    ++ (match d.lastSample with
        | none => 0 :: List.replicate 8 0
        | some e => 1 :: beSigned 8 e)
    ++ optionalDate d.lastMark
    ++ (match d.injection with
        | none => List.replicate 5 0
        | some i => beSigned 4 i.value ++ [byteOf i.remaining])

/-- The last frame's six bytes in the REFS reply (12.4). -/
def Receiver.frameBytes (r : Receiver) : List Byte :=
  match r.lastFrame with
  | none => List.replicate 6 0
  | some f => [1, f.sourceId, byteOf f.cls, flagByte f.degraded, r.lastSeq.getD 0, byteOf r.srcClass]

/-- The counters in the REFS reply, 22 bytes (12.4). -/
def Receiver.counterBytes (r : Receiver) : List Byte :=
  [r.countA.accepted, r.countA.check, r.countA.ident, r.countA.repeated, r.countA.mistimed, r.countA.brk,
   r.countA.stale, r.countA.missing, r.countB.accepted, r.countB.spurious, r.countB.missing].flatMap (beBytes 2)

/-- The REFS reply body, 92 bytes (R40, 12.4). -/
def State.refsBody (s : State) : List Byte :=
  [byteOf (selectionCode s.rrx.selection), byteOf (prefCode s.cfg.prefSource)]
    ++ beBytes 2 (remaining s.tsc.e 1000000 (s.rrx.revert.map (·.expiry)))
    ++ [byteOf s.rrx.state.code, byteOf s.rrx.discards]
    ++ s.rrx.frameBytes ++ s.rrx.srcA.bytes ++ s.rrx.srcB.bytes ++ s.rrx.counterBytes

/-- The counters set to 0 (R40). -/
def Receiver.clearCounters (r : Receiver) : Receiver :=
  { r with countA := Receiver.reset.countA, countB := Receiver.reset.countB }

/-- REFS at RRX (R40): 0 reads, 1 reads and clears, any other value is PARAM. -/
def serveRefs (selector : Byte) (s : State) : State × Answer :=
  if selector = 0 then (s, { result := .ok, body := s.refsBody })
  else if selector = 1 then (s.setRrx s.rrx.clearCounters, { result := .ok, body := s.refsBody })
  else (s, { result := .param })

/-- REFS (R40). -/
def execRefs (tag selector : Byte) (s : State) : Host.Outcome State Fault Refusal :=
  .next (s.takeRequest .refs tag (serveRefs selector))

end Sys2Proof.Machine
end

