-- ==== Sys2Proof/Machine/Time.lean ====
section
/-! DEFINITION. The requests of TSC and DSC: TRD (R16), TSET (R57), TACQ (R58), DISC (R59). -/

namespace Sys2Proof.Machine

/-! ### TRD -/

/-- The TRD reply body, 29 bytes, all from one latch (R16, 12.4). -/
def State.trdBody (s : State) : List Byte :=
  s.dateNow.bytes ++ beBytes 8 s.tsc.shownE ++ beSigned 1 s.tsc.leap
    ++ [byteOf (pendingLeapCode s.tsc.pendingLeap)]
    ++ beSigned 1 ((s.tsc.pendingLeap.map (·.target)).getD 0)
    ++ beSigned 2 s.cfg.localOffset ++ beSigned 4 s.localMinute.day ++ beBytes 2 s.localMinute.minute

/-- TRD at TSC (R16). -/
def serveTrd (s : State) : State × Answer := (s, { result := .ok, body := s.trdBody })

/-- TRD (R16). -/
def execTrd (tag : Byte) (s : State) : Host.Outcome State Fault Refusal := .next (s.takeRequest .trd tag serveTrd)

/-! ### TSET -/

/-- The µs of a second (R57). -/
def maxMicros : Nat := 999999

/-- DSC after the step of a TSET: U, window, lock count, state and c (R57 steps 2 to 5). In FREE with a view
other than A the state becomes HOLDOVER (entry 33). -/
def Discipline.hostSet (d : Discipline) (uncertainty limit : Nat) : Discipline :=
  { d.restart with
    u := uncertainty
    lock := 0
    state := (if d.state = .free then if d.view = some .a then .acquire else .holdover else d.state)
    c := steerFree d.f limit }

/-- A change of discipline state is reported, and on leaving FREE the selection is evaluated (R34, R56). -/
def State.reportMove (old : DiscState) (s : State) : State :=
  if s.dsc.state = old then s
  else if old = .free then (s.reportDisc old).evalSelection false
  else s.reportDisc old

/-- A taken TSET (R57). -/
def State.hostSet (ns : Nat) (uncertainty : Nat) (s : State) : State :=
  let s1 := s.stepTo ns .hostSet (decide (s.dsc.state = .free))
  ((s1.setDsc (s1.dsc.hostSet uncertainty s1.cfg.slewLimit)).evalClass).reportMove s.dsc.state

/-- TSET at DSC (R57). -/
def serveTset (seconds : BitVec 40) (micros : BitVec 24) (uncertainty : BitVec 32) (s : State) : State × Answer :=
  match s.dsc.state with
  | .acquire | .locked => (s, { result := .state })
  | .free | .holdover =>
      if maxMicros < micros.toNat then (s, { result := .param })
      else (s.hostSet (seconds.toNat * nsPerS + micros.toNat * 1000) uncertainty.toNat, { result := .ok })

/-- TSET (R57). -/
def execTset (tag : Byte) (seconds : BitVec 40) (micros : BitVec 24) (uncertainty : BitVec 32) (s : State) :
    Host.Outcome State Fault Refusal :=
  .next (s.takeRequest .tset tag (serveTset seconds micros uncertainty))

/-! ### TACQ -/

/-- TACQ is taken in LOCKED, and in HOLDOVER with a source in the selection view (R58). -/
def Discipline.mayAcquire (d : Discipline) : Bool :=
  match d.state with
  | .locked => true
  | .holdover => d.view.isSome
  | .free | .acquire => false

/-- A taken TACQ (R58). -/
def State.acquire (s : State) : State :=
  ((s.setDsc { s.dsc.restart with state := .acquire, oneShot := true, lock := 0 }).evalClass).reportDisc s.dsc.state

/-- TACQ at DSC (R58). -/
def serveTacq (s : State) : State × Answer :=
  if s.dsc.mayAcquire then (s.acquire, { result := .ok }) else (s, { result := .state })

/-- TACQ (R58). -/
def execTacq (tag : Byte) (s : State) : Host.Outcome State Fault Refusal :=
  .next (s.takeRequest .tacq tag serveTacq)

/-! ### DISC -/

/-- The previous sample's fourteen bytes in the DISC reply (12.4). -/
def prevBytes : Option PrevSample → List Byte
  | none => List.replicate 14 0
  | some p => [1, byteOf (sourceCode p.source)] ++ beSigned 8 p.e ++ beSigned 4 p.c

/-- The DISC reply body, 43 bytes (R59, 12.4). -/
def State.discBody (s : State) : List Byte :=
  let d := s.dsc
  [byteOf d.state.code, byteOf (selectionCode d.view)] ++ beSigned 4 d.f ++ beSigned 4 d.c ++ beBytes 4 d.u
    ++ [byteOf (uClass d.u), byteOf d.srcClass, byteOf d.effClass, byteOf d.count, byteOf (2 ^ s.cfg.freqWindow)]
    ++ beSigned 8 (holdAt d.sum max63) ++ prevBytes d.prev ++ [byteOf d.lock, flagByte d.oneShot]

/-- DISC at DSC (R59). -/
def serveDisc (s : State) : State × Answer := (s, { result := .ok, body := s.discBody })

/-- DISC (R59). -/
def execDisc (tag : Byte) (s : State) : Host.Outcome State Fault Refusal :=
  .next (s.takeRequest .disc tag serveDisc)

end Sys2Proof.Machine
end

