-- ==== Sys2Proof/Machine/Units.lean ====
section
/-! DEFINITION. TLU's events and requests (Chapters 7 and 8): status changes, trips, reconfigurations, the
periodic evaluation, TLRD, TLPS and MSET. -/

namespace Sys2Proof.Machine

/-! ### Changes of mode (R115 to R117) -/

/-- A change that counts a start: from STILL to a running mode (R117). -/
def isStart (old new : Mode) : Bool :=
  decide (old = .still) &&
    match new with
    | .spin | .gen | .pump | .cond => true
    | .none | .still | .indet => false

/-- A start is counted by TLU and told to SHU (R117, R148). -/
def State.countStart (u : Nat) (s : State) : State :=
  let t := (s.unit u).tally
  (s.setTally u { t with starts := satAdd t.starts 1 max16 }).setCurrent (s.shu.current.countStart u)

/-- The E_cp of a unit whose mode goes from `old` to `new` at `t` (R126 step 3): none in NONE, `t` on leaving
NONE, else as the checkpoint left it. -/
def ecpAfter (old new : Mode) (t : Nat) (ecp : Option Nat) : Option Nat :=
  match new, old with
  | .none, _ => none
  | _, .none => some t
  | _, _ => ecp

/-- A unit enters a mode at `t`: entry instant and date, E_cp, and the discrepancy timer (R116 step 5, R122,
R126). -/
def State.enterMode (u : Nat) (new : Mode) (t : Nat) (d : Date) (s : State) : State :=
  let g := s.unit u
  (s.setUnit u { g with mode := new, entry := t, entryDate := d, ecp := ecpAfter g.mode new t g.ecp }).updateTimer
    u g.mode

/-- A MODE record, when MODE_RECORD is 1 (R116 step 6, R126); `d` is none for one dated at placement. -/
def State.placeMode (u : Nat) (old : Mode) (d : Option Date) (s : State) : State :=
  if (s.unitCfg u).modeRecord then
    s.place { detail := .mode u old (s.unit u).mode (s.unit u).tally.starts, source := u, date := d }
  else s

/-- The change of mode of a status change (R116 steps 5 and 6). -/
def State.changeMode (u : Nat) (new : Mode) (t : Nat) (l : Latch) (s : State) : State :=
  let old := (s.unit u).mode
  let s1 := if isStart old new then s.countStart u else s
  (s1.enterMode u new t (dateOf l)).placeMode u old (some (dateOf l))

/-- The instant a status change is booked to: max(E_edge, E_cp) (R116 step 2). -/
def GenUnit.bookTo (g : GenUnit) (edge : Nat) : Nat := max edge (g.ecp.getD 0)

/-- TLU takes a status change of unit `u` with its delivered date (R116). The maintenance is evaluated whether or
not the mode changed (R135; entry 16). -/
def State.statusChange (u : Nat) (l : Latch) (s : State) : State :=
  if (s.unit u).mode = .none then s.evalMaintenance u
  else
    let t := (s.unit u).bookTo l.e
    let s1 := s.checkpoint u t
    let new := s1.deriveMode u
    if new = (s1.unit u).mode then s1.evalMaintenance u else (s1.changeMode u new t l).evalMaintenance u

/-- The mode derived again at a reconfiguration or an RSTRT (R126 steps 2 to 4, R131): no start is counted. -/
def State.rederive (u : Nat) (s : State) : State :=
  let old := (s.unit u).mode
  let new := s.deriveMode u
  if new = old then s else (s.enterMode u new s.tsc.e s.dateNow).placeMode u old none

/-- TLU takes a reconfiguration of status lines that touches the unit, up to its evaluation (R126 steps 1 to 4). -/
def State.reconfigUnit (u : Nat) (s : State) : State := (s.checkpointNow u).rederive u

/-- The units that a cause has touched evaluated, in increasing order (R126 step 5, R127, R135). -/
def State.evalUnits (us : List Nat) (s : State) : State := forAll ((numbers 8).filter us.contains) State.evalMaintenance s

/-- A RUNNING timer moved to the entry instant plus the delay now in force (R122). -/
def State.moveTimer (u : Nat) (s : State) : State :=
  match (s.unit u).timer with
  | .running _ => (s.setUnit u { s.unit u with timer := .running (s.discrepancyExpiry u) }).expireIfPassed u
  | .stopped | .expired => s

/-! ### Trips (R110, R124) -/

/-- The time in mode in seconds, 0 in NONE (R124 step 2, R128). -/
def GenUnit.timeInMode (g : GenUnit) (now : Nat) : Nat :=
  if g.mode = .none then 0 else min ((now - g.entry) / 1000000) max32

/-- The trip's record: the snapshot and the trip count as they stand (R94, R124). -/
def State.tripDetail (s : State) (u : Nat) : Detail :=
  if u = 0 then .trip 0 .none 0 0
  else .trip u (s.unit u).mode ((s.unit u).timeInMode s.tsc.e) (s.unit u).tally.trips

/-- TLU counts a trip of a unit (R124 step 1); a station trip touches no tally (R110). -/
def State.countTrip (u : Nat) (s : State) : State :=
  if u = 0 then s
  else
    let t := (s.unit u).tally
    s.setTally u { t with trips := satAdd t.trips 1 max16 }

/-- A trip is counted, its record asked of EVQ, and the trip handed to SHU with the outcome (R110, R124). -/
def State.trip (line u : Nat) (l : Latch) (s : State) : State :=
  let s1 := s.countTrip u
  let r := s1.placeSeq
    { detail := s1.tripDetail u, source := line, station := decide (u = 0), date := some (dateOf l) }
  r.1.shiftTrip u (dateOf l) r.2

/-! ### Timers -/

/-- The spacing of the periodic evaluations (R136). -/
def evaluationPeriod : Nat := 60000000

/-- The periodic evaluation, which sets its next instant (R136). -/
def State.evalPeriodic (s : State) : State :=
  (s.setTlu { s.tlu with nextEval := s.tlu.nextEval + evaluationPeriod }).evalAll

/-! ### TLRD -/

/-- The accumulators in the TLRD reply, 42 bytes (12.4). -/
def Accs.bytes (a : Accs) : List Byte :=
  [a.still, a.spin, a.gen, a.pump, a.cond, a.indet].flatMap (fun x => beBytes 4 x.secs ++ beBytes 3 x.rem)

/-- The seconds a RUNNING discrepancy timer has left (R128, R198). -/
def DiscTimer.remaining (t : DiscTimer) (now : Nat) : Nat :=
  match t with
  | .running expiry => Sys2Proof.Machine.remaining now 1000000 (some expiry)
  | .stopped | .expired => 0

/-- The TLRD reply body, 79 bytes, all readings at this instant (R128, R139, 12.4). -/
def State.tlrdBody (s : State) (u : Nat) : List Byte :=
  let g := s.unit u
  [byteOf u, byteOf g.mode.code] ++ g.entryDate.bytes ++ beBytes 4 (g.timeInMode s.tsc.e)
    ++ (g.reading s.tsc.e).bytes
    ++ beBytes 2 g.tally.starts ++ beBytes 2 g.tally.trips ++ [flagByte g.tally.sat]
    ++ [byteOf g.timer.code, byteOf (g.timer.remaining s.tsc.e)]
    ++ [byteOf (s.unitCfg u).group] ++ beBytes 4 g.tally.baseline ++ beBytes 4 (s.eoh u)
    ++ beBytes 4 g.tally.limit ++ [flagByte g.tally.due]

/-- TLRD at TLU (R128): any unit but 1 to 8 is PARAM. -/
def serveTlrd (unit : Byte) (s : State) : State × Answer :=
  if unitExists unit.toNat then (s, { result := .ok, body := s.tlrdBody unit.toNat }) else (s, { result := .param })

/-- TLRD (R128). -/
def execTlrd (tag unit : Byte) (s : State) : Host.Outcome State Fault Refusal :=
  .next (s.takeRequest .tlrd tag (serveTlrd unit))

/-! ### TLPS and MSET -/

/-- The units a selector names, in increasing order (R129, R138, R198); none is PARAM. The second byte of ALL is
not read (entry 35). -/
def State.selectUnits (s : State) (selector n : Byte) : Option (List Nat) :=
  if selector = 1 then if unitExists n.toNat then some [n.toNat] else none
  else if selector = 2 then
    if 1 ≤ n.toNat ∧ n.toNat ≤ 7 then some ((numbers 8).filter (fun u => (s.unitCfg u).group == n.toNat)) else none
  else if selector = 3 then some (numbers 8)
  else none

/-- The tally field of a code (R198). -/
def TallyField.ofCode (b : Byte) : Option TallyField :=
  [TallyField.stillS, .spinS, .genS, .pumpS, .condS, .indetS, .starts, .trips, .baseline].find?
    (fun f => f.code == b.toNat)

/-- The largest value of a field (R129). -/
def TallyField.max : TallyField → Nat
  | .starts | .trips => max16
  | .stillS | .spinS | .genS | .pumpS | .condS | .indetS | .baseline => max32

/-- The field set; a seconds field's remainder becomes 0 (R129 step 2). -/
def Tally.put (t : Tally) (f : TallyField) (v : Nat) : Tally :=
  match f with
  | .stillS => { t with accs := t.accs.set .still ⟨v, 0⟩ }
  | .spinS => { t with accs := t.accs.set .spin ⟨v, 0⟩ }
  | .genS => { t with accs := t.accs.set .gen ⟨v, 0⟩ }
  | .pumpS => { t with accs := t.accs.set .pump ⟨v, 0⟩ }
  | .condS => { t with accs := t.accs.set .cond ⟨v, 0⟩ }
  | .indetS => { t with accs := t.accs.set .indet ⟨v, 0⟩ }
  | .starts => { t with starts := v }
  | .trips => { t with trips := v }
  | .baseline => { t with baseline := v }

/-- SAT evaluated: some seconds field stands at its largest value (R129 step 3). -/
def Accs.saturated (a : Accs) : Bool :=
  [a.still, a.spin, a.gen, a.pump, a.cond, a.indet].any (fun x => x.secs == max32)

/-- A preset tally (R129 steps 2 and 3). -/
def Tally.preset (t : Tally) (f : TallyField) (v : Nat) : Tally :=
  let t1 := t.put f v
  { t1 with sat := t1.accs.saturated }

/-- A preset of one unit (R129 steps 1 to 5). -/
def State.presetUnit (f : TallyField) (v : Nat) (u : Nat) (s : State) : State :=
  let s1 := s.checkpointNow u
  ((s1.setTally u ((s1.unit u).tally.preset f v)).place { detail := .preset u f v, source := u }).evalMaintenance u

/-- TLPS at TLU (R129). -/
def serveTlps (selector n field : Byte) (value : BitVec 32) (s : State) : State × Answer :=
  match s.selectUnits selector n, TallyField.ofCode field with
  | some us, some f =>
      if value.toNat ≤ f.max then
        (forAll us (State.presetUnit f value.toNat) s, { result := .ok, body := [byteOf us.length] })
      else (s, { result := .param })
  | _, _ => (s, { result := .param })

/-- TLPS (R129). -/
def execTlps (tag selector n field : Byte) (value : BitVec 32) (s : State) : Host.Outcome State Fault Refusal :=
  .next (s.takeRequest .tlps tag (serveTlps selector n field value))

/-- A limit set and the unit evaluated (R138). -/
def State.limitUnit (limit : Nat) (u : Nat) (s : State) : State :=
  (s.setTally u { (s.unit u).tally with limit := limit }).evalMaintenance u

/-- MSET at TLU (R138). -/
def serveMset (selector n : Byte) (limit : BitVec 32) (s : State) : State × Answer :=
  match s.selectUnits selector n with
  | some us => (forAll us (State.limitUnit limit.toNat) s, { result := .ok, body := [byteOf us.length] })
  | none => (s, { result := .param })

/-- MSET (R138). -/
def execMset (tag selector n : Byte) (limit : BitVec 32) (s : State) : Host.Outcome State Fault Refusal :=
  .next (s.takeRequest .mset tag (serveMset selector n limit))

end Sys2Proof.Machine
end

