-- ==== Sys2Proof/Machine/Lines.lean ====
section
/-! DEFINITION. LQU (Chapter 5): pin changes, the filter, chatter, delivery, reconfiguration, EINJ and LNST. -/

namespace Sys2Proof.Machine

/-! ### Delivery (R82 to R85) -/

/-- The effective level of a line set. -/
def State.setEffective (i : Nat) (level : Bool) (s : State) : State := s.setLine i { s.line i with effective := level }

/-- An EDGE record of a line (R82, R94). -/
def State.edgeRecord (i : Nat) (level : Bool) (l : Latch) (s : State) : Placement :=
  { detail := .edge level (s.lineCfg i).kind (s.lineCfg i).unit, source := i
    station := decide ((s.lineCfg i).unit = 0), date := some (dateOf l) }

/-- A TRIPCLR record of a line (R85, R94). -/
def State.clearRecord (i : Nat) (l : Latch) (s : State) : Placement :=
  { detail := .tripclr (s.lineCfg i).unit, source := i, station := decide ((s.lineCfg i).unit = 0)
    date := some (dateOf l) }

/-- The TRIP notice, when LINE_NOTIFY is 1 (R84, R89). -/
def State.notifyTrip (i : Nat) (s : State) : State := if (s.lineCfg i).notify then s.raise .trip else s

/-- The trip path (R84). -/
def State.tripPath (i : Nat) (l : Latch) (s : State) : State := (s.trip i (s.lineCfg i).unit l).notifyTrip i

/-- A record asked for when LINE_RECORD is 1 (R82, R85). -/
def State.placeIfRecorded (i : Nat) (p : Placement) (s : State) : State :=
  if (s.lineCfg i).record then s.place p else s

/-- What a delivered change is handed on to, by the line's kind and unit (R82). -/
def State.handOn (i : Nat) (level : Bool) (l : Latch) (s : State) : State :=
  let c := s.lineCfg i
  match c.kind with
  | .unused => s
  | .plain => s.placeIfRecorded i (s.edgeRecord i level l)
  | .breaker | .speed | .pump | .cond =>
      let s1 := s.placeIfRecorded i (s.edgeRecord i level l)
      if c.unit = 0 then s1 else s1.statusChange c.unit l
  | .trip => if level then s.tripPath i l else s.placeIfRecorded i (s.clearRecord i l)

/-- A change is delivered (R82). -/
def State.deliver (i : Nat) (level : Bool) (l : Latch) (s : State) : State :=
  (s.setEffective i level).handOn i level l

/-! ### Qualification and chatter (R76 to R81) -/

/-- CHATTER_WINDOW in µs. -/
def Settings.window (cfg : Settings) : Nat := cfg.chatterWindow * 1000000

/-- The recent-change list after pruning at `now` (R77). -/
def pruned (recent : List Nat) (now window : Nat) : List Nat := recent.filter (fun t => decide (now < t + window))

/-- An asserting change of a TRIP line is exempt from chatter (R80). -/
def State.exempt (s : State) (i : Nat) (level : Bool) : Bool := decide ((s.lineCfg i).kind = .trip) && level

/-- A suppressed change: delivered only as an exempt trip (R78 step 1, R80). -/
def State.suppress (i : Nat) (p : PendingChange) (s : State) : State :=
  if s.exempt i p.level then (s.setEffective i true).tripPath i p.raw else s

/-- A line enters CHATTER with the change that qualified (R78). -/
def State.enterChatter (i : Nat) (p : PendingChange) (s : State) : State :=
  let s1 := s.suppress i p
  let x := s1.line i
  let s2 := s1.setLine i { x with
    state := .chatter, recent := [], quiet := some (x.lastRawEdge.getD s1.tsc.e + s1.cfg.window) }
  (s2.place { detail := .chatter true x.effective, source := i }).raise .chatter

/-- The pending change of a line qualifies (R76, R77, R79). Two changes of one line that qualify at the same µs of E
are both listed and both counted, although R77 says that no two entries are alike: DESIGN CHOICE (entry 38). -/
def State.qualify (i : Nat) (p : PendingChange) (s : State) : State :=
  let x := s.line i
  if x.state = .chatter then (s.setLine i { x with filtered := p.level, pending := none }).suppress i p
  else
    let recent := pruned x.recent s.tsc.e s.cfg.window
    if recent.length < s.cfg.chatterCount then
      (s.setLine i { x with
        filtered := p.level, pending := none, state := .steady, recent := recent ++ [s.tsc.e] }).deliver i p.level p.raw
    else (s.setLine i { x with filtered := p.level, pending := none, state := .steady, recent := recent }).enterChatter i p

/-- The raw date of an edge: the latch less LINE_COMP, held at zero (R75). -/
def compensate (l : Latch) (comp : Nat) : Latch :=
  let t := l.s * nsPerS + l.n - comp * 1000
  { l with s := t / nsPerS, n := t % nsPerS, e := l.e - comp }

/-- A raw edge of a line with no pending change (R75); with LINE_FILTER = 0 it qualifies at once (R76). -/
def State.startPending (i : Nat) (s : State) : State :=
  let x := s.line i
  let p : PendingChange :=
    { level := s.lineLevel i, raw := compensate s.latch (s.lineCfg i).comp, expiry := s.tsc.e + (s.lineCfg i).filter * 1000 }
  let s1 := s.setLine i { x with pending := some p, state := if x.state = .chatter then .chatter else .pending }
  if (s.lineCfg i).filter = 0 then s1.qualify i p else s1

/-- A raw edge of a line that holds a pending change: a return, counted as a bounce (R76). -/
def State.bounce (i : Nat) (s : State) : State :=
  let x := s.line i
  s.setLine i { x with
    pending := none, bounce := satAdd x.bounce 1 255, state := if x.state = .chatter then .chatter else .steady }

/-- A raw edge of a watched line (R75, R76, R79): it is the last raw edge and moves a quiet timer. -/
def State.rawEdge (i : Nat) (s : State) : State :=
  let x := s.line i
  let s1 := s.setLine i { x with
    lastRawEdge := some s.tsc.e
    quiet := if x.state = .chatter then some (s.tsc.e + s.cfg.window) else x.quiet }
  if x.pending.isSome then s1.bounce i else s1.startPending i

/-- The pin of a line goes to a level (R72, R74): an edge when the line is watched, else only the level shown. -/
def State.pinChange (i : Nat) (high : Bool) (s : State) : State :=
  if (s.line i).pinHigh = high then s
  else
    let s1 := s.setLine i { s.line i with pinHigh := high }
    if (s.lineCfg i).kind = .unused then s1 else s1.rawEdge i

/-- RAW_EDGE (R75). -/
def execRawEdge (i : Nat) (high : Bool) (s : State) : Host.Outcome State Fault Refusal :=
  if lineExists i then .next (s.pinChange i high) else .fault .noSuchLine

/-- UNUSED_LINE_PIN_CHANGE (R72). -/
def execUnusedLinePinChange (i : Nat) (high : Bool) (s : State) : Host.Outcome State Fault Refusal :=
  if lineExists i then .next (s.pinChange i high) else .fault .noSuchLine

/-- The filter expiry of the pending change of a line is reached (R76). -/
def State.filterReached (i : Nat) (s : State) : State :=
  match (s.line i).pending with
  | none => s
  | some p => s.qualify i p

/-- A line leaves CHATTER (R81). A pending change that a command has left untaken past its expiry is dropped
(entry 31). -/
def State.leaveChatter (i : Nat) (s : State) : State :=
  let level := s.lineLevel i
  let s1 := s.place { detail := .chatter false level, source := i }
  let x := s1.line i
  let differs := level != x.effective
  let s2 := s1.setLine i { x with
    quiet := none, state := .steady, pending := none, filtered := level
    recent := if differs then [s1.tsc.e] else [] }
  if differs then s2.deliver i level s2.latch else s2

/-! ### Reconfiguration (R87) and sampling (R91) -/

/-- Steps 1 to 4 of R87, under the configuration now in force. A line that becomes UNUSED keeps its effective
level, which its filtered level then equals as R74 asks outside CHATTER (entry 34). -/
def State.resetLine (i : Nat) (s : State) : State :=
  let x := { s.line i with pending := none, quiet := none, recent := [], lastRawEdge := none }
  if (s.lineCfg i).kind = .unused then s.setLine i { x with state := .unused, filtered := x.effective }
  else s.setLine i { x with state := .steady, filtered := s.lineLevel i, effective := s.lineLevel i }

/-- The unit of a line among 1 to 8, when the line is of a status kind (R87 step 5). -/
def LineSettings.statusUnit (c : LineSettings) : List Nat :=
  if c.kind.isStatus && unitExists c.unit then [c.unit] else []

/-- The units touched by a line's change from one configuration to another (R87 step 5). -/
def touchedUnits (old new : LineSettings) : List Nat := (old.statusUnit ++ new.statusUnit).dedup

/-- TLU is told of the touched units; two of them in either order (R126, entry 32). Their evaluations follow
(`State.evalUnits`). -/
def State.tellUnits (us : List Nat) (s : State) : State :=
  match us with
  | [u, v] => eitherOrder (State.reconfigUnit u) (State.reconfigUnit v) s
  | us => forAll us State.reconfigUnit s

/-- A line whose kind, unit or polarity has changed from `old` (R87), the touched units not yet evaluated. -/
def State.reconfigLine (i : Nat) (old : LineSettings) (s : State) : State :=
  (s.resetLine i).tellUnits (touchedUnits old (s.lineCfg i))

/-- A line as the resets sample it (R91, R92). The levels of an UNUSED line are set inactive (entry 34). -/
def sampledLine (pinHigh : Bool) (c : LineSettings) : Line :=
  let level := if c.kind = .unused then false else pinHigh != c.activeLow
  { pinHigh := pinHigh, filtered := level, effective := level
    state := if c.kind = .unused then .unused else .steady
    pending := none, lastRawEdge := none, recent := [], quiet := none, bounce := 0 }

/-! ### EINJ -/

/-- The record an EINJ places for the line's kind (R89): its date is the latch of this instant. -/
def State.injectedRecord (i : Nat) (level : Bool) (s : State) : Placement :=
  let base :=
    if (s.lineCfg i).kind = .trip then
      if level then
        { detail := s.tripDetail (s.lineCfg i).unit, source := i, station := decide ((s.lineCfg i).unit = 0)
          date := some (dateOf s.latch) : Placement }
      else s.clearRecord i s.latch
    else s.edgeRecord i level s.latch
  { base with injected := true }

/-- A taken EINJ (R89). -/
def State.injectLine (i : Nat) (level : Bool) (s : State) : State :=
  let s1 := s.place (s.injectedRecord i level)
  if s1.exempt i level then s1.notifyTrip i else s1

/-- EINJ at LQU (R89): PARAM, then STATE for an UNUSED line. -/
def serveEinj (line level : Byte) (s : State) : State × Answer :=
  if lineExists line.toNat = false ∨ 1 < level.toNat then (s, { result := .param })
  else if (s.lineCfg line.toNat).kind = .unused then (s, { result := .state })
  else (s.injectLine line.toNat (decide (level = 1)), { result := .ok })

/-- EINJ (R89). -/
def execEinj (tag line level : Byte) (s : State) : Host.Outcome State Fault Refusal :=
  .next (s.takeRequest .einj tag (serveEinj line level))

/-! ### LNST -/

/-- The levels byte (12.4). -/
def State.levelsByte (s : State) (i : Nat) : Byte :=
  let x := s.line i
  byteOf ((if x.pinHigh then 1 else 0) + (if s.lineLevel i then 2 else 0) + (if x.filtered then 4 else 0)
    + (if x.effective then 8 else 0))

/-- The pending change's thirteen bytes (12.4). -/
def pendingBytes (now : Nat) : Option PendingChange → List Byte
  | none => List.replicate 13 0
  | some p => [1, flagByte p.level] ++ (dateOf p.raw).bytes ++ [byteOf (remaining now 1000 (some p.expiry))]

/-- The reply of LNST for one line, 28 bytes (R90, 12.4). -/
def State.lineBody (s : State) (i : Nat) : List Byte :=
  let c := s.lineCfg i
  let x := s.line i
  [byteOf i, byteOf c.kind.code, byteOf c.unit, flagByte c.activeLow, byteOf c.filter] ++ beBytes 2 c.comp
    ++ [flagByte c.record, flagByte c.notify, s.levelsByte i, byteOf x.state.code] ++ pendingBytes s.tsc.e x.pending
    ++ [byteOf (pruned x.recent s.tsc.e s.cfg.window).length]
    ++ beBytes 2 (remaining s.tsc.e 1000 x.quiet) ++ [byteOf x.bounce]

/-- A line's three bytes in the reply for all lines (12.4). -/
def State.lineBrief (s : State) (i : Nat) : List Byte :=
  [byteOf (s.line i).state.code, s.levelsByte i, byteOf (s.line i).bounce]

/-- The bounce count of a line set to 0 (R90). -/
def State.clearBounce (i : Nat) (s : State) : State := s.setLine i { s.line i with bounce := 0 }

/-- LNST at LQU (R90): 1 to 32 one line, 0 all, any other value PARAM. -/
def serveLnst (selector : Byte) (s : State) : State × Answer :=
  if selector = 0 then
    (forAll (numbers 32) State.clearBounce s, { result := .ok, body := (numbers 32).flatMap s.lineBrief })
  else if lineExists selector.toNat then
    (s.clearBounce selector.toNat, { result := .ok, body := s.lineBody selector.toNat })
  else (s, { result := .param })

/-- LNST (R90). -/
def execLnst (tag selector : Byte) (s : State) : Host.Outcome State Fault Refusal :=
  .next (s.takeRequest .lnst tag (serveLnst selector))

end Sys2Proof.Machine
end

