-- ==== Sys2Proof/Machine/Shifts.lean ====
section
/-! DEFINITION. SHU's requests and its window timer (Chapter 9): SCHW, SCHR, HREL, HACC, HOPN, TACK, TACK_ALL,
SHHS and SHST. -/

namespace Sys2Proof.Machine

/-- The highest crew number; 0 stands for no crew. -/
def maxCrew : Nat := 15

/-! ### The schedule (R143 to R145) -/

/-- An entry as the host writes it. -/
def writtenEntry (w : ScheduleWrite) : ScheduleEntry :=
  { start := w.start.toNat, crew := w.crew.toNat, window := w.window.toNat }

/-- No two entries have the same start minute (R143). -/
def distinctStarts : List ScheduleEntry → Bool
  | [] => true
  | x :: xs => xs.all (fun y => x.start != y.start) && distinctStarts xs

/-- A written schedule that SCHW may take (R144). -/
def scheduleTaken (xs : List ScheduleEntry) : Bool :=
  decide (xs.length ≤ 6) && xs.all (fun x => decide (x.start ≤ 1439 ∧ 1 ≤ x.crew ∧ x.crew ≤ maxCrew))
    && distinctStarts xs

/-- An entry put in its place by start minute. -/
def insertEntry (x : ScheduleEntry) : List ScheduleEntry → List ScheduleEntry
  | [] => [x]
  | y :: ys => if x.start ≤ y.start then x :: y :: ys else y :: insertEntry x ys

/-- The entries in increasing order of start minute (R143). -/
def sortEntries (xs : List ScheduleEntry) : List ScheduleEntry := xs.foldr insertEntry []

/-- The gap from an entry to the next: 1,440 when it is the only one (R143). -/
def gapTo (x next : ScheduleEntry) : Nat :=
  let g := (next.start + 1440 - x.start) % 1440
  if g = 0 then 1440 else g

/-- A window clamped into 5 to 120 (R144, R161). -/
def clampWindow (w : Nat) : Nat := clampNat w 5 120

/-- The second pass: a window clamped to its entry's gap (R144). -/
def clampEntry (x next : ScheduleEntry) : ScheduleEntry := { x with window := min (clampWindow x.window) (gapTo x next) }

/-- The entries sorted, each with its window clamped against the next, cyclically (R143, R144). -/
def storedSchedule (xs : List ScheduleEntry) : List ScheduleEntry :=
  let sorted := sortEntries xs
  List.zipWith clampEntry sorted (sorted.drop 1 ++ sorted.take 1)

/-- SHU's schedule replaced and the last-fired table pruned (R15, R144, R169). -/
def State.setSchedule (xs : List ScheduleEntry) (s : State) : State :=
  (s.setShu { s.shu with schedule := xs }).pruneFired

/-- SCHW at SHU (R144). -/
def serveSchw (entries : List ScheduleWrite) (s : State) : State × Answer :=
  let written := entries.map writtenEntry
  if scheduleTaken written then
    let stored := storedSchedule written
    (s.setSchedule stored, { result := if stored = sortEntries written then .ok else .clamped })
  else (s, { result := .param })

/-- An entry in the SCHR reply (12.4). -/
def ScheduleEntry.bytes (x : ScheduleEntry) : List Byte := beBytes 2 x.start ++ [byteOf x.crew, byteOf x.window]

/-- SCHR at SHU (R145). -/
def serveSchr (s : State) : State × Answer :=
  (s, { result := .ok, body := byteOf s.shu.schedule.length :: s.shu.schedule.flatMap ScheduleEntry.bytes })

/-- SCHR (R145). -/
def execSchr (tag : Byte) (s : State) : Host.Outcome State Fault Refusal := .next (s.takeRequest .schr tag serveSchr)

/-! ### Completion (R159) -/

/-- The three things that must hold together for an open handover to complete (9.4). -/
def ShiftUnitState.ready (h : ShiftUnitState) : Bool :=
  decide (h.state ≠ .onShift) && h.release && h.accept && h.openTrips.isEmpty && !h.overflow

/-- The handover duration in seconds, held at 65,535 (R159). -/
def State.handoverDuration (s : State) : Nat :=
  min ((s.tsc.e - (s.shu.window.map (·.opening)).getD s.tsc.e) / 1000000) max16

/-- An open handover completes when it is ready (R159). -/
def State.completeIfReady (s : State) : State :=
  if s.shu.ready then s.closeShift .completed .completed (s.shu.expected.getD 0) s.handoverDuration else s

/-- HREL at SHU (R157): PARAM, NOTDUE, CREW, else the release flag. -/
def serveHrel (crew : Byte) (s : State) : State × Answer :=
  if maxCrew < crew.toNat then (s, { result := .param })
  else if s.shu.state = .onShift then (s, { result := .notdue })
  else if crew.toNat ≠ s.shu.current.crew then (s, { result := .crew })
  else if s.shu.release then (s, { result := .ok })
  else ((s.setShu { s.shu with release := true }).completeIfReady, { result := .ok })

/-- HREL (R157). -/
def execHrel (tag crew : Byte) (s : State) : Host.Outcome State Fault Refusal :=
  .next (s.takeRequest .hrel tag (serveHrel crew))

/-- HACC at SHU (R158): PARAM, NOTDUE, CREW, else the accept flag. -/
def serveHacc (crew : Byte) (s : State) : State × Answer :=
  if maxCrew < crew.toNat then (s, { result := .param })
  else if s.shu.state = .onShift then (s, { result := .notdue })
  else if some crew.toNat ≠ s.shu.expected then (s, { result := .crew })
  else if s.shu.accept then (s, { result := .ok })
  else ((s.setShu { s.shu with accept := true }).completeIfReady, { result := .ok })

/-- HACC (R158). -/
def execHacc (tag crew : Byte) (s : State) : Host.Outcome State Fault Refusal :=
  .next (s.takeRequest .hacc tag (serveHacc crew))

/-! ### HOPN -/

/-- HOPN at SHU (R161): STATE, PARAM, else the handover opens with the window carried, clamped, or
MANUAL_WINDOW. -/
def serveHopn (crew : Byte) (window : Option Byte) (s : State) : State × Answer :=
  if s.shu.state ≠ .onShift then (s, { result := .state })
  else if crew = 0 ∨ maxCrew < crew.toNat ∨ crew.toNat = s.shu.current.crew then (s, { result := .param })
  else
    let asked := (window.map (·.toNat)).getD s.cfg.manualWindow
    let w := if window.isSome then clampWindow asked else asked
    (s.openHandover crew.toNat w, { result := if w = asked then .ok else .clamped, body := [byteOf w] })

/-- HOPN (R161). -/
def execHopn (tag crew : Byte) (window : Option Byte) (s : State) : Host.Outcome State Fault Refusal :=
  .next (s.takeRequest .hopn tag (serveHopn crew window))

/-! ### TACK -/

/-- A crew that may acknowledge: the current one, or the expected one while a handover is open (R163). -/
def ShiftUnitState.mayAcknowledge (h : ShiftUnitState) (crew : Nat) : Bool :=
  decide (crew = h.current.crew) || (decide (h.state ≠ .onShift) && decide (h.expected = some crew))

/-- The reply of a TACK: the entries removed and those that remain (R163, 12.4). -/
def tackAnswer (before after : ShiftUnitState) : Answer :=
  { result := .ok, body := [byteOf (before.openTrips.length - after.openTrips.length), byteOf after.openTrips.length] }

/-- The list left by an acknowledgement is stored, and may complete the handover (R163). -/
def State.acknowledge (h : ShiftUnitState) (s : State) : State × Answer :=
  ((s.setShu h).completeIfReady, tackAnswer s.shu h)

/-- TACK of one seq at SHU (R163): PARAM for a crew above 15, CREW, PARAM for a seq not listed. -/
def serveTack (crew : Byte) (seq : BitVec 32) (s : State) : State × Answer :=
  if maxCrew < crew.toNat then (s, { result := .param })
  else if s.shu.mayAcknowledge crew.toNat = false then (s, { result := .crew })
  else if s.shu.openTrips.any (fun t => t.seq == seq.toNat) then
    s.acknowledge { s.shu with openTrips := s.shu.openTrips.eraseP (fun t => t.seq == seq.toNat) }
  else (s, { result := .param })

/-- TACK ALL at SHU (R163). -/
def serveTackAll (crew : Byte) (s : State) : State × Answer :=
  if maxCrew < crew.toNat then (s, { result := .param })
  else if s.shu.mayAcknowledge crew.toNat = false then (s, { result := .crew })
  else s.acknowledge { s.shu with openTrips := [], overflow := false }

/-- TACK with a seq (R163). -/
def execTack (tag crew : Byte) (seq : BitVec 32) (s : State) : Host.Outcome State Fault Refusal :=
  .next (s.takeRequest .tack tag (serveTack crew seq))

/-- TACK with the selector ALL (R163). -/
def execTackAll (tag crew : Byte) (s : State) : Host.Outcome State Fault Refusal :=
  .next (s.takeRequest .tack tag (serveTackAll crew))

/-! ### The window timer (R160) -/

/-- The window of a handover in HANDOVER expires (R160). -/
def State.goOverdue (s : State) : State :=
  let s1 := (s.setShu { s.shu with state := .overdue }).setCurrent { s.shu.current with overdue := true }
  (s1.placeShift .overdue (s1.shu.expected.getD 0)).hand .handoverOverdue true

/-! ### SHHS and SHST -/

/-- SHHS at SHU (R165): an index at or beyond the records held is PARAM. -/
def serveShhs (index : Byte) (s : State) : State × Answer :=
  match s.shu.history[index.toNat]? with
  | some r => (s, { result := .ok, body := byteOf s.shu.history.length :: r.bytes })
  | none => (s, { result := .param })

/-- SHHS (R165). -/
def execShhs (tag index : Byte) (s : State) : Host.Outcome State Fault Refusal :=
  .next (s.takeRequest .shhs tag (serveShhs index))

/-- The seconds left of the window in HANDOVER, 0 otherwise (R166). -/
def State.windowRemaining (s : State) : Nat :=
  if s.shu.state = .handover then remaining s.tsc.e 1000000 (s.shu.window.map (·.expiry)) else 0

/-- The SHST reply body (R166, 12.4). -/
def State.shstBody (s : State) : List Byte :=
  [byteOf s.shu.state.code, byteOf (s.shu.expected.getD 0), flagByte s.shu.release, flagByte s.shu.accept]
    ++ beBytes 2 s.windowRemaining ++ s.shu.current.bytes
    ++ [byteOf s.shu.openTrips.length, flagByte s.shu.overflow] ++ s.shu.openTrips.flatMap OpenTrip.bytes

/-- SHST at SHU (R166). -/
def serveShst (s : State) : State × Answer := (s, { result := .ok, body := s.shstBody })

/-- SHST (R166). -/
def execShst (tag : Byte) (s : State) : Host.Outcome State Fault Refusal := .next (s.takeRequest .shst tag serveShst)

end Sys2Proof.Machine
end

