-- ==== Sys2Proof/Machine/Saves.lean ====
section
/-! DEFINITION. STC's events and its SAVE request (Chapter 10): the end of a save, the autosave expiry, HOLDUP. -/

namespace Sys2Proof.Machine

/-- The shortest a save may take, in µs (R175). -/
def saveShortest : Nat := 30000

/-- The store after the write of this save (R175 step 1): the snapshot, or bytes that are not the snapshot's. -/
def SaveInFlight.written (f : SaveInFlight) (ok : Bool) : Store :=
  match ok, f.snapshot with
  | true, some x => .holds x
  | _, _ => .broken

/-- The outcome of a save judged (R175 step 1). -/
def StoreController.outcome (c : StoreController) (f : SaveInFlight) (ok : Bool) : StoreController :=
  { c with store := f.written ok, state := if ok then .valid else .corrupt }

/-- The STORE record of a save and, on FAIL, the STORE_FAIL notice (R175 steps 2 and 3). -/
def State.reportSave (t : Trigger) (ok : Bool) (s : State) : State :=
  let s1 := s.place { detail := .store ok t }
  if ok then s1 else s1.raise .storeFail

/-- The save in flight is cleared, and a queued save starts at once (R175 step 5). -/
def State.nextSave (s : State) : State :=
  let s1 := s.setStc { s.stc with inFlight := none, queued := none }
  match s.stc.queued with
  | none => s1
  | some t => s1.startSave t

/-- The save in flight ends at this instant (R175). -/
def State.endSave (f : SaveInFlight) (ok : Bool) (s : State) : State :=
  let s1 := (s.setStc (s.stc.outcome f ok)).reportSave f.trigger ok
  ((s1.setStc { s1.stc with lastEnd := s1.tsc.e }).setAutosave).nextSave

/-- The save in flight ends with the outcome that its free value gives (R175, entry 12). -/
def State.saveEnds (s : State) : State :=
  match s.stc.inFlight with
  | none => s
  | some f => s.endSave f (Config.readBackEqual f.draw)

/-- SAVE at STC (R177). -/
def serveSave (s : State) : State × Answer := (s.requestSave .save, { result := .ok })

/-- SAVE (R177). -/
def execSave (tag : Byte) (s : State) : Host.Outcome State Fault Refusal := .next (s.takeRequest .save tag serveSave)

/-- The HOLDUP level as STC holds it. -/
def State.setHoldup (s : State) (level : Bool) : State := s.setStc { s.stc with holdup := level }

/-- HOLDUP_ASSERTION (R179): a change of level from released, a save with the trigger HOLDUP, SUPPLY_LOW. -/
def execHoldupAssertion (s : State) : Host.Outcome State Fault Refusal :=
  if s.stc.holdup then .next s else .next (((s.setHoldup true).requestSave .holdup).hand .supplyLow true)

/-- HOLDUP_RELEASE (R179): SUPPLY_LOW ends; a save in flight or queued runs on. -/
def execHoldupRelease (s : State) : Host.Outcome State Fault Refusal :=
  if s.stc.holdup then .next ((s.setHoldup false).hand .supplyLow false) else .next s

end Sys2Proof.Machine
end

