-- ==== Sys2Proof/Machine/Configure.lean ====
section
/-! DEFINITION. The configuration requests: CFGW and CFGR (R191, R192), the application of a changed item by its
owning block (R13, R37, R39, R60, R63, R87, R88, R103, R105, R127, R167, R178, R195), and DFLT (R180). -/

namespace Sys2Proof.Machine

/-! ### Applying a changed item -/

/-- SLEW_LIMIT at DSC (R60): c under the new limit; in ACQUIRE and LOCKED a changed c forgets the previous
sample. -/
def Discipline.slewChanged (d : Discipline) (limit : Nat) : Discipline :=
  match d.state with
  | .free | .holdover => { d with c := steerFree d.f limit }
  | .acquire | .locked =>
      let c := clampInt d.c (-(limit : Int)) limit
      { d with c := c, prev := if c = d.c then d.prev else none }

/-- REVERT_DELAY at RRX (R37): a running timer is moved, and expires at once if its instant has passed. -/
def State.moveRevert (s : State) : State :=
  match s.rrx.revert with
  | none => s
  | some t =>
      let t' := { t with expiry := t.start + s.cfg.revertDelay * 1000000 }
      let s1 := s.setRrx { s.rrx with revert := some t' }
      if t'.expiry ≤ s1.tsc.e then s1.revertExpires else s1

/-- A unit's own item at TLU, up to the evaluation (R127): the unit is checkpointed, and a RUNNING timer moved for
DISCREP_DELAY. -/
def State.unitItemChanged (it : Item) (u : Nat) (s : State) : State :=
  let s1 := s.checkpointNow u
  if it = .discrepDelay then s1.moveTimer u else s1

/-- A changed item applied by its owning block, the configuration being already stored; `old` is the one before.
The units it touches are not yet evaluated here (`Item.touches`), and an autosave expiry that AUTOSAVE_HOURS puts at
or before now is not yet taken (R178). -/
def State.applyItem (old : Settings) (it : Item) (i : Nat) (s : State) : State :=
  match it with
  | .localOffset => s.trackMove false
  | .prefSource => s.evalSelection false
  | .revertDelay => s.moveRevert
  | .slewLimit => (s.setDsc (s.dsc.slewChanged s.cfg.slewLimit)).evalClass
  | .freqWindow => s.setDsc { s.dsc with sum := 0, count := 0 }
  | .lineKind | .lineUnit | .linePolarity => s.reconfigLine i (nth old.lines i)
  | .unitGroup | .weightStill | .weightSpin | .weightGen | .weightPump | .weightCond | .weightIndet
  | .startWeight | .tripWeight | .modeRecord | .discrepDelay => s.unitItemChanged it i
  | .watermark => s.evalWatermark
  | .autosaveHours => s.setAutosave
  | .noticeMask => s.setNtc (s.ntc.withFlags s.ntc.flags s.cfg.noticeMask)
  | .refaId | .refaMatch | .delayA | .delayB | .phaseLimit | .phaseHyst | .faultCount | .lockLimit | .stepLimit
  | .stepAllow | .phaseGain | .holdDrift | .feedEnable | .feedId | .feedClassLimit | .feedActHold | .feedActClass
  | .feedActFree | .lineFilter | .lineComp | .lineRecord | .lineNotify | .chatterCount | .chatterWindow
  | .queuePolicy | .saveAtShift | .manualWindow => s

/-- The units whose maintenance a changed item evaluates (R87 step 5, R126, R127, R135). -/
def Item.touches (it : Item) (old new : Settings) (i : Nat) : List Nat :=
  match it with
  | .lineKind | .lineUnit | .linePolarity => touchedUnits (nth old.lines i) (nth new.lines i)
  | .unitGroup | .weightStill | .weightSpin | .weightGen | .weightPump | .weightCond | .weightIndet
  | .startWeight | .tripWeight | .modeRecord | .discrepDelay => [i]
  | .localOffset | .prefSource | .revertDelay | .refaId | .refaMatch | .delayA | .delayB | .phaseLimit | .phaseHyst
  | .faultCount | .lockLimit | .stepLimit | .stepAllow | .freqWindow | .phaseGain | .slewLimit | .holdDrift
  | .feedEnable | .feedId | .feedClassLimit | .feedActHold | .feedActClass | .feedActFree | .lineFilter | .lineComp
  | .lineRecord | .lineNotify | .chatterCount | .chatterWindow | .queuePolicy | .watermark | .autosaveHours
  | .saveAtShift | .noticeMask | .manualWindow => []

/-! ### CFGW and CFGR -/

/-- The configuration after a write, PHASE_HYST clamped under a new PHASE_LIMIT (R191). -/
def Item.written (it : Item) (cfg : Settings) (i : Nat) (v : Int) : Settings :=
  if it = .phaseLimit then (it.write cfg i v).clampHyst else it.write cfg i v

/-- The body of a CFGW or CFGR reply (12.4). -/
def entryBody (item index : Byte) (v : Int) : List Byte := [item, index] ++ beSigned 4 v

/-- A write whose value changes is stored and applied (R191); AUTOSAVE_HOURS may reach its expiry at once (R178). -/
def State.storeItem (it : Item) (i : Nat) (v : Int) (s : State) : State :=
  let s1 := (s.setCfg (it.written s.cfg i v)).applyItem s.cfg it i
  let s2 := s1.evalUnits (it.touches s.cfg s1.cfg i)
  if it = .autosaveHours then s2.autosaveIfPassed else s2

/-- The result of a taken CFGW (R191). -/
def Item.writeResult (it : Item) (cfg : Settings) (i : Nat) (written stored : Int) : Result :=
  if stored ≠ written ∨ (it.written cfg i stored).phaseHyst ≠ (it.write cfg i stored).phaseHyst then .clamped else .ok

/-- A write of LINE_KIND or LINE_UNIT that R73 forbids (R191 step 4). -/
def Item.conflicts (it : Item) (cfg : Settings) (i : Nat) (v : Int) : Bool :=
  (decide (it = .lineKind) || decide (it = .lineUnit)) && (it.write cfg i v).conflict i

/-- A CFGW of a known entry (R191 steps 3 and 4, and its taking). -/
def State.writeItem (it : Item) (item index : Byte) (value : Int) (s : State) : State × Answer :=
  let i := index.toNat
  match it.stored s.cfg value with
  | none => (s, { result := .param })
  | some v =>
      if it.conflicts s.cfg i v then (s, { result := .conflict })
      else
        let reply : Answer := { result := it.writeResult s.cfg i value v, body := entryBody item index v }
        if it.read s.cfg i = v then (s, reply) else (s.storeItem it i v, reply)

/-- The item of an item number and index that R191 steps 1 and 2 let pass. -/
def itemAt (item index : Byte) : Option Item :=
  (Item.ofNumber item).filter (fun it => it.scope.indices.contains index.toNat)

/-- CFGW (R191): PARAM for an unknown item or index, then the value. -/
def serveCfgw (item index : Byte) (value : BitVec 32) (s : State) : State × Answer :=
  match itemAt item index with
  | none => (s, { result := .param })
  | some it => s.writeItem it item index value.toInt

/-- CFGW (R191). -/
def execCfgw (tag item index : Byte) (value : BitVec 32) (s : State) : Host.Outcome State Fault Refusal :=
  .next (s.takeRequest .cfgw tag (serveCfgw item index value))

/-- CFGR (R192). -/
def serveCfgr (item index : Byte) (s : State) : State × Answer :=
  match itemAt item index with
  | none => (s, { result := .param })
  | some it => (s, { result := .ok, body := entryBody item index (it.read s.cfg index.toNat) })

/-- CFGR (R192). -/
def execCfgr (tag item index : Byte) (s : State) : Host.Outcome State Fault Refusal :=
  .next (s.takeRequest .cfgr tag (serveCfgr item index))

/-! ### DFLT (R180) -/

/-- The entries whose value differs between two tables. -/
def changedEntries (old new : Settings) : List (Item × Nat) :=
  entries.filter (fun p => p.1.read old p.2 != p.1.read new p.2)

/-- The changes from `old` applied by their blocks, in a free order, and then every unit they touch evaluated in
increasing order (R135, R180 step 2, entry 20). -/
def State.applyAll (old : Settings) (s : State) : State :=
  let changed := freeOrder s.draws (changedEntries old s.cfg)
  let s1 := forAll changed (fun p => State.applyItem old p.1 p.2) (s.setDraws (s.draws + changed.length))
  s1.evalUnits (changed.flatMap (fun p => p.1.touches old s.cfg p.2))

/-- DFLT's steps (R180): the defaults, the changes applied, then a save with the trigger DFLT. An autosave expiry
that a changed AUTOSAVE_HOURS puts at or before now is taken after that request (entry 20). -/
def State.takeDefaults (s : State) : State :=
  let s1 := ((s.setCfg Settings.dflt).applyAll s.cfg).requestSave .dflt
  if s.cfg.autosaveHours = Settings.dflt.autosaveHours then s1 else s1.autosaveIfPassed

/-- DFLT at STC (R180). -/
def serveDflt (s : State) : State × Answer := (s.takeDefaults, { result := .ok })

/-- DFLT (R180). -/
def execDflt (tag : Byte) (s : State) : Host.Outcome State Fault Refusal := .next (s.takeRequest .dflt tag serveDflt)

end Sys2Proof.Machine
end

