-- ==== Sys2Proof/Machine/Restart.lean ====
section
/-! DEFINITION. The two resets: the power-on reset (R172 and the reset tables R17, R41, R61, R71, R91, R112, R130,
R140, R168, R196) and the restart request RSTRT (R190 and the rules it names). -/

namespace Sys2Proof.Machine

/-- The configuration that a load gives: the image's, each value clamped into its range, or the defaults (R172,
R181). -/
def loadedSettings (img : Option Image) : Settings :=
  match img with
  | some i => i.cfg.clamp
  | none => Settings.dflt

/-! ### Power-on -/

/-- The store as a power-on reset finds it: a save in flight leaves it not whole (R181). -/
def StoreController.afterPowerLoss (c : StoreController) : Store := if c.inFlight.isSome then .broken else c.store

/-- TSC at power-on (R17). -/
def TimeScale.powerOn (img : Option Image) : TimeScale :=
  { s := 0, n := 0, e := 0, eSub := 0, frac := 0, epoch := 0, leap := (img.map (·.leap)).getD 0
    pendingLeap := none, tracker := none, lastFired := [] }

/-- DSC at power-on (R61). -/
def Discipline.powerOn (img : Option Image) (limit : Nat) : Discipline :=
  let f := holdAt ((img.map (·.f)).getD 0) maxF
  { state := .free, f := f, sum := 0, count := 0, prev := none, c := steerFree f limit, u := max32, lock := 0
    oneShot := false, view := none, srcClass := 6, effClass := 7 }

/-- TLU at power-on before the modes are derived (R130, R136, R140). -/
def TallyUnit.powerOn (img : Option Image) : TallyUnit :=
  { units := ((img.map (·.tallies)).getD (Vector.replicate 8 Tally.zero)).map (fun t =>
      { mode := .none, entry := 0, entryDate := Date.atReset, ecp := none, timer := .stopped, tally := t })
    nextEval := evaluationPeriod }

/-- SHU at power-on, a saved shift not yet closed (R168). -/
def ShiftUnitState.powerOn (img : Option Image) : ShiftUnitState :=
  { schedule := (img.map (·.schedule)).getD []
    state := .onShift
    current := (img.map (·.current)).getD (ShiftRecord.fresh 1 0 Date.atReset 7)
    expected := none, release := false, accept := false, window := none
    openTrips := (img.map (·.openTrips)).getD []
    overflow := (img.map (·.overflow)).getD false
    history := (img.map (·.history)).getD [] }

/-- LKC at power-on with the straps as read (R196). -/
def LinkController.powerOn (straps : BitVec 2) : LinkController :=
  { rate := straps, begun := false, receive := none, gap := none, reply := none, noise := 0, gapErr := 0, length := 0
    check := 0, overrun := 0, linkErr := false }

/-- The lines as the reset samples them (R91): bit i of `pins` is EV(i + 1). -/
def sampledLines (pins : BitVec 32) (cfg : Settings) : Vector Line 32 :=
  Vector.ofFn (fun i => sampledLine (pins.getLsbD i.val) cfg.lines[i])

/-- Every block's power-on values, from what the load hands it (R172 step 2). The queue of commands and the count
of draws are the model's and go on (entry 25). -/
def State.powerOnValues (s : State) (straps : BitVec 2) (pins : BitVec 32) (store : Store) : State :=
  let img := store.load
  let cfg := loadedSettings img
  { tsc := TimeScale.powerOn img
    rrx := Receiver.reset
    dsc := Discipline.powerOn img cfg.slewLimit
    ftx := { enable := cfg.feedEnable, sequence := 0, transmission := none }
    lqu := sampledLines pins cfg
    evq := { records := [], nextSeq := some 0, lostTotal := 0, lostTrips := 0, overwritten := 0 }
    tlu := TallyUnit.powerOn img
    shu := ShiftUnitState.powerOn img
    stc := { store := store, state := store.judge, inFlight := none, queued := none, lastEnd := 0
             autosave := autosaveAt 0 cfg.autosaveHours, holdup := false }
    lkc := LinkController.powerOn straps
    ntc := NoticeUnit.powerOn cfg.noticeMask
    cfg := cfg
    draws := s.draws
    pending := s.pending }

/-- A unit at power-on (R130): its mode from the sampled levels, E_cp and entry at 0, its timer in INDET. -/
def State.bootUnit (u : Nat) (s : State) : State :=
  let m := s.deriveMode u
  s.setUnit u { s.unit u with
    mode := m, entry := 0, entryDate := s.dateNow, ecp := if m = .none then none else some 0
    timer := if m = .indet then .running ((s.unitCfg u).discrepDelay * 1000000) else .stopped }

/-- A saved current shift is closed as INTERRUPTED and the next one opened with its crew (R168). -/
def State.bootShift (loaded : Bool) (s : State) : State :=
  if loaded then
    let r := { s.shu.current with kind := .interrupted, nextCrew := s.shu.current.crew, duration := 0 }
    (s.setShu { s.shu with history := pushHistory r s.shu.history }).openShift r.crew
  else s

/-- The evaluations of the load: every unit, and MAINT_DUE handed as it then holds (R141). -/
def State.bootEvaluate (s : State) : State :=
  let s1 := s.evalAll
  s1.hand .maintDue s1.someDue

/-- A CORRUPT image raises STORE_FAIL (R172 step 4, R181). -/
def State.raiseIfCorrupt (s : State) : State := if s.stc.state = .corrupt then s.raise .storeFail else s

/-- HOLDUP sampled once the load is complete: it requests no save (R179). -/
def State.sampleHoldup (level : Bool) (s : State) : State := (s.setHoldup level).hand .supplyLow level

/-- The power-on reset (R172). -/
def State.powerOn (straps : BitVec 2) (pins : BitVec 32) (holdup : Bool) (s : State) : State :=
  let store := s.stc.afterPowerLoss
  let s1 := forAll (numbers 8) State.bootUnit (s.powerOnValues straps pins store)
  let s2 := s1.bootShift store.load.isSome
  let s3 := s2.place { detail := .restart true store.judge }
  (s3.bootEvaluate.raiseIfCorrupt).sampleHoldup holdup

/-- POWER_ON_RESET (R172). -/
def execPowerOnReset (straps : BitVec 2) (pins : BitVec 32) (holdup : Bool) (s : State) :
    Host.Outcome State Fault Refusal :=
  .next (s.powerOn straps pins holdup)

/-! ### RSTRT -/

/-- STC reads and judges the image (R181 step 1). -/
def State.judgeStore (s : State) : State := s.setStc { s.stc with state := s.stc.store.judge }

/-- TLU's checkpoint of every monitored unit at the restart (R131). -/
def State.restartCheckpoint (s : State) : State := forAll (numbers 8) State.checkpointNow s

/-- EVQ's part of the restart (R113): the delivered marks cleared, the watermark evaluated, the RESTART record. -/
def State.restartQueue (s : State) : State :=
  ((s.setEvq s.evq.undeliver).evalWatermark).place { detail := .restart false s.stc.state }

/-- DSC after the restart (R62). -/
def Discipline.restarted (d : Discipline) (limit : Nat) : Discipline :=
  { d.restart with
    state := (match d.state with | .acquire | .locked => .holdover | .free => .free | .holdover => .holdover)
    lock := 0, oneShot := false, view := none, srcClass := 6, c := steerFree d.f limit }

/-- DSC's part of the restart: the class evaluated, a change of state reported (R62). -/
def State.restartDsc (s : State) : State :=
  let s1 := (s.setDsc (s.dsc.restarted s.cfg.slewLimit)).evalClass
  if s1.dsc.state = s.dsc.state then s1 else s1.reportDisc s.dsc.state

/-- The pins as LQU holds them. -/
def State.pins (s : State) : Vector Bool 32 := s.lqu.map (·.pinHigh)

/-- LQU's part of the restart: every line sampled afresh (R92). -/
def State.resample (s : State) : State :=
  s.setLqu (Vector.ofFn (fun i => sampledLine s.pins[i] s.cfg.lines[i]))

/-- TLU's part for one unit: the mode derived again, a RUNNING timer moved (R131). -/
def State.restartUnit (u : Nat) (s : State) : State := (s.rederive u).moveTimer u

/-- LQU and TLU together (R92, R131). The units are re-derived in increasing order, and so are their MODE and DISCREP
records: DESIGN CHOICE, the spec gives them no order (entry 21). -/
def State.restartLines (s : State) : State := forAll (numbers 8) State.restartUnit s.resample

/-- A LOCAL_OFFSET other than the one in force moves the local minute (R18, R169). The JUMP may fire a self handover,
which asks for a SHIFT save by R149 and R155; the save then starts within the RSTRT, although R181 says that an RSTRT
starts no save: DESIGN CHOICE (entry 21). -/
def State.restartOffset (old : Int) (s : State) : State := if s.cfg.localOffset = old then s else s.trackMove false

/-- The restart itself (R190). Among the blocks, the orders the rules leave open are free; a SHIFT save that a changed
LOCAL_OFFSET brings about starts within it (DESIGN CHOICE, entry 21). -/
def State.restart (s : State) : State :=
  let img := s.stc.store.load
  let s1 := s.judgeStore.restartCheckpoint
  let s2 := s1.setCfg (loadedSettings img)
  let s3 := (s2.setNtc (s2.ntc.restart s2.cfg.noticeMask)).restartQueue.raiseIfCorrupt
  let s4 := eitherOrder State.restartDsc State.restartLines (s3.setRrx Receiver.reset)
  let s5 := eitherOrder (State.setSchedule ((img.map (·.schedule)).getD [])) (State.restartOffset s.cfg.localOffset) s4
  s5.evalAll.setAutosave

/-- RSTRT as LKC takes it (R190): the reply is built first, then the restart is carried out. -/
def State.takeRestart (tag : Byte) (s : State) : State :=
  if s.lkc.reply.isSome then s.linkError .overrun
  else if s.busy .rstrt then s.sendReply Kind.rstrt.code tag { result := .busy }
  else (s.sendReply Kind.rstrt.code tag { result := .ok }).restart

/-- RSTRT (R190). -/
def execRstrt (tag : Byte) (s : State) : Host.Outcome State Fault Refusal := .next (s.takeRestart tag)

end Sys2Proof.Machine
end

