-- ==== Sys2Proof/Machine/Requests.lean ====
section
/-! DEFINITION. LKC's receiving of request frames (R182 to R185): the bodies of 12.4, the judgement of a complete
frame, bytes, the gap expiry and the end of a reply. -/

namespace Sys2Proof.Machine

/-! ### Bodies (12.4) -/

/-- A 4-byte field (R197). -/
def field32 (a b c d : Byte) : BitVec 32 := a ++ b ++ c ++ d

/-- The entries of an SCHW body after its count; none when they do not fit the count (12.4, entry 22). -/
def schwEntries : Nat → List Byte → Option (List ScheduleWrite)
  | 0, [] => some []
  | k + 1, a :: b :: c :: d :: rest =>
      (schwEntries k rest).map (fun xs => { start := a ++ b, crew := c, window := d } :: xs)
  | _, _ => none

/-- TACK by its selector byte: 0 one seq, 1 ALL; any other is PARAM (R163, 12.4). -/
def serveTackSelector (crew selector : Byte) (seq : BitVec 32) (s : State) : State × Answer :=
  if selector = 0 then serveTack crew seq s
  else if selector = 1 then serveTackAll crew s
  else (s, { result := .param })

/-- What the owning block does with a body of the kind's length; none is BADLEN (R185 case 2, 12.4). RSTRT is
LKC's own (R190) and answers here for its length alone. -/
def Kind.serve : Kind → List Byte → Option (State → State × Answer)
  | .stat, [] => some serveStat
  | .lstat, [] => some serveLstat
  | .idnt, [] => some serveIdnt
  | .rstrt, [] => some (fun s => (s, { result := .ok }))
  | .cfgw, [item, index, a, b, c, d] => some (serveCfgw item index (field32 a b c d))
  | .cfgr, [item, index] => some (serveCfgr item index)
  | .save, [] => some serveSave
  | .dflt, [] => some serveDflt
  | .trd, [] => some serveTrd
  | .tset, [s0, s1, s2, s3, s4, m0, m1, m2, u0, u1, u2, u3] =>
      some (serveTset (s0 ++ s1 ++ s2 ++ s3 ++ s4) (m0 ++ m1 ++ m2) (field32 u0 u1 u2 u3))
  | .tacq, [] => some serveTacq
  | .refs, [selector] => some (serveRefs selector)
  | .disc, [] => some serveDisc
  | .pinj, [source, a, b, c, d, count] => some (servePinj source (field32 a b c d) count)
  | .efch, [wanted] => some (serveEfch wanted)
  | .erel, [a, b, c, d] => some (serveErel (field32 a b c d))
  | .efls, [] => some serveEfls
  | .lnst, [selector] => some (serveLnst selector)
  | .einj, [line, level] => some (serveEinj line level)
  | .tlrd, [unit] => some (serveTlrd unit)
  | .tlps, [selector, n, field, a, b, c, d] => some (serveTlps selector n field (field32 a b c d))
  | .mset, [selector, n, a, b, c, d] => some (serveMset selector n (field32 a b c d))
  | .schw, count :: rest => (schwEntries count.toNat rest).map serveSchw
  | .schr, [] => some serveSchr
  | .shst, [] => some serveShst
  | .hopn, [crew] => some (serveHopn crew none)
  | .hopn, [crew, window] => some (serveHopn crew (some window))
  | .hrel, [crew] => some (serveHrel crew)
  | .hacc, [crew] => some (serveHacc crew)
  | .tack, [crew, selector, a, b, c, d] => some (serveTackSelector crew selector (field32 a b c d))
  | .shhs, [index] => some (serveShhs index)
  | _, _ => none

/-! ### The frames of the request rows (12.4) -/

/-- A 32-bit field in four bytes (R197). -/
def bytes32 (v : BitVec 32) : List Byte :=
  [v.extractLsb' 24 8, v.extractLsb' 16 8, v.extractLsb' 8 8, v.extractLsb' 0 8]

/-- An SCHW entry in four bytes (12.4). -/
def ScheduleWrite.bytes (x : ScheduleWrite) : List Byte :=
  [x.start.extractLsb' 8 8, x.start.extractLsb' 0 8, x.crew, x.window]

/-- An SCHW body: the count, then the entries (12.4). -/
def schwBody (entries : List ScheduleWrite) : List Byte := byteOf entries.length :: entries.flatMap ScheduleWrite.bytes

/-- The request that a row carries: its kind, its TAG and its body by 12.4; none for a row that is no request. -/
def requestOf : Instr → Option (Kind × Byte × List Byte)
  | .rstrt tag => some (.rstrt, tag, [])
  | .trd tag => some (.trd, tag, [])
  | .pinj tag source value count => some (.pinj, tag, [source] ++ bytes32 value ++ [count])
  | .refs tag selector => some (.refs, tag, [selector])
  | .tset tag seconds micros uncertainty =>
      some (.tset, tag,
        [seconds.extractLsb' 32 8, seconds.extractLsb' 24 8, seconds.extractLsb' 16 8, seconds.extractLsb' 8 8,
         seconds.extractLsb' 0 8, micros.extractLsb' 16 8, micros.extractLsb' 8 8, micros.extractLsb' 0 8]
          ++ bytes32 uncertainty)
  | .tacq tag => some (.tacq, tag, [])
  | .disc tag => some (.disc, tag, [])
  | .einj tag line level => some (.einj, tag, [line, level])
  | .lnst tag selector => some (.lnst, tag, [selector])
  | .efls tag => some (.efls, tag, [])
  | .efch tag wanted => some (.efch, tag, [wanted])
  | .erel tag seq => some (.erel, tag, bytes32 seq)
  | .tlrd tag unit => some (.tlrd, tag, [unit])
  | .tlps tag selector n field value => some (.tlps, tag, [selector, n, field] ++ bytes32 value)
  | .mset tag selector n limit => some (.mset, tag, [selector, n] ++ bytes32 limit)
  | .schw tag entries => some (.schw, tag, schwBody entries)
  | .schr tag => some (.schr, tag, [])
  | .hrel tag crew => some (.hrel, tag, [crew])
  | .hacc tag crew => some (.hacc, tag, [crew])
  | .hopn tag crew none => some (.hopn, tag, [crew])
  | .hopn tag crew (some window) => some (.hopn, tag, [crew, window])
  | .tack tag crew seq => some (.tack, tag, [crew, 0] ++ bytes32 seq)
  | .tackAll tag crew => some (.tack, tag, [crew, 1] ++ bytes32 0)
  | .shhs tag index => some (.shhs, tag, [index])
  | .shst tag => some (.shst, tag, [])
  | .save tag => some (.save, tag, [])
  | .dflt tag => some (.dflt, tag, [])
  | .stat tag => some (.stat, tag, [])
  | .lstat tag => some (.lstat, tag, [])
  | .idnt tag => some (.idnt, tag, [])
  | .cfgw tag item index value => some (.cfgw, tag, [item, index] ++ bytes32 value)
  | .cfgr tag item index => some (.cfgr, tag, [item, index])
  | .powerOnReset .. | .holdupAssertion | .holdupRelease | .secondBoundary | .feedTransmissionEnd | .refaFrame ..
  | .candidateTimeout | .refaBreak | .refbPulse | .missingSample .. | .sourceAbsent .. | .revertTimerExpiry
  | .rawEdge .. | .filterExpiry .. | .quietTimerExpiry .. | .discrepancyTimerExpiry .. | .periodicEvaluation
  | .windowTimerExpiry | .saveEnd .. | .autosaveExpiry | .requestFrame .. | .gapExpiry | .replyEnd
  | .refaCharacter .. | .linkByte .. | .unusedLinePinChange .. => none

/-- What a request frame's check covers: LEN, KIND, TAG and the body (R199). -/
def requestCovered (kind tag : Byte) (body : List Byte) : List Byte := byteOf (body.length + 2) :: kind :: tag :: body

/-- A whole request frame (R182). -/
def frameOf (kind tag : Byte) (body : List Byte) : List Byte :=
  0xA7 :: requestCovered kind tag body ++ checkBytes (requestCovered kind tag body)

/-! ### Judging a frame (R184, R185) -/

/-- A good frame taken while no reply is in progress: UNKNOWN, BADLEN, BUSY, or the owning block (R185). -/
def State.takeGoodFrame (s : State) (kind tag : Byte) (body : List Byte) : State :=
  match Kind.ofCode kind with
  | none => s.sendReply kind tag { result := .unknown }
  | some k =>
      match k.serve body with
      | none => s.sendReply kind tag { result := .badlen }
      | some serve => if k = .rstrt then s.takeRestart tag else s.takeRequest k tag serve

/-- A complete frame: its check first, then OVERRUN, then R185 (R184). -/
def State.judgeFrameBytes (s : State) (kind tag : Byte) (body : List Byte) (check : BitVec 16) : State :=
  if check ≠ crc16 (requestCovered kind tag body) then s.linkError .check
  else if s.lkc.reply.isSome then s.linkError .overrun
  else s.takeGoodFrame kind tag body

/-- The largest LEN of a request frame (R182). -/
def maxRequestLen : Nat := 250

/-! ### Bytes (R183) -/

/-- The gap after a byte within which the next must start (R183). -/
def gapTime : Nat := 5000

/-- A frame in assembly, its gap expiry set from this instant (R183). -/
def State.inFrame (s : State) (bytes : List Byte) : State :=
  s.setLkc { s.lkc with receive := some bytes, gap := some (s.tsc.e + gapTime) }

/-- A frame ends: HUNT, the gap timer stopped (R183). -/
def State.endFrame (s : State) : State := s.setLkc { s.lkc with receive := none, gap := none }

/-- A byte that is no SOF in HUNT (R183). -/
def State.noise (s : State) : State := s.setLkc { s.lkc with noise := satAdd s.lkc.noise 1 max16 }

/-- The bytes after SOF and LEN of a complete frame, judged (R183, R184). -/
def State.completeFrame (s : State) : List Byte → State
  | kind :: tag :: rest =>
      s.judgeFrameBytes kind tag (rest.take (rest.length - 2))
        (BitVec.ofNat 16 (ofBytes (rest.drop (rest.length - 2))))
  | _ => s

/-- A byte of a frame in assembly (R183): LEN is judged, the last byte completes the frame. -/
def State.frameByte (s : State) (bytes : List Byte) (value : Byte) : State :=
  let all := bytes ++ [value]
  match all with
  | _ :: len :: rest =>
      if rest.isEmpty && (decide (len.toNat < 2) || decide (maxRequestLen < len.toNat)) then
        s.endFrame.linkError .length
      else if rest.length = len.toNat + 2 then s.endFrame.completeFrame rest
      else s.inFrame all
  | _ => s.inFrame all

/-- A byte begins on LRXD: its start bit stops the gap timer (R183). -/
def State.beginByte (s : State) : State := s.setLkc { s.lkc with begun := true, gap := none }

/-- A byte completes on LRXD (R183). Without a start bit there is no byte (R196). -/
def State.completeByte (value : Byte) (s : State) : State :=
  if s.lkc.begun then
    let s1 := s.setLkc { s.lkc with begun := false }
    match s.lkc.receive with
    | none => if value = 0xA7 then s1.inFrame [value] else s1.noise
    | some bytes => s1.frameByte bytes value
  else s

/-- A moment of a byte on LRXD (R182, R183). A falling edge within a byte is no start bit. -/
def State.takeByteMoment (moment : SerialMoment) (s : State) : State :=
  match moment with
  | .begins => if s.lkc.begun then s else s.beginByte
  | .completes value => s.completeByte value

/-- A byte that begins and completes at this instant. -/
def State.takeByte (value : Byte) (s : State) : State :=
  (s.takeByteMoment .begins).takeByteMoment (.completes value)

/-- LINK_BYTE (R183). -/
def execLinkByte (moment : SerialMoment) (s : State) : Host.Outcome State Fault Refusal :=
  .next (s.takeByteMoment moment)

/-! ### Whole frames -/

/-- A frame whose LEN is above 250 (R183): it ends with LENGTH at its LEN, and the bytes after that are judged in HUNT one
by one. A LEN that its byte cannot hold is above 250 too (entry 28). -/
def State.takeLongFrame (s : State) (kind tag : Byte) (body : List Byte) (check : BitVec 16) : State :=
  forAll (kind :: tag :: body ++ beBytes 2 check.toNat) State.takeByte (s.endFrame.linkError .length)

/-- A request frame as received: judged when complete (R184, R185), or ended by its LEN (R183). -/
def State.takeFrameBytes (s : State) (kind tag : Byte) (body : List Byte) (check : BitVec 16) : State :=
  if body.length + 2 ≤ maxRequestLen then s.judgeFrameBytes kind tag body check else s.takeLongFrame kind tag body check

/-- REQUEST_FRAME (R185): a whole frame with the check it carries (entry 9). -/
def execRequestFrame (kind tag : Byte) (body : List Byte) (check : BitVec 16) (s : State) :
    Host.Outcome State Fault Refusal :=
  .next (s.takeFrameBytes kind tag body check)

/-- SCHW (R144). With more than 61 entries its frame has a LEN above 250, and ends there (R183). -/
def execSchw (tag : Byte) (entries : List ScheduleWrite) (s : State) : Host.Outcome State Fault Refusal :=
  let body := schwBody entries
  if body.length + 2 ≤ maxRequestLen then .next (s.takeRequest .schw tag (serveSchw entries))
  else .next (s.takeLongFrame Kind.schw.code tag body (crc16 (requestCovered Kind.schw.code tag body)))

/-- The gap expiry is reached: the frame in assembly ends with GAP (R183, R184). -/
def State.gapReached (s : State) : State := s.endFrame.linkError .gap

/-- The reply in progress ends (R186). -/
def State.endReply (s : State) : State := s.setLkc { s.lkc with reply := none }

end Sys2Proof.Machine
end

