-- ==== Sys2Proof/Machine/Clock.lean ====
section
/-! DEFINITION. The clock (R1 to R3, R6): the passage of steered time with its second boundaries, the events that
come due at an instant of E (R2), and the run of the part to an instant, which takes every boundary and every event
on the way where it falls. -/

namespace Sys2Proof.Machine

/-! ### Time passing (R1, R3, R6) -/

/-- The ns to the next second boundary (R1). -/
def TimeScale.toBoundary (t : TimeScale) : Nat := nsPerS - t.n

/-- `ns` ns pass. -/
def State.pass (s : State) (ns : Nat) : State := s.setTsc (s.tsc.advance ns)

/-! ### The events of the part's own clock -/

/-- What comes due at an instant of E, the second boundary apart (R2). -/
inductive TimedEvent where
  | feedEnd
  | candidateTimeout
  | missing (source : Source)
  | absent (source : Source)
  | revert
  | filter (line : Nat)
  | quiet (line : Nat)
  | discrepancy (unit : Nat)
  | periodic
  | window
  | saveEnd
  | autosave
  | gap
  | reply
deriving DecidableEq, Repr

/-- Every such event of the part. -/
def TimedEvent.all : List TimedEvent :=
  [.feedEnd, .candidateTimeout, .missing .a, .missing .b, .absent .a, .absent .b, .revert]
    ++ (numbers 32).flatMap (fun i => [.filter i, .quiet i])
    ++ (numbers 8).map .discrepancy
    ++ [.periodic, .window, .saveEnd, .autosave, .gap, .reply]

/-- The expiry of a running discrepancy timer. -/
def DiscTimer.expiry : DiscTimer → Option Nat
  | .running t => some t
  | .stopped | .expired => none

/-- The expiry of a handover window that runs (R160). -/
def ShiftUnitState.windowExpiry (h : ShiftUnitState) : Option Nat :=
  if h.state = .handover then h.window.map (·.expiry) else none

/-- The end of a save as the free values give it: 30 to 60 ms after its start (R175, entry 12). -/
def SaveInFlight.endAt (f : SaveInFlight) : Nat := f.start + saveShortest + Config.saveLength f.draw % 30001

/-- The instant on E at which an event comes due; none while its timer is stopped, or while a candidate in hand defers
it (R29). -/
def TimedEvent.instant (s : State) : TimedEvent → Option Nat
  | .feedEnd => s.ftx.transmission.map (·.endAt)
  | .candidateTimeout => s.rrx.candidate.map (fun c => c.mark.e + candidateTime)
  | .missing x => s.rrx.undeferred x (s.rrx.src x).nextMissing
  | .absent x => s.rrx.undeferred x (s.rrx.src x).absentAt
  | .revert => s.rrx.revert.map (·.expiry)
  | .filter i => (s.line i).pending.map (·.expiry)
  | .quiet i => (s.line i).quiet
  | .discrepancy u => (s.unit u).timer.expiry
  | .periodic => some s.tlu.nextEval
  | .window => s.shu.windowExpiry
  | .saveEnd => s.stc.inFlight.map (·.endAt)
  | .autosave => s.stc.autosave
  | .gap => s.lkc.gap
  | .reply => s.lkc.reply.map (·.endAt)

/-- What an event does when it comes due: the rule of its row of the opcode table. -/
def TimedEvent.happen (s : State) : TimedEvent → State
  | .feedEnd => s.endTransmission
  | .candidateTimeout => s.candidateLate
  | .missing x => s.takeMissing x
  | .absent x => s.takeAbsent x
  | .revert => s.revertExpires
  | .filter i => s.filterReached i
  | .quiet i => s.leaveChatter i
  | .discrepancy u => s.expireDiscrepancy u
  | .periodic => s.evalPeriodic
  | .window => s.goOverdue
  | .saveEnd => s.saveEnds
  | .autosave => s.autosaveReached
  | .gap => s.gapReached
  | .reply => s.endReply

/-- The command that names an event; the outcome of a save is a free value (entry 12). -/
def TimedEvent.command (s : State) : TimedEvent → Instr
  | .feedEnd => .feedTransmissionEnd
  | .candidateTimeout => .candidateTimeout
  | .missing x => .missingSample x
  | .absent x => .sourceAbsent x
  | .revert => .revertTimerExpiry
  | .filter i => .filterExpiry i
  | .quiet i => .quietTimerExpiry i
  | .discrepancy u => .discrepancyTimerExpiry u
  | .periodic => .periodicEvaluation
  | .window => .windowTimerExpiry
  | .saveEnd => .saveEnd ((s.stc.inFlight.map (fun f => Config.readBackEqual f.draw)).getD false)
  | .autosave => .autosaveExpiry
  | .gap => .gapExpiry
  | .reply => .replyEnd

/-- An event whose instant E has reached (R2). -/
def State.isDue (s : State) (ev : TimedEvent) : Bool :=
  ((ev.instant s).map (fun t => decide (t ≤ s.tsc.e))).getD false

/-- The events that are due. -/
def State.dueEvents (s : State) : List TimedEvent := TimedEvent.all.filter s.isDue

/-- The commands that name them. -/
def State.due (s : State) : List Instr := s.dueEvents.map (TimedEvent.command s)

/-- One of the events that are due, which one by a free value (entry 4). -/
def State.pickDue (s : State) : Option TimedEvent := (freeOrder s.draws s.dueEvents).head?

/-- Events taken one after another, each while it is still due. -/
def State.takeEvents (evs : List TimedEvent) (s : State) : State :=
  forAll evs (fun ev x => if x.isDue ev then ev.happen x else x) s

/-- A second boundary at the instant that time has just reached (R6). Of the events due at that same instant free values
say which come before it, and in what order; the others follow (entry 4). -/
def State.atBoundary (s : State) : State :=
  let due := s.dueEvents
  if due.isEmpty then s.boundaryWork
  else
    let before := (freeOrder s.draws due).take (Config.pickNext (s.draws + due.length) % (due.length + 1))
    ((s.setDraws (s.draws + due.length + 1)).takeEvents before).boundaryWork

/-- Time passes by `ns` ns; a second boundary in it is carried out where it falls (R1, R6). -/
def State.passTime (s : State) (ns : Nat) : State :=
  if s.tsc.n + ns < nsPerS then s.pass ns
  else ((s.pass s.tsc.toBoundary).atBoundary).pass (ns - s.tsc.toBoundary)

/-! ### A run to an instant -/

/-- The earliest instant of an event, in elapsed ns, held at `goal`. -/
def State.nextInstant (s : State) (goal : Nat) : Nat :=
  (TimedEvent.all.filterMap (TimedEvent.instant s)).foldl (fun m t => min m (t * 1000)) goal

/-- The ns to what comes first: the goal, an event or a second boundary. -/
def State.stride (s : State) (goal : Nat) : Nat := min (s.nextInstant goal - s.tsc.elapsed) s.tsc.toBoundary

/-- The part runs on until `goal`, in elapsed ns (R1, R2, R6): of the events that are due one happens after another,
and with none due time passes to what comes first. `fuel` bounds the recursion (entry 3). -/
def State.runAux : Nat → Nat → State → State
  | 0, goal, s => s.passTime (goal - s.tsc.elapsed)
  | fuel + 1, goal, s =>
      if goal ≤ s.tsc.elapsed then s
      else
        match s.pickDue with
        | some ev => State.runAux fuel goal (ev.happen (s.setDraws (s.draws + 1)))
        | none => State.runAux fuel goal (s.passTime (s.stride goal))

/-- The part runs on until `goal`, in elapsed ns: an event takes a pass of its own, and between two of them at least a
ns goes by but for those due at one instant. -/
def State.runTo (goal : Nat) (s : State) : State := State.runAux (goal - s.tsc.elapsed + 1000) goal s

/-- The part runs on to an instant of E that lies ahead (entry 3). -/
def State.runToE (at' : Nat) (s : State) : State := s.runTo (at' * 1000)

/-- An event that a command names happens at its instant `at'`, when it is still due to happen then (entry 3); without
an instant there is nothing to wait for. -/
def State.await (ev : TimedEvent) (at' : Option Nat) (s : State) : State :=
  match at' with
  | none => s
  | some t =>
      let r := s.runToE t
      if ev.instant r = some t then ev.happen r else r

/-! ### One tick -/

/-- 10^-9 ns in a ns. -/
def fracModulus : Nat := 1000000000

/-- One cycle of the oscillator in 10^-9 ns of steered time: 100 ns at (1 + c × 10^-9) (R3). -/
def cycle (c : Int) : Nat := (100 * (1000000000 + c)).toNat

/-- The whole ns that pass at a tick, with what was left of the ticks before (R3). -/
def State.tickNs (s : State) : Nat := (s.tsc.frac + cycle s.dsc.c) / fracModulus

/-- The part of a ns kept for the next tick. -/
def State.keepFrac (s : State) : State :=
  s.setTsc { s.tsc with frac := (s.tsc.frac + cycle s.dsc.c) % fracModulus }

/-- One of the due commands put on the queue (entry 4). The others are looked at again once it has run, so that one
whose timer it stops or moves is not taken. -/
def State.queueDue (s : State) : State :=
  { s with pending := s.pending ++ (s.pickDue.map (TimedEvent.command s)).toList, draws := s.draws + 1 }

/-- What the part does by itself: while commands are due time stands and one of them is queued; with none due, one
cycle of the oscillator passes (entry 2). -/
def State.tick (s : State) : State :=
  if s.due.isEmpty then s.keepFrac.passTime s.tickNs else s.queueDue

end Sys2Proof.Machine
end

