-- ==== Sys2Proof/Machine/Timed.lean ====
section
/-! DEFINITION. The time-driven rows of the opcode table: each runs the part on to the instant it names, when that
lies ahead, and there does what its rule says (entry 3). -/

namespace Sys2Proof.Machine

/-- SECOND_BOUNDARY (R6): the part runs on to the next second boundary, where S increases or wraps with N at 0 and the
boundary is handed on. -/
def execSecondBoundary (s : State) : Host.Outcome State Fault Refusal :=
  .next (s.runTo (s.tsc.elapsed + s.tsc.toBoundary))

/-- FEED_TRANSMISSION_END (R68). -/
def execFeedTransmissionEnd (s : State) : Host.Outcome State Fault Refusal :=
  .next (s.await .feedEnd (s.ftx.transmission.map (·.endAt)))

/-- CANDIDATE_TIMEOUT (R21): 50 ms after its mark the candidate in hand is discarded as MISTIMED. -/
def execCandidateTimeout (s : State) : Host.Outcome State Fault Refusal :=
  .next (s.await .candidateTimeout (TimedEvent.candidateTimeout.instant s))

/-- MISSING_SAMPLE (R29): the next missing-sample instant of the source; a candidate then in hand defers it. -/
def execMissingSample (x : Source) (s : State) : Host.Outcome State Fault Refusal :=
  .next (s.await (.missing x) (s.rrx.src x).nextMissing)

/-- SOURCE_ABSENT (R31): the 8-second instant of the source; a candidate then in hand defers it (R29). -/
def execSourceAbsent (x : Source) (s : State) : Host.Outcome State Fault Refusal :=
  .next (s.await (.absent x) (s.rrx.src x).absentAt)

/-- REVERT_TIMER_EXPIRY (R37). -/
def execRevertTimerExpiry (s : State) : Host.Outcome State Fault Refusal :=
  .next (s.await .revert (s.rrx.revert.map (·.expiry)))

/-- FILTER_EXPIRY (R76): the filter expiry of the pending change. -/
def execFilterExpiry (i : Nat) (s : State) : Host.Outcome State Fault Refusal :=
  if lineExists i then .next (s.await (.filter i) ((s.line i).pending.map (·.expiry))) else .fault .noSuchLine

/-- QUIET_TIMER_EXPIRY (R81). -/
def execQuietTimerExpiry (i : Nat) (s : State) : Host.Outcome State Fault Refusal :=
  if lineExists i then .next (s.await (.quiet i) (s.line i).quiet) else .fault .noSuchLine

/-- DISCREPANCY_TIMER_EXPIRY (R123): the unit's running timer reaches its expiry. -/
def execDiscrepancyTimerExpiry (u : Nat) (s : State) : Host.Outcome State Fault Refusal :=
  if unitExists u then .next (s.await (.discrepancy u) (s.unit u).timer.expiry) else .fault .noSuchUnit

/-- PERIODIC_EVALUATION (R136). -/
def execPeriodicEvaluation (s : State) : Host.Outcome State Fault Refusal :=
  .next (s.await .periodic (some s.tlu.nextEval))

/-- WINDOW_TIMER_EXPIRY (R160). -/
def execWindowTimerExpiry (s : State) : Host.Outcome State Fault Refusal :=
  .next (s.await .window s.shu.windowExpiry)

/-- SAVE_END (R175): the save in flight ends, no sooner than 30 ms after its start; the operand says whether the
image read back equals the snapshot (entry 12). -/
def execSaveEnd (readBackEqual : Bool) (s : State) : Host.Outcome State Fault Refusal :=
  match s.stc.inFlight with
  | none => .next s
  | some f =>
      let r := s.runToE (f.start + saveShortest)
      if r.stc.inFlight = some f then .next (r.endSave f readBackEqual) else .next r

/-- AUTOSAVE_EXPIRY (R178). -/
def execAutosaveExpiry (s : State) : Host.Outcome State Fault Refusal := .next (s.await .autosave s.stc.autosave)

/-- GAP_EXPIRY (R183): the frame in assembly ends with GAP. -/
def execGapExpiry (s : State) : Host.Outcome State Fault Refusal := .next (s.await .gap s.lkc.gap)

/-- REPLY_END (R186): the reply in progress ends. -/
def execReplyEnd (s : State) : Host.Outcome State Fault Refusal :=
  .next (s.await .reply (s.lkc.reply.map (·.endAt)))

end Sys2Proof.Machine
end

