-- ==== Sys2Proof/Machine/Dispatch.lean ====
section
/-! DEFINITION. One arm for each command: a direct call of its meaning. -/

namespace Sys2Proof.Machine

def exec (i : Instr) (s : State) : Host.Outcome State Fault Refusal :=
  match i with
  | .powerOnReset straps pins holdup => Sys2Proof.Machine.execPowerOnReset straps pins holdup s
  | .rstrt tag => Sys2Proof.Machine.execRstrt tag s
  | .holdupAssertion => Sys2Proof.Machine.execHoldupAssertion s
  | .holdupRelease => Sys2Proof.Machine.execHoldupRelease s
  | .secondBoundary => Sys2Proof.Machine.execSecondBoundary s
  | .feedTransmissionEnd => Sys2Proof.Machine.execFeedTransmissionEnd s
  | .trd tag => Sys2Proof.Machine.execTrd tag s
  | .refaFrame message check => Sys2Proof.Machine.execRefaFrame message check s
  | .candidateTimeout => Sys2Proof.Machine.execCandidateTimeout s
  | .refaBreak => Sys2Proof.Machine.execRefaBreak s
  | .refbPulse => Sys2Proof.Machine.execRefbPulse s
  | .missingSample source => Sys2Proof.Machine.execMissingSample source s
  | .sourceAbsent source => Sys2Proof.Machine.execSourceAbsent source s
  | .revertTimerExpiry => Sys2Proof.Machine.execRevertTimerExpiry s
  | .pinj tag source value count => Sys2Proof.Machine.execPinj tag source value count s
  | .refs tag selector => Sys2Proof.Machine.execRefs tag selector s
  | .tset tag seconds micros uncertainty => Sys2Proof.Machine.execTset tag seconds micros uncertainty s
  | .tacq tag => Sys2Proof.Machine.execTacq tag s
  | .disc tag => Sys2Proof.Machine.execDisc tag s
  | .rawEdge line pinHigh => Sys2Proof.Machine.execRawEdge line pinHigh s
  | .filterExpiry line => Sys2Proof.Machine.execFilterExpiry line s
  | .quietTimerExpiry line => Sys2Proof.Machine.execQuietTimerExpiry line s
  | .einj tag line level => Sys2Proof.Machine.execEinj tag line level s
  | .lnst tag selector => Sys2Proof.Machine.execLnst tag selector s
  | .efls tag => Sys2Proof.Machine.execEfls tag s
  | .efch tag wanted => Sys2Proof.Machine.execEfch tag wanted s
  | .erel tag seq => Sys2Proof.Machine.execErel tag seq s
  | .discrepancyTimerExpiry unit => Sys2Proof.Machine.execDiscrepancyTimerExpiry unit s
  | .tlrd tag unit => Sys2Proof.Machine.execTlrd tag unit s
  | .tlps tag selector n field value => Sys2Proof.Machine.execTlps tag selector n field value s
  | .periodicEvaluation => Sys2Proof.Machine.execPeriodicEvaluation s
  | .mset tag selector n limit => Sys2Proof.Machine.execMset tag selector n limit s
  | .schw tag entries => Sys2Proof.Machine.execSchw tag entries s
  | .schr tag => Sys2Proof.Machine.execSchr tag s
  | .hrel tag crew => Sys2Proof.Machine.execHrel tag crew s
  | .hacc tag crew => Sys2Proof.Machine.execHacc tag crew s
  | .windowTimerExpiry => Sys2Proof.Machine.execWindowTimerExpiry s
  | .hopn tag crew window => Sys2Proof.Machine.execHopn tag crew window s
  | .tack tag crew seq => Sys2Proof.Machine.execTack tag crew seq s
  | .tackAll tag crew => Sys2Proof.Machine.execTackAll tag crew s
  | .shhs tag index => Sys2Proof.Machine.execShhs tag index s
  | .shst tag => Sys2Proof.Machine.execShst tag s
  | .saveEnd readBackEqual => Sys2Proof.Machine.execSaveEnd readBackEqual s
  | .save tag => Sys2Proof.Machine.execSave tag s
  | .autosaveExpiry => Sys2Proof.Machine.execAutosaveExpiry s
  | .dflt tag => Sys2Proof.Machine.execDflt tag s
  | .requestFrame kind tag body check => Sys2Proof.Machine.execRequestFrame kind tag body check s
  | .gapExpiry => Sys2Proof.Machine.execGapExpiry s
  | .replyEnd => Sys2Proof.Machine.execReplyEnd s
  | .stat tag => Sys2Proof.Machine.execStat tag s
  | .lstat tag => Sys2Proof.Machine.execLstat tag s
  | .idnt tag => Sys2Proof.Machine.execIdnt tag s
  | .cfgw tag item index value => Sys2Proof.Machine.execCfgw tag item index value s
  | .cfgr tag item index => Sys2Proof.Machine.execCfgr tag item index s
  | .refaCharacter moment stopHigh => Sys2Proof.Machine.execRefaCharacter moment stopHigh s
  | .linkByte moment => Sys2Proof.Machine.execLinkByte moment s
  | .unusedLinePinChange line pinHigh => Sys2Proof.Machine.execUnusedLinePinChange line pinHigh s

end Sys2Proof.Machine
end

