-- ==== Sys2Proof/Safety.lean ====
section
/-! DEFINITION. What the statements speak of: the commands taken in a row, a request that LKC lets through, the
invariants of the blocks, and what a tally field shows. -/

namespace Sys2Proof.Machine

/-! ### Runs -/

/-- The commands, taken one after another from `s`, all answer a next state, and the last one answers `t`. -/
def ExecAll : List Instr → State → State → Prop
  | [], s, t => t = s
  | c :: cs, s, t => ∃ m, exec c s = .next m ∧ ExecAll cs m t

/-- A state from which no command that waits can fault. -/
def State.safe (s : State) : Prop := ∀ c ∈ s.pending, c.wellFormed = true

/-- LKC takes a request of this kind and hands it on: no reply is in progress, and R185 case 3 does not answer
BUSY. -/
def State.accepts (s : State) (k : Kind) : Prop := s.lkc.reply = none ∧ s.busy k = false

/-- The state after LKC has begun to send this reply (R186): nothing but the reply in progress changes. -/
def State.answered (s : State) (kind tag : Byte) (result : Result) (body : List Byte) : State :=
  s.sendReply kind tag { result := result, body := body }

/-! ### Quiet stretches -/

/-- No event of the part's own clock comes due before `goal`, in elapsed ns. -/
def State.quiet (s : State) (goal : Nat) : Prop :=
  ∀ ev ∈ TimedEvent.all, ∀ x, ev.instant s = some x → goal ≤ x * 1000

/-- Nothing happens by itself before E reaches `at'`: it has reached it, or neither a second boundary nor an event
comes before. -/
def State.quietTo (s : State) (at' : Nat) : Prop :=
  at' * 1000 ≤ s.tsc.elapsed
    ∨ s.tsc.n + (at' * 1000 - s.tsc.elapsed) < nsPerS ∧ s.quiet (at' * 1000)

/-- The time scale when nothing but time passes until E reaches `at'`; as it stands when E has. -/
def TimeScale.reach (t : TimeScale) (at' : Nat) : TimeScale :=
  if at' * 1000 ≤ t.elapsed then t else t.advance (at' * 1000 - t.elapsed)

/-! ### Frames -/

/-- The pieces of the state that a frame tells apart. -/
inductive Part where
  | clock | epoch | leap | tracker | rrx | dsc | ftx | lqu | evq | tlu | current | handover | schedule | trips
  | history | stc | lkc | ntc | cfg | draws | pending
deriving DecidableEq, Repr

/-- A piece is the same in two states. -/
def Part.same : Part → State → State → Prop
  | .clock, s, t =>
      t.tsc.s = s.tsc.s ∧ t.tsc.n = s.tsc.n ∧ t.tsc.e = s.tsc.e ∧ t.tsc.eSub = s.tsc.eSub ∧ t.tsc.frac = s.tsc.frac
  | .epoch, s, t => t.tsc.epoch = s.tsc.epoch
  | .leap, s, t => t.tsc.leap = s.tsc.leap ∧ t.tsc.pendingLeap = s.tsc.pendingLeap
  | .tracker, s, t => t.tsc.tracker = s.tsc.tracker ∧ t.tsc.lastFired = s.tsc.lastFired
  | .rrx, s, t => t.rrx = s.rrx
  | .dsc, s, t => t.dsc = s.dsc
  | .ftx, s, t => t.ftx = s.ftx
  | .lqu, s, t => t.lqu = s.lqu
  | .evq, s, t => t.evq = s.evq
  | .tlu, s, t => t.tlu = s.tlu
  | .current, s, t => t.shu.current = s.shu.current
  | .handover, s, t =>
      t.shu.state = s.shu.state ∧ t.shu.expected = s.shu.expected ∧ t.shu.release = s.shu.release
        ∧ t.shu.accept = s.shu.accept ∧ t.shu.window = s.shu.window
  | .schedule, s, t => t.shu.schedule = s.shu.schedule
  | .trips, s, t => t.shu.openTrips = s.shu.openTrips ∧ t.shu.overflow = s.shu.overflow
  | .history, s, t => t.shu.history = s.shu.history
  | .stc, s, t => t.stc = s.stc
  | .lkc, s, t => t.lkc = s.lkc
  | .ntc, s, t => t.ntc = s.ntc
  | .cfg, s, t => t.cfg = s.cfg
  | .draws, s, t => t.draws = s.draws
  | .pending, s, t => t.pending = s.pending

/-- Every piece but those of the list is the same in `t` as in `s`. -/
def Unchanged (changed : List Part) (s t : State) : Prop := ∀ p, p ∉ changed → p.same s t

/-- What placing a record may change: the queue, the loss flag of the shift and the notices (R99, R104, R105). -/
def Part.recording : List Part := [.evq, .current, .ntc]

/-- What a save may change from its request on (R173, R174). -/
def Part.saving : List Part := [.evq, .current, .ntc, .tlu, .stc, .draws]

/-- What a fired boundary may change (R149 to R156). -/
def Part.firing : List Part := [.evq, .current, .ntc, .tlu, .stc, .draws, .tracker, .handover, .history]

/-- What a phase sample may change (R51 to R54, R8). -/
def Part.disciplining : List Part :=
  [.evq, .current, .ntc, .tlu, .stc, .draws, .tracker, .handover, .history, .clock, .epoch, .leap, .rrx, .dsc]

/-! ### The local minute and the schedule -/

/-- Room in the queue for every record that one firing and its cause can place. -/
def State.roomy (s : State) : Prop :=
  s.evq.records.length + s.shu.schedule.length ≤ 300 ∧ ∃ n, s.evq.nextSeq = some n ∧ n + 400 ≤ max32

/-- A SHIFT record of the shift current in `s`, placed since (R96). -/
def ShiftRecorded (event : ShiftEvent) (crew : Nat) (s t : State) : Prop :=
  ∃ r ∈ t.evq.records.drop s.evq.records.length,
    r.detail = .shift event (s.shu.current.number % 65536) crew

/-- No entry of the schedule fires. -/
def NothingFires (s t : State) : Prop :=
  t.tsc.lastFired = s.tsc.lastFired ∧ Part.handover.same s t ∧ t.shu.history = s.shu.history
    ∧ t.shu.current.number = s.shu.current.number

/-- An entry fires for a local day (R15, R151, R152): the last-fired pair, the miss of an open handover (R156), and
then a handover to its crew (R154), or the close of the shift on duty as SELF when the crew is the same (R149, R150,
R155). -/
def FiringLeaves (x : ScheduleEntry) (day : Int) (s t : State) : Prop :=
  let h := s.shu
  let isOpen := h.state ≠ .onShift
  let missed := if isOpen then min (h.current.missed + 1) 255 else h.current.missed
  t.tsc.lastFired = s.tsc.lastFired.filter (fun p => p.1 != x.start) ++ [(x.start, day)]
    ∧ (isOpen → t.ntc.flags.getLsbD 5 = true ∧ (s.roomy → ShiftRecorded .missed (h.expected.getD 0) s t))
    ∧ (isOpen ∨ x.crew = h.current.crew → t.ntc.conditions.getLsbD 13 = false)
    ∧ (x.crew ≠ h.current.crew →
        t.shu.state = .handover ∧ t.shu.expected = some x.crew ∧ t.shu.accept = false
        ∧ t.shu.release = decide (h.current.crew = 0)
        ∧ t.shu.window = some { opening := t.tsc.e, expiry := t.tsc.e + x.window * 60000000 }
        ∧ t.ntc.flags.getLsbD 4 = true ∧ t.shu.history = h.history
        ∧ t.shu.current.number = h.current.number ∧ t.shu.current.missed = missed
        ∧ (s.roomy → ShiftRecorded .handoverDue x.crew s t))
    ∧ (x.crew = h.current.crew →
        t.shu.state = .onShift ∧ t.shu.expected = none ∧ t.shu.release = false ∧ t.shu.accept = false
        ∧ t.shu.window = none ∧ t.shu.current.crew = x.crew ∧ t.shu.current.kind = .opened
        ∧ t.shu.current.missed = 0
        ∧ (h.current.number < max32 → t.shu.current.number = h.current.number + 1
            ∧ ∃ r, t.shu.history = (r :: h.history).take 16 ∧ r.number = h.current.number ∧ r.kind = .self
                ∧ r.crew = x.crew ∧ r.nextCrew = x.crew ∧ r.duration = 0 ∧ r.missed = missed)
        ∧ (max32 ≤ h.current.number → t.shu.current.number = 1 ∧ t.shu.history = [])
        ∧ (s.roomy → ShiftRecorded .self x.crew s t)
        ∧ (s.cfg.saveAtShift = true → s.stc.inFlight = none →
            ∃ f, t.stc.inFlight = some f ∧ f.trigger = .shift ∧ f.start = t.tsc.e)
        ∧ (s.cfg.saveAtShift = true → s.stc.inFlight.isSome = true →
            t.stc.queued = some (s.stc.queued.getD .shift)))

/-- The tracker at a second boundary with this local minute, in minutes (R12), and what a MINUTE report fires (R151). -/
def AdvanceLeaves (new : Int) (s t : State) : Prop :=
  let day := new / 1440
  let minute := (new % 1440).toNat
  match s.tsc.tracker with
  | none => t.tsc.tracker = none ∧ NothingFires s t
  | some r =>
      let d := new - r.count
      (d = 0 ∨ d = -1 → t.tsc.tracker = some r ∧ NothingFires s t)
      ∧ (d < -1 → t.tsc.tracker = some { day := day, minute := minute } ∧ NothingFires s t)
      ∧ (0 < d → t.tsc.tracker = some { day := day, minute := minute }
          ∧ ((∀ x ∈ s.shu.schedule, x.start ≠ minute) ∨ (minute, day) ∈ s.tsc.lastFired → NothingFires s t)
          ∧ ∀ before x after, s.shu.schedule = before ++ x :: after → x.start = minute →
              (∀ y ∈ before, y.start ≠ minute) → (minute, day) ∉ s.tsc.lastFired → FiringLeaves x day s t)

/-- The tracker at a move of the local minute from `old` to `new`, in minutes (R13), and what a JUMP fires and skips
(R152): the latest of the entries that the skipped interval reaches fires. `held` is for an adopted leap. -/
def MoveLeaves (held : Bool) (old new : Int) (s t : State) : Prop :=
  match s.tsc.tracker with
  | none => t.tsc.tracker = none ∧ NothingFires s t
  | some r =>
      let d := new - r.count
      let stays := new = old ∨ d = 0 ∨ held = true ∧ d = -1
      let moved := t.tsc.tracker = some { day := new / 1440, minute := (new % 1440).toNat }
      let place (x : ScheduleEntry) : Int := r.count + 1 + ((x.start : Int) - (r.count + 1)) % 1440
      let reached (x : ScheduleEntry) : Prop :=
        x ∈ s.shu.schedule ∧ place x ≤ new ∧ (x.start, place x / 1440) ∉ s.tsc.lastFired
      (stays → t.tsc.tracker = some r ∧ NothingFires s t)
      ∧ (¬ stays → moved)
      ∧ (¬ stays → d < 0 ∨ 1440 ≤ d → NothingFires s t)
      ∧ (¬ stays → 0 < d → d < 1440 → (∀ x, ¬ reached x) → NothingFires s t)
      ∧ (¬ stays → 0 < d → d < 1440 → ∀ y, reached y →
          ∃ x, reached x ∧ (∀ z, reached z → place z ≤ place x) ∧ FiringLeaves x (place x / 1440) s t
            ∧ (s.roomy → ∀ z, reached z → z ≠ x → ShiftRecorded .skipped z.crew s t))

/-- The local minute of a station time, in minutes (R5). -/
def State.localCount (s : State) : Int := ((s.tsc.s : Int) - s.tsc.leap + 60 * s.cfg.localOffset) / 60

/-! ### Samples and frames -/

/-- A value divided, to the nearest integer, halves away from zero (the introduction). -/
def nearest (a : Int) (k : Nat) : Int := if 0 ≤ a then (2 * a + k) / (2 * k) else -((2 * -a + k) / (2 * k))

/-- A sample `e` of the selected source taken by the discipline (R43 to R53): the source class, the frequency window, F at
its end, the step decision, c, U, the lock count, the previous sample and the class. A sample of HOLDOVER is one of LOCKED
below STEP_LIMIT, else the first of ACQUIRE; the first sample of FREE is one of ACQUIRE without a previous one, which may
step whatever STEP_ALLOW holds; a step moves station time back by e and restarts the window (R8, R47). -/
def SampleLeaves (src : Source) (e : Int) (cls : Nat) (s t : State) : Prop :=
  let d := s.dsc
  let bound : Int := 2 ^ 63 - 1
  let x : Option Int := if d.state = .free then none else match d.prev with
    | some p => if p.source = src then some (max (-bound) (min (e - p.e - p.c) bound)) else none
    | none => none
  let sum := d.sum + x.getD 0
  let ends := x.isSome = true ∧ 2 ^ s.cfg.freqWindow ≤ d.count + 1
  let f := if ends then max (-200000) (min (nearest sum (2 ^ s.cfg.freqWindow)) 200000) else d.f
  let limit : Int := s.cfg.slewLimit
  let acquiring := d.state = .free ∨ d.state = .acquire ∨ d.state = .holdover ∧ s.cfg.stepLimit ≤ e.natAbs
  let steps := acquiring ∧ s.cfg.stepLimit ≤ e.natAbs ∧ (d.state = .free ∨ d.oneShot = true ∨ s.cfg.stepAllow = true)
  let srcClass := if src = .a then cls else d.srcClass
  let old := if d.state = .free ∨ d.state = .holdover then 0 else d.lock
  let lock := if s.cfg.lockLimit < e.natAbs then 0 else old + 1
  (d.state ≠ .free → t.dsc.view = d.view) ∧ t.dsc.srcClass = srcClass ∧ t.tsc.e = s.tsc.e
  ∧ (d.state ≠ t.dsc.state → t.ntc.flags.getLsbD 3 = true)
  ∧ t.dsc.effClass = (let own := if t.dsc.u ≤ 1000 then 0 else if t.dsc.u ≤ 10000 then 1 else if t.dsc.u ≤ 100000 then 2
        else if t.dsc.u ≤ 1000000 then 3 else if t.dsc.u ≤ 10000000 then 4 else if t.dsc.u ≤ 100000000 then 5 else 6
      if t.dsc.view = some .a then max own srcClass else own)
  ∧ (¬ steps →
      t.tsc.s = s.tsc.s ∧ t.tsc.n = s.tsc.n ∧ t.tsc.epoch = s.tsc.epoch ∧ t.dsc.f = f
      ∧ t.dsc.sum = (if ends then 0 else sum)
      ∧ t.dsc.count = (if ends then 0 else d.count + if x.isSome then 1 else 0)
      ∧ t.dsc.c = max (-limit) (min (-f - nearest e (2 ^ s.cfg.phaseGain)) limit)
      ∧ t.dsc.u = min e.natAbs 4294967295
      ∧ t.dsc.prev = some { source := src, e := e, c := t.dsc.c }
      ∧ (¬ acquiring ∨ 8 ≤ lock → t.dsc.state = .locked ∧ t.dsc.lock = 0 ∧ t.dsc.oneShot = false)
      ∧ (acquiring → lock < 8 → t.dsc.state = .acquire ∧ t.dsc.lock = lock ∧ t.dsc.oneShot = d.oneShot))
  ∧ (steps →
      (let ns : Int := max 0 (min ((s.tsc.s * 1000000000 + s.tsc.n : Nat) - e) (2 ^ 40 * 1000000000 - 1))
       (t.tsc.s * 1000000000 + t.tsc.n : Nat) = ns ∧ t.tsc.n < 1000000000)
      ∧ t.tsc.epoch = (s.tsc.epoch + 1) % 256
      ∧ t.dsc.state = .acquire ∧ t.dsc.f = f ∧ t.dsc.c = max (-limit) (min (-f) limit) ∧ t.dsc.u = 0
      ∧ t.dsc.sum = 0 ∧ t.dsc.count = 0 ∧ t.dsc.prev = none ∧ t.dsc.lock = 0 ∧ t.dsc.oneShot = false)

/-- The out and release counts of both sources after an accepted mark of `x` with the judged value `j` (R31 to R34):
while supervision runs before and after, by the judgement of a source that keeps its state; 0 at a mark that makes the
source FAULTED or USABLE, and 0 for both sources when the discipline state changes and supervision does not run before
or after; else as they were. -/
def CountsLeave (x : Source) (j : Int) (s t : State) : Prop :=
  let a := s.rrx.src x
  let b := t.rrx.src x
  let other : Source := match x with | .a => .b | .b => .a
  let judged := s.dsc.state = .locked ∨ s.dsc.state = .holdover
  let judges := t.dsc.state = .locked ∨ t.dsc.state = .holdover
  let keeps := judged ∧ judges ∨ t.dsc.state = s.dsc.state
  (keeps → judged → a.state = .usable → b.state = .usable →
      b.out = (if s.cfg.phaseLimit < j.natAbs then a.out + 1 else 0) ∧ b.release = a.release)
  ∧ (keeps → judged → a.state = .faulted → b.state = .faulted →
      b.release = (if j.natAbs < max (s.cfg.phaseLimit - s.cfg.phaseHyst) s.dsc.u then a.release + 1 else 0)
        ∧ b.out = a.out)
  ∧ (keeps → ¬ judged → b.state = a.state → b.out = a.out ∧ b.release = a.release)
  ∧ (keeps → b.state = .qualifying → b.out = a.out ∧ b.release = a.release)
  ∧ (b.state ≠ a.state → b.state = .usable ∨ b.state = .faulted → b.out = 0 ∧ b.release = 0)
  ∧ (keeps → (t.rrx.src other).out = (s.rrx.src other).out ∧ (t.rrx.src other).release = (s.rrx.src other).release)
  ∧ (¬ keeps → b.out = 0 ∧ b.release = 0 ∧ (t.rrx.src other).out = 0 ∧ (t.rrx.src other).release = 0)

/-- A mark within 50 ms of a whole second, 1 to 7, after the last accepted mark (R21). -/
def State.expects (s : State) (mark : Latch) : Prop :=
  ∃ (l : Latch) (k : Nat), s.rrx.srcA.lastMark = some l ∧ 1 ≤ k ∧ k ≤ 7
    ∧ ((mark.e : Int) - l.e - (k * 1000000 : Nat)).natAbs ≤ 50000

/-- The date that a start bit latches at this instant (R7, R19). -/
def State.latchNow (s : State) : Latch :=
  { s := s.tsc.s, n := s.tsc.n, epoch := s.tsc.epoch, e := s.tsc.e, cls := s.dsc.effClass }

/-- The command completes a candidate with this mark, message and check: the whole frame with no candidate and no character
in hand, its mark let pass by R21, or the last character of the candidate in hand, within its
50 ms. -/
def FrameArrives (mark : Latch) (m : StationMessage) (check : BitVec 16) (c : Instr) (s : State) : Prop :=
  let sent : List Byte := [0xC3, 0x3C, m.sourceId, m.status] ++ beBytes 5 m.civil.toNat ++ [m.leap, m.sequence]
    ++ beBytes 2 check.toNat
  (c = .refaFrame m check ∧ s.rrx.candidate = none ∧ s.rrx.begun = none ∧ mark = s.latchNow
    ∧ (s.rrx.state = .sync → s.expects mark))
  ∨ ∃ bytes v stopHigh, c = .refaCharacter (.completes v) stopHigh ∧ s.rrx.begun.isSome = true
      ∧ s.tsc.e ≤ mark.e + 50000 ∧ s.rrx.candidate = some { mark := mark, bytes := bytes } ∧ bytes ++ [v] = sent

/-- Characters on REF-A, each begun and completed before the next (R19). -/
def characterMoments (bytes : List Byte) : List Instr :=
  bytes.flatMap (fun b => [.refaCharacter .begins true, .refaCharacter (.completes b) true])

/-- Bytes on LRXD, each begun and completed before the next (R182). -/
def byteMoments (bytes : List Byte) : List Instr :=
  bytes.flatMap (fun b => [.linkByte .begins, .linkByte (.completes b)])

/-- An instant of REF-A that a candidate with this mark has deferred has been reached (R29). -/
def Deferred (mark : Nat) (s : State) (at' : Option Nat) : Prop := ∃ x, at' = some x ∧ x ≤ s.tsc.e ∧ mark < x

/-- A discard that leaves `left`, and then takes the instants of REF-A that the candidate deferred (R29): none, when none
has been reached; else the missing samples in turn, and the 8-second instant last. -/
def DiscardLeaves (c : Instr) (mark : Nat) (s left : State) : Prop :=
  let missing (k : Nat) : List Instr := List.replicate k (.missingSample .a)
  (¬ Deferred mark left left.rrx.srcA.nextMissing → ¬ Deferred mark left left.rrx.srcA.absentAt → exec c s = .next left)
  ∧ ∃ (k : Nat) (u t : State), exec c s = .next t ∧ k ≤ 7 ∧ ExecAll (missing k) left u
      ∧ (∀ j v, j < k → ExecAll (missing j) left v → Deferred mark v v.rrx.srcA.nextMissing)
      ∧ (k < 7 → ¬ Deferred mark u u.rrx.srcA.nextMissing)
      ∧ (Deferred mark u u.rrx.srcA.absentAt → exec (.sourceAbsent .a) u = .next t)
      ∧ (¬ Deferred mark u u.rrx.srcA.absentAt → t = u)

/-! ### Invariants -/

/-- ATTN is asserted exactly when an unmasked flag is set (R195), and the flag of each condition that holds is
latched (R193, R194). -/
def State.noticesConsistent (s : State) : Prop :=
  s.ntc.attn = attnOf s.ntc.flags s.cfg.noticeMask ∧ s.ntc.conditions &&& s.ntc.flags = s.ntc.conditions

/-- At most 320 records, their numbers strictly increasing from oldest to newest and all below the next one (R98);
the delivered records are the oldest, at most 8 of them (R107). -/
def EventQueue.consistent (q : EventQueue) : Prop :=
  q.records.length ≤ queueCapacity
    ∧ q.records.Pairwise (fun r r' => r.seq < r'.seq)
    ∧ (∀ n, q.nextSeq = some n → n ≤ max32 ∧ ∀ r ∈ q.records, r.seq < n)
    ∧ ∃ k ≤ 8, (∀ r ∈ q.records.take k, r.delivered = true) ∧ ∀ r ∈ q.records.drop k, r.delivered = false

/-- c lies within ±SLEW_LIMIT (R42), the effective class is the one of R50, and the shift's worst class is no
better (R148). -/
def State.disciplineConsistent (s : State) : Prop :=
  (-(s.cfg.slewLimit : Int) ≤ s.dsc.c ∧ s.dsc.c ≤ s.cfg.slewLimit)
    ∧ s.dsc.effClass = s.dsc.classNow
    ∧ s.dsc.effClass ≤ s.shu.current.worstClass

/-- At most 16 closed records, whose numbers strictly decrease from newest to oldest and lie below the current
shift's (R150, R164). -/
def historyConsistent (current : ShiftRecord) (history : List ShiftRecord) : Prop :=
  history.length ≤ historyCapacity
    ∧ history.Pairwise (fun r r' => r'.number < r.number)
    ∧ (∀ r ∈ history, r.number < current.number)
    ∧ 1 ≤ current.number ∧ current.number ≤ max32

/-- At most 16 open trips, no two with the same sequence number (R162). -/
def tripsConsistent (trips : List OpenTrip) : Prop :=
  trips.length ≤ openTripCapacity ∧ trips.Pairwise (fun a b => a.seq ≠ b.seq)

/-- The shift lists of an image. -/
def Image.consistent (i : Image) : Prop := historyConsistent i.current i.history ∧ tripsConsistent i.openTrips

/-- The shift lists, in the part and in the images it holds (R150, R162, R164). -/
def State.shiftsConsistent (s : State) : Prop :=
  historyConsistent s.shu.current s.shu.history ∧ tripsConsistent s.shu.openTrips
    ∧ (∀ x, s.stc.store = .holds x → x.image.consistent)
    ∧ ∀ f x, s.stc.inFlight = some f → f.snapshot = some x → x.image.consistent

/-- A line as R74 describes its state; `level` is its line level. -/
def Line.consistent (x : Line) (kind : LineKind) (level : Bool) : Prop :=
  (x.state = .unused ↔ kind = .unused)
    ∧ (x.quiet.isSome = true ↔ x.state = .chatter)
    ∧ (x.state ≠ .chatter → x.effective = x.filtered)
    ∧ (x.state = .unused ∨ x.state = .steady → x.pending = none)
    ∧ (x.state = .pending → x.pending.isSome = true)
    ∧ (x.state ≠ .unused → x.pending = none → level = x.filtered)
    ∧ ∀ p, x.pending = some p → p.level = level ∧ level ≠ x.filtered

/-- Every line as R74 describes its state. -/
def State.linesConsistent (s : State) : Prop :=
  ∀ i, lineExists i = true → (s.line i).consistent (s.lineCfg i).kind (s.lineLevel i)

/-- The time scale within its ranges (R1, R4; entry 6 for the model's own two fields). -/
def TimeScale.inRange (t : TimeScale) : Prop :=
  t.s < secondsModulus ∧ t.n < nsPerS ∧ t.epoch < 256 ∧ t.eSub < 1000 ∧ t.frac < fracModulus

/-! ### Tallies -/

/-- Seconds and remainder of an accumulator in µs (R118). -/
def Acc.total (a : Acc) : Nat := a.secs * 1000000 + a.rem

/-- An accumulator within its ranges (R118, R120). -/
def Acc.inRange (a : Acc) : Prop := a.secs ≤ max32 ∧ a.rem ≤ 999999

/-- A tally within its ranges (R117, R118, R124). -/
def Tally.inRange (t : Tally) : Prop :=
  (∀ m, (t.accs.get m).inRange) ∧ t.starts ≤ max16 ∧ t.trips ≤ max16

/-- Every unit's tally within its ranges. -/
def State.talliesInRange (s : State) : Prop := ∀ u, unitExists u = true → (s.unit u).tally.inRange

/-- The value that a tally field shows (R129). -/
def Tally.field (t : Tally) : TallyField → Nat
  | .stillS => t.accs.still.secs
  | .spinS => t.accs.spin.secs
  | .genS => t.accs.gen.secs
  | .pumpS => t.accs.pump.secs
  | .condS => t.accs.cond.secs
  | .indetS => t.accs.indet.secs
  | .starts => t.starts
  | .trips => t.trips
  | .baseline => t.baseline

/-- A command that may preset or reload a tally: TLPS, in its row or in a frame, also in the bytes of a
frame that is too long (R183), and the power-on reset (R120). -/
def mayPreset : Instr → Bool
  | .tlps .. | .requestFrame .. | .linkByte .. | .powerOnReset .. => true
  | .schw _ entries => decide (61 < entries.length)
  | .rstrt .. | .holdupAssertion | .holdupRelease | .secondBoundary | .feedTransmissionEnd | .trd ..
  | .refaFrame .. | .candidateTimeout | .refaBreak | .refbPulse | .missingSample .. | .sourceAbsent ..
  | .revertTimerExpiry | .pinj .. | .refs .. | .tset .. | .tacq .. | .disc .. | .rawEdge .. | .filterExpiry ..
  | .quietTimerExpiry .. | .einj .. | .lnst .. | .efls .. | .efch .. | .erel .. | .discrepancyTimerExpiry ..
  | .tlrd .. | .periodicEvaluation | .mset .. | .schr .. | .hrel .. | .hacc .. | .windowTimerExpiry
  | .hopn .. | .tack .. | .tackAll .. | .shhs .. | .shst .. | .saveEnd .. | .save .. | .autosaveExpiry | .dflt ..
  | .gapExpiry | .replyEnd | .stat .. | .lstat .. | .idnt .. | .cfgw .. | .cfgr .. | .refaCharacter ..
  | .unusedLinePinChange .. => false

/-! ### Units, trips and delivered changes -/

/-- The mode of a unit by the levels of its status lines (R114, R115): NONE without a BREAKER line. -/
def ModeDerived (u : Nat) (m : Mode) (t : State) : Prop :=
  let monitored := ∃ j, 1 ≤ j ∧ j ≤ 32 ∧ (t.lineCfg j).kind = .breaker ∧ (t.lineCfg j).unit = u
  let level (k : LineKind) : Prop := t.statusLevel u k = true
  (¬ monitored → m = .none)
  ∧ (monitored →
      (¬ level .breaker → ¬ level .speed → m = .still) ∧ (¬ level .breaker → level .speed → m = .spin)
      ∧ (level .breaker → ¬ level .speed → m = .indet) ∧ (level .breaker → level .speed → level .cond → m = .cond)
      ∧ (level .breaker → level .speed → ¬ level .cond → level .pump → m = .pump)
      ∧ (level .breaker → level .speed → ¬ level .cond → ¬ level .pump → m = .gen))

/-- Room in the queue for every record that a restart can place. -/
def State.spacious (s : State) : Prop :=
  s.evq.records.length + s.shu.schedule.length ≤ 240 ∧ ∃ n, s.evq.nextSeq = some n ∧ n + 400 ≤ max32

/-- A unit whose mode is derived again, by a change of its lines or by a restart (R126, R131): nothing of its tally but
the booked time and the maintenance flag moves, and no start is counted; a new mode begins now, with its timer by R122
and its MODE record. -/
def UnitRederived (u : Nat) (s t : State) : Prop :=
  let g := s.unit u
  let h := t.unit u
  let expiry := s.tsc.e + (t.unitCfg u).discrepDelay * 1000000
  ModeDerived u h.mode t
  ∧ (h.tally.starts = g.tally.starts ∧ h.tally.trips = g.tally.trips ∧ h.tally.baseline = g.tally.baseline
      ∧ h.tally.limit = g.tally.limit)
  ∧ (s.talliesInRange → h.tally = { (g.checkpoint s.tsc.e).tally with due := h.tally.due })
  ∧ (h.tally.due = true ↔ h.tally.limit ≤ t.eoh u)
  ∧ h.ecp = (if h.mode = .none then if g.mode = .none then g.ecp else none else some s.tsc.e)
  ∧ (h.mode = g.mode → h.entry = g.entry ∧ h.entryDate = g.entryDate)
  ∧ (h.mode ≠ g.mode → h.entry = s.tsc.e
      ∧ (h.entryDate.epoch = s.tsc.epoch ∧ h.entryDate.s = s.tsc.s ∧ h.entryDate.us = s.tsc.n / 1000
          ∧ (h.entryDate.cls = s.dsc.effClass ∨ h.entryDate.cls = t.dsc.effClass))
      ∧ h.timer = (if h.mode = .indet then if expiry ≤ s.tsc.e then .expired else .running expiry else .stopped)
      ∧ (s.spacious → t.shu.schedule.length ≤ 6 → (t.unitCfg u).modeRecord = true →
          ∃ r ∈ t.evq.records.drop s.evq.records.length,
            r.detail = .mode u g.mode h.mode g.tally.starts ∧ r.source = u))

/-- A trip of line `i` with the date of this latch is taken (R84, R94, R110, R124, R148, R162): counted by the unit and
the shift, recorded after `k` records of the same command, listed, and notified. -/
def TripTaken (k i : Nat) (l : Latch) (s t : State) : Prop :=
  let c := s.lineCfg i
  let date : Date := { epoch := l.epoch, cls := l.cls, s := l.s, us := l.n / 1000 }
  let g := s.unit c.unit
  let trips := min (g.tally.trips + 1) 65535
  let seconds := if g.mode = .none then 0 else min ((t.tsc.e - g.entry) / 1000000) max32
  let counted (r : ShiftRecord) : ShiftUnit := nth r.units c.unit
  (1 ≤ c.unit → (t.unit c.unit).tally.trips = trips
    ∧ (counted t.shu.current).trips = min ((counted s.shu.current).trips + 1) 255
    ∧ t.shu.current.stationTrips = s.shu.current.stationTrips)
  ∧ (c.unit = 0 → t.shu.current.stationTrips = min (s.shu.current.stationTrips + 1) 255
    ∧ t.shu.current.units = s.shu.current.units)
  ∧ (c.notify = true → t.ntc.flags.getLsbD 0 = true)
  ∧ (t.shu.openTrips.length = s.shu.openTrips.length + 1 ∨ t.shu.overflow = true)
  ∧ (s.evq.records.length + k ≤ 318 → ∀ n, s.evq.nextSeq = some n → k = 0 ∨ n + k ≤ max32 →
      s.evq.records <+: t.evq.records
      ∧ (∃ r ∈ t.evq.records[s.evq.records.length + k]?, r.seq = n + k ∧ r.source = i ∧ r.date = date
          ∧ r.station = decide (c.unit = 0) ∧ r.injected = false ∧ r.delivered = false
          ∧ r.detail = (if c.unit = 0 then .trip 0 .none 0 0 else .trip c.unit g.mode seconds trips))
      ∧ (s.shu.openTrips.length < 16 → (∀ y ∈ s.shu.openTrips, y.seq ≠ n + k) →
          t.shu.openTrips = s.shu.openTrips ++ [{ seq := n + k, unit := c.unit, date := date }]
          ∧ t.shu.overflow = s.shu.overflow))

/-- A status change of the unit of line `i` with the date of this latch (R115 to R117, R148), after `k` records of the same
command. -/
def StatusTaken (k i : Nat) (l : Latch) (s t : State) : Prop :=
  let u := (s.lineCfg i).unit
  let date : Date := { epoch := l.epoch, cls := l.cls, s := l.s, us := l.n / 1000 }
  let g := s.unit u
  let h := t.unit u
  let booked := max l.e (g.ecp.getD 0)
  let starts := g.mode = .still ∧ h.mode ≠ .still ∧ h.mode ≠ .indet
  let counted (r : ShiftRecord) : ShiftUnit := nth r.units u
  ModeDerived u h.mode t
  ∧ h.tally.starts = (if starts then min (g.tally.starts + 1) 65535 else g.tally.starts)
  ∧ (h.mode ≠ g.mode → h.entry = booked ∧ h.entryDate = date)
  ∧ (h.mode = g.mode → h.entry = g.entry ∧ h.entryDate = g.entryDate)
  ∧ h.ecp = some booked
  ∧ (counted t.shu.current).starts
      = (if starts then min ((counted s.shu.current).starts + 1) 255 else (counted s.shu.current).starts)
  ∧ (h.mode ≠ g.mode → (s.unitCfg u).modeRecord = true → s.evq.records.length + k ≤ 314 →
      ∀ n, s.evq.nextSeq = some n → n + k + 8 ≤ max32 →
      ∃ r ∈ t.evq.records.drop s.evq.records.length, r.source = u ∧ r.date = date
        ∧ r.detail = .mode u g.mode h.mode h.tally.starts)

/-- A change of line `i` to this level is delivered with the date of this latch (R82 to R85), after `k` records of the
same command: an EDGE or a TRIPCLR record when the line is recorded, the unit of a status line, or the trip. -/
def HandedOn (k i : Nat) (level : Bool) (l : Latch) (s t : State) : Prop :=
  let c := s.lineCfg i
  let date : Date := { epoch := l.epoch, cls := l.cls, s := l.s, us := l.n / 1000 }
  let recorded (room : Nat) (detail : Detail) : Prop :=
    s.evq.records.length + k ≤ room → ∀ n, s.evq.nextSeq = some n → k = 0 ∨ n + k ≤ max32 →
      s.evq.records <+: t.evq.records
      ∧ t.evq.records[s.evq.records.length + k]? = some
          { seq := n + k, detail := detail, injected := false, delivered := false, station := decide (c.unit = 0)
            source := i, date := date }
  (c.kind ≠ .unused → c.kind ≠ .trip → c.record = true → recorded 315 (.edge level c.kind c.unit))
  ∧ (c.kind = .plain ∨ c.unit = 0 → t.tlu = s.tlu)
  ∧ (c.kind = .breaker ∨ c.kind = .speed ∨ c.kind = .pump ∨ c.kind = .cond → 1 ≤ c.unit → (s.unit c.unit).mode ≠ .none →
      (∃ j, 1 ≤ j ∧ j ≤ 32 ∧ (s.lineCfg j).kind = .breaker ∧ (s.lineCfg j).unit = c.unit) → StatusTaken k i l s t)
  ∧ (c.kind = .trip → level = false →
      (c.record = true → recorded 318 (.tripclr c.unit)) ∧ t.tlu = s.tlu ∧ Part.trips.same s t)
  ∧ (c.kind = .trip → level = true → TripTaken k i l s t)
  ∧ ∀ u, u ≠ c.unit → t.unit u = s.unit u

end Sys2Proof.Machine
end

