-- ==== Sys2Proof/Certificates/Slice0/Obligations.lean ====
section
/-! DEFINITION. The statements for the provers. -/

open Sys2Proof Sys2Proof.Machine

/-! ### The machine -/

/-- The command at the front of the queue is taken whole, and run with the rest of the queue (95, What each step holds). The
queue of waiting commands is the model's choice: entry 1. -/
def Obligations.FrontCommandIsExecuted : Prop :=
  ∀ (c : Instr) (s : State), step { s with pending := c :: s.pending } = exec c s

/-- On an empty queue one cycle of 100 × (1 + c × 10⁻⁹) ns passes (R3) while no time-driven command is due; a second
boundary in the cycle, with no event at it or before it, is carried out where it falls, as by SECOND_BOUNDARY (R6). With
commands due, time stands and one of them is queued. A time-driven command sent ahead of its instant first runs the part on
to it, and does nothing more when its timer has been stopped or moved on the way (the model's choices: entries 2, 3 and 4). -/
def Obligations.EmptyQueueLetsOneCyclePass : Prop :=
  (∀ s : State, s.pending = [] →
    let steered := s.tsc.frac + (100 * (1000000000 + s.dsc.c)).toNat
    let ns := steered / 1000000000
    let left : State := { s with tsc := { s.tsc with frac := steered % 1000000000 } }
    (s.due = [] → s.tsc.s < 2 ^ 40 → s.tsc.n + ns < 1000000000 →
      step s = .next { s with tsc := { s.tsc with
        n := s.tsc.n + ns, e := s.tsc.e + (s.tsc.eSub + ns) / 1000, eSub := (s.tsc.eSub + ns) % 1000
        frac := steered % 1000000000 } })
    ∧ (s.quiet (s.tsc.elapsed + (1000000000 - s.tsc.n) + 1) → s.tsc.n < 1000000000 → 1000000000 ≤ s.tsc.n + ns →
      ∃ m, exec .secondBoundary left = .next m
        ∧ step s = .next { m with tsc := m.tsc.advance (ns - (1000000000 - s.tsc.n)) })
    ∧ (s.due ≠ [] → ∃ c ∈ s.due, step s = .next { s with pending := [c], draws := s.draws + 1 }))
  ∧ ∀ s : State,
    let sent (c : Instr) (timer : State → Option Nat) : Prop := ∀ at', timer s = some at' →
      let r := s.runToE at'
      r.tsc.elapsed = max s.tsc.elapsed (at' * 1000)
        ∧ (timer r = some at' → exec c s = exec c r) ∧ (timer r ≠ some at' → exec c s = .next r)
    sent .feedTransmissionEnd (fun s => s.ftx.transmission.map (·.endAt))
    ∧ sent .candidateTimeout (fun s => s.rrx.candidate.map (fun c => c.mark.e + 50000))
    ∧ (∀ x, sent (.missingSample x) (fun s => (s.rrx.src x).nextMissing))
    ∧ (∀ x, sent (.sourceAbsent x) (fun s => (s.rrx.src x).absentAt))
    ∧ sent .revertTimerExpiry (fun s => s.rrx.revert.map (·.expiry))
    ∧ (∀ i, 1 ≤ i → i ≤ 32 → sent (.filterExpiry i) (fun s => (s.line i).pending.map (·.expiry))
        ∧ sent (.quietTimerExpiry i) (fun s => (s.line i).quiet))
    ∧ (∀ u, 1 ≤ u → u ≤ 8 → sent (.discrepancyTimerExpiry u) (fun s => match (s.unit u).timer with
        | .running at' => some at'
        | .stopped | .expired => none))
    ∧ sent .periodicEvaluation (fun s => some s.tlu.nextEval)
    ∧ sent .windowTimerExpiry (fun s => if s.shu.state = .handover then s.shu.window.map (·.expiry) else none)
    ∧ sent .autosaveExpiry (fun s => s.stc.autosave)
    ∧ sent .gapExpiry (fun s => s.lkc.gap)
    ∧ sent .replyEnd (fun s => s.lkc.reply.map (·.endAt))
    ∧ (∀ f ok, s.stc.inFlight = some f →
        let r := s.runToE (f.start + 30000)
        r.tsc.elapsed = max s.tsc.elapsed ((f.start + 30000) * 1000)
          ∧ (r.stc.inFlight = some f → exec (.saveEnd ok) s = exec (.saveEnd ok) r)
          ∧ (r.stc.inFlight ≠ some f → exec (.saveEnd ok) s = .next r))

/-- A command that the part can receive always runs to a next state and leaves the queue of commands as it is; any
other command faults. The fault of a line or a unit that the part does not have, and the queue, are the model's choices:
entries 28 and 1. -/
def Obligations.WellFormedCommandsRun : Prop :=
  ∀ (c : Instr) (s : State),
    (c.wellFormed = true → ∃ t, exec c s = .next t ∧ t.pending = s.pending) ∧
    (c.wellFormed = false → ∃ f, exec c s = .fault f)

/-! ### Resets and the supply -/

/-- `State.reset` is what POWER_ON_RESET makes of a part with an erased store, every pin low, the straps at 00 and
HOLDUP released (the model's choice of those: entry 23). -/
def Obligations.ResetIsThePowerOnOfAnErasedPart : Prop :=
  ∀ s : State, s.stc.store = .erased → s.stc.inFlight = none → s.draws = 0 → s.pending = [] →
    exec (.powerOnReset 0 0 false) s = .next State.reset

/-- What POWER_ON_RESET leaves in the blocks (R17, R41, R61, R71, R91, R112, R130, R168, R172, R181, R196); the image is VALID
when its format byte and its check are right (R170, R171, R199), and a write that the reset cut off leaves it CORRUPT; every
unit's mode is derived from the sampled levels (R114, R115). The bytes that an image's items lie in are a free value: entry 13. -/
def Obligations.PowerOnRestartsThePart : Prop :=
  ∀ (straps : BitVec 2) (pins : BitVec 32) (holdup : Bool) (s : State),
    let store : Store := if s.stc.inFlight.isSome then .broken else s.stc.store
    let judged : StoreState := match store with
      | .erased => .blank
      | .broken => .corrupt
      | .holds x =>
          if x.format = 0x32 ∧ x.check = crc16 (x.format :: Config.imageBytes x.image) then .valid else .corrupt
    let valid := judged = .valid
    ∃ t, exec (.powerOnReset straps pins holdup) s = .next t
      ∧ (t.tsc.s = 0 ∧ t.tsc.n = 0 ∧ t.tsc.e = 0 ∧ t.tsc.epoch = 0 ∧ t.tsc.pendingLeap = none ∧ t.tsc.tracker = none
          ∧ t.tsc.lastFired = [])
      ∧ t.rrx = Receiver.reset
      ∧ (t.dsc.state = .free ∧ t.dsc.u = 4294967295 ∧ t.dsc.effClass = 7 ∧ t.dsc.view = none ∧ t.dsc.srcClass = 6
          ∧ t.dsc.sum = 0 ∧ t.dsc.count = 0 ∧ t.dsc.prev = none ∧ t.dsc.lock = 0 ∧ t.dsc.oneShot = false)
      ∧ t.ftx = { enable := t.cfg.feedEnable, sequence := 0, transmission := none }
      ∧ (∀ i, 1 ≤ i → i ≤ 32 → (t.line i).pinHigh = pins.getLsbD (i - 1) ∧ (t.line i).pending = none
          ∧ (t.line i).quiet = none ∧ (t.line i).recent = [] ∧ (t.line i).bounce = 0
          ∧ ((t.lineCfg i).kind ≠ .unused → (t.line i).state = .steady ∧ (t.line i).filtered = t.lineLevel i
              ∧ (t.line i).effective = t.lineLevel i))
      ∧ (∀ u, 1 ≤ u → u ≤ 8 → ModeDerived u (t.unit u).mode t ∧ (t.unit u).entry = 0
          ∧ (t.unit u).entryDate = { epoch := 0, cls := 7, s := 0, us := 0 }
          ∧ (t.unit u).ecp = (if (t.unit u).mode = .none then none else some 0)
          ∧ (t.unit u).timer = (if (t.unit u).mode = .indet
              then .running ((t.unitCfg u).discrepDelay * 1000000) else .stopped)
          ∧ ((t.unit u).tally.due = true ↔ (t.unit u).tally.limit ≤ t.eoh u))
      ∧ t.evq.records.head? = some { seq := 0, detail := .restart true judged, injected := false, delivered := false
                                     station := false, source := 0, date := { epoch := 0, cls := 7, s := 0, us := 0 } }
      ∧ (t.stc.store = store ∧ t.stc.state = judged ∧ t.stc.inFlight = none ∧ t.stc.queued = none ∧ t.stc.lastEnd = 0
          ∧ t.stc.holdup = holdup)
      ∧ t.lkc = { rate := straps, begun := false, receive := none, gap := none, reply := none, noise := 0, gapErr := 0, length := 0
                  check := 0, overrun := 0, linkErr := false }
      ∧ (t.ntc.flags.getLsbD 8 = true ∧ t.ntc.flags.getLsbD 7 = decide (judged = .corrupt)
          ∧ t.ntc.conditions.getLsbD 12 = holdup)
      ∧ (t.shu.state = .onShift ∧ t.shu.expected = none ∧ t.shu.release = false ∧ t.shu.accept = false
          ∧ t.shu.window = none)
      ∧ (∀ x, valid → store = .holds x →
          let img := x.image
          t.cfg = img.cfg.clamp ∧ t.tsc.leap = img.leap ∧ t.shu.schedule = img.schedule
            ∧ t.shu.openTrips = img.openTrips ∧ t.shu.overflow = img.overflow
            ∧ (img.current.number < 4294967295 →
                t.shu.current.number = img.current.number + 1 ∧ t.shu.history.length = min (img.history.length + 1) 16
                  ∧ t.shu.history.head? = some { img.current with
                      kind := .interrupted, nextCrew := img.current.crew, duration := 0 })
            ∧ t.shu.current.crew = img.current.crew
            ∧ ∀ u, 1 ≤ u → u ≤ 8 → (t.unit u).tally.accs = (nth img.tallies u).accs
                ∧ (t.unit u).tally.starts = (nth img.tallies u).starts
                ∧ (t.unit u).tally.trips = (nth img.tallies u).trips
                ∧ (t.unit u).tally.sat = (nth img.tallies u).sat
                ∧ (t.unit u).tally.baseline = (nth img.tallies u).baseline
                ∧ (t.unit u).tally.limit = (nth img.tallies u).limit)
      ∧ (¬ valid → t.cfg = Settings.dflt ∧ t.tsc.leap = 0 ∧ t.shu.schedule = [] ∧ t.shu.history = []
            ∧ t.shu.openTrips = [] ∧ t.shu.overflow = false ∧ t.dsc.f = 0 ∧ t.shu.current.number = 1
            ∧ t.shu.current.crew = 0)

/-- A taken RSTRT keeps station time, the leap, the feed and the link, drops the references, leaves ACQUIRE or LOCKED
for HOLDOVER, and sets RESTARTED (R18, R41, R62, R71, R92, R190, R196). The queue keeps its records with DELIVERED cleared and
takes the RESTART record (R113); every unit is checkpointed and its mode derived again (R131). That the reloaded values are clamped into their
ranges, as R172 says of power-on, is the model's choice: entry 36. -/
def Obligations.RestartKeepsTimeAndDropsTheSources : Prop :=
  ∀ (tag : Byte) (s : State), s.accepts .rstrt →
    ∃ t, exec (.rstrt tag) s = .next t
      ∧ (t.tsc.s = s.tsc.s ∧ t.tsc.n = s.tsc.n ∧ t.tsc.e = s.tsc.e ∧ t.tsc.epoch = s.tsc.epoch
          ∧ t.tsc.leap = s.tsc.leap ∧ t.tsc.pendingLeap = s.tsc.pendingLeap)
      ∧ t.rrx = Receiver.reset
      ∧ (t.dsc.state = (match s.dsc.state with | .acquire | .locked => .holdover | x => x) ∧ t.dsc.f = s.dsc.f
          ∧ t.dsc.u = s.dsc.u ∧ t.dsc.view = none ∧ t.dsc.sum = 0 ∧ t.dsc.count = 0 ∧ t.dsc.prev = none
          ∧ t.dsc.lock = 0 ∧ t.dsc.oneShot = false
          ∧ t.dsc.c = clampInt (-s.dsc.f) (-(t.cfg.slewLimit : Int)) t.cfg.slewLimit)
      ∧ t.ftx = s.ftx
      ∧ t.lkc = (s.answered 0x04 tag .ok []).lkc
      ∧ t.cfg = (match s.stc.store.load with | some img => img.cfg.clamp | none => Settings.dflt)
      ∧ t.shu.schedule = (match s.stc.store.load with | some img => img.schedule | none => [])
      ∧ t.shu.openTrips = s.shu.openTrips
      ∧ (∀ i, 1 ≤ i → i ≤ 32 → (t.line i).pinHigh = (s.line i).pinHigh ∧ (t.line i).pending = none
          ∧ (t.line i).quiet = none ∧ (t.line i).bounce = 0)
      ∧ (∀ i, 1 ≤ i → i ≤ 32 → (t.lineCfg i).kind ≠ .unused → (t.line i).state = .steady
          ∧ (t.line i).filtered = t.lineLevel i ∧ (t.line i).effective = t.lineLevel i)
      ∧ (∀ u, 1 ≤ u → u ≤ 8 → UnitRederived u s t
          ∧ ((t.unit u).mode = (s.unit u).mode →
              let expiry := (s.unit u).entry + (t.unitCfg u).discrepDelay * 1000000
              (t.unit u).timer = (match (s.unit u).timer with
                | .running _ => if expiry ≤ s.tsc.e then .expired else .running expiry
                | .stopped => .stopped
                | .expired => .expired)))
      ∧ ((∀ r ∈ t.evq.records, r.delivered = false)
          ∧ t.ntc.conditions.getLsbD 9 = decide (t.cfg.watermark ≤ t.evq.records.length)
          ∧ (s.spacious → t.shu.schedule.length ≤ 6 → ∀ n, s.evq.nextSeq = some n →
              s.evq.records.map (fun r => { r with delivered := false }) <+: t.evq.records
              ∧ t.evq.records[s.evq.records.length]? = some
                  { seq := n, detail := .restart false t.stc.state, injected := false, delivered := false, station := false
                    source := 0
                    date := { epoch := s.tsc.epoch, cls := s.dsc.effClass, s := s.tsc.s, us := s.tsc.n / 1000 } }
              ∧ t.evq.lostTotal = s.evq.lostTotal ∧ t.evq.lostTrips = s.evq.lostTrips
              ∧ t.evq.overwritten = s.evq.overwritten))
      ∧ t.ntc.flags.getLsbD 8 = true ∧ t.ntc.conditions &&& t.ntc.flags = t.ntc.conditions
      ∧ t.stc.store = s.stc.store ∧ t.stc.state = s.stc.store.judge ∧ t.stc.holdup = s.stc.holdup

/-- HOLDUP asserted requests a save with the trigger HOLDUP and makes SUPPLY_LOW hold; released, it ends SUPPLY_LOW and
touches no save (R173, R179). That a level that does not change does nothing is the model's choice: entry 3. -/
def Obligations.HoldupChangesOfLevel : Prop :=
  ∀ s : State,
    (s.stc.holdup = false → ∃ t, exec .holdupAssertion s = .next t
      ∧ t.stc.holdup = true ∧ t.ntc.conditions.getLsbD 12 = true
      ∧ (s.ntc.conditions.getLsbD 12 = false → t.ntc.flags.getLsbD 12 = true)
      ∧ (s.stc.inFlight = none → ∃ f, t.stc.inFlight = some f ∧ f.trigger = .holdup ∧ f.start = s.tsc.e
          ∧ f.snapshot.isSome = true ∧ t.stc.queued = s.stc.queued)
      ∧ (s.stc.inFlight.isSome = true → t.stc.inFlight = s.stc.inFlight
          ∧ t.stc.queued = some (s.stc.queued.getD .holdup) ∧ Unchanged [.stc, .ntc] s t)
      ∧ t.stc.store = s.stc.store ∧ Unchanged Part.saving s t)
    ∧ (s.stc.holdup = true → exec .holdupRelease s = .next { s with
        stc := { s.stc with holdup := false }
        ntc := { s.ntc with conditions := s.ntc.conditions &&& ~~~0x1000#14 } })
    ∧ (s.stc.holdup = true → exec .holdupAssertion s = .next s)
    ∧ (s.stc.holdup = false → exec .holdupRelease s = .next s)

/-! ### The clock and the feed -/

/-- A second boundary (R1, R6, R11, R12, R49, R151): S advances or wraps with N at 0, E by the same steered time, the pending
leap by the table of R11; and with no other event at it or before it, U grows in HOLDOVER, the minute tracker advances, and the entry
of a new minute fires. That the command brings time to the boundary, and the part of a µs that E counts on from, are the
model's choices: entries 3 and 6. -/
def Obligations.SecondBoundaryAdvancesOneSecond : Prop :=
  ∀ s : State, s.tsc.inRange →
    ∃ t, exec .secondBoundary s = .next t
      ∧ t.tsc.s = (if s.tsc.s = 2 ^ 40 - 1 then 0 else s.tsc.s + 1) ∧ t.tsc.n = 0 ∧ t.tsc.epoch = s.tsc.epoch
      ∧ t.tsc.e = s.tsc.e + (s.tsc.eSub + (1000000000 - s.tsc.n)) / 1000
      ∧ (let civil : Int := (t.tsc.s : Int) - s.tsc.leap
         match s.tsc.pendingLeap with
         | none => t.tsc.leap = s.tsc.leap ∧ t.tsc.pendingLeap = none
         | some p =>
             let meets := (p.direction = .insert ∧ civil % 86400 = 0) ∨ (p.direction = .delete ∧ civil % 86400 = 86399)
             let from' : Int := match p.direction with | .insert => p.target - 1 | .delete => p.target + 1
             t.tsc.leap = (if meets ∧ s.tsc.leap = from' then p.target else s.tsc.leap)
               ∧ t.tsc.pendingLeap = (if meets then none else some p))
      ∧ (s.quiet (s.tsc.elapsed + (1000000000 - s.tsc.n) + 1) →
          (t.dsc.state = s.dsc.state ∧ t.dsc.f = s.dsc.f ∧ t.dsc.c = s.dsc.c
            ∧ t.dsc.u = (match s.dsc.state with
                | .holdover => min (s.dsc.u + s.cfg.holdDrift) 4294967295
                | .free => 4294967295
                | .acquire | .locked => s.dsc.u))
          ∧ AdvanceLeaves (((t.tsc.s : Int) - t.tsc.leap + 60 * s.cfg.localOffset) / 60) s t
          ∧ Unchanged (Part.firing ++ [.clock, .leap, .dsc, .ftx]) s t)

/-- What a second boundary puts on the FEED line (R63 to R70): the boundary is dropped while the line is busy, and else
the action level decides. The class read is the one before or after the growth of U at this boundary (R64). No other event
comes at the boundary or before it, to which the command brings time (the model's choice: entry 3). -/
def Obligations.BoundaryFeedFollowsTheActionLevel : Prop :=
  ∀ s : State, s.tsc.inRange → s.quiet (s.tsc.elapsed + (1000000000 - s.tsc.n) + 1) →
    ∃ t cls, exec .secondBoundary s = .next t ∧ (cls = s.dsc.effClass ∨ cls = t.dsc.effClass)
      ∧ (let level := max (if s.dsc.state = .holdover then s.cfg.feedActHold else 0)
          (max (if s.cfg.feedClassLimit < cls then s.cfg.feedActClass else 0)
            (if s.dsc.state = .free then s.cfg.feedActFree else 0))
         let covered : List Byte :=
          [byteOf s.cfg.feedId,
           byteOf (cls % 8 + (if t.tsc.pendingLeap.isSome then 8 else 0)
             + (if t.tsc.pendingLeap.map (·.direction) = some .delete then 16 else 0) + (if level = 1 then 32 else 0))]
            ++ beBytes 5 (((t.tsc.s : Int) - t.tsc.leap) % 2 ^ 40).toNat ++ beSigned 1 t.tsc.leap
            ++ [byteOf s.ftx.sequence]
         t.ftx =
          if s.ftx.transmission.isSome then { s.ftx with enable := s.cfg.feedEnable }
          else if s.cfg.feedEnable = false ∨ level = 3 then { s.ftx with enable := s.cfg.feedEnable }
          else if level = 2 then
            { enable := true, sequence := s.ftx.sequence, transmission := some (.brk (t.tsc.e + 13542)) }
          else
            { enable := true, sequence := (s.ftx.sequence + 1) % 256
              transmission := some (.frame ([0xC3, 0x3C] ++ covered ++ checkBytes covered) (t.tsc.e + 13542)) })

/-- The ends on the serial lines: of a transmission on FEED (R68), of a reply (R186), and of a frame in assembly whose
gap expiry is reached (R183, R184). An instant still ahead, with nothing else before it, is first brought on (the model's
choice: entry 3). -/
def Obligations.LineActivityEnds : Prop :=
  ∀ s : State,
    (∀ x, s.ftx.transmission = some x → s.quietTo x.endAt →
      exec .feedTransmissionEnd s = .next { s with tsc := s.tsc.reach x.endAt, ftx := { s.ftx with transmission := none } })
    ∧ (∀ r, s.lkc.reply = some r → s.quietTo r.endAt →
      exec .replyEnd s = .next { s with tsc := s.tsc.reach r.endAt, lkc := { s.lkc with reply := none } })
    ∧ (∀ at', s.lkc.gap = some at' → s.quietTo at' →
      exec .gapExpiry s = .next { s with
        tsc := s.tsc.reach at'
        lkc := { s.lkc with receive := none, gap := none, gapErr := min (s.lkc.gapErr + 1) 65535, linkErr := true } })
    ∧ (s.ftx.transmission = none → exec .feedTransmissionEnd s = .next s)
    ∧ (s.lkc.reply = none → exec .replyEnd s = .next s)
    ∧ (s.lkc.gap = none → exec .gapExpiry s = .next s)
    ∧ ∀ at', s.tsc.inRange → (s.tsc.reach at').e = max s.tsc.e at' ∧ (at' ≤ s.tsc.e → s.tsc.reach at' = s.tsc)

/-! ### Readings -/

/-- The TRD reply, all from the instant the request is taken; it is served during a save and while HOLDUP is asserted
(R5, R16, 12.4). -/
def Obligations.TrdReadsTheTimeScale : Prop :=
  ∀ (tag : Byte) (s : State), s.lkc.reply = none →
    let local' : Int := (s.tsc.s : Int) - s.tsc.leap + 60 * s.cfg.localOffset
    let leap : List Byte := match s.tsc.pendingLeap with
      | none => [0, 0]
      | some p => (match p.direction with | .insert => 1 | .delete => 2) :: beSigned 1 p.target
    let body : List Byte :=
      [byteOf s.tsc.epoch, byteOf s.dsc.effClass] ++ beBytes 5 s.tsc.s ++ beBytes 3 (s.tsc.n / 1000)
        ++ beBytes 8 (s.tsc.e % 2 ^ 64) ++ beSigned 1 s.tsc.leap ++ leap ++ beSigned 2 s.cfg.localOffset
        ++ beSigned 4 (local' / 86400) ++ beBytes 2 (local' % 86400 / 60).toNat
    exec (.trd tag) s = .next (s.answered 0x10 tag .ok body)

/-- The TLRD reply reads the accumulators as a checkpoint now would leave them, and changes no tally; any unit but 1 to
8 is PARAM (R128, R139, 12.4). The EOH it shows is the sum of baseline, the weighted seconds over 9,216, and starts and
trips by their weights, held at 4,294,967,295 (R132, R133). -/
def Obligations.TlrdReadsTheTallies : Prop :=
  (∀ (tag unit : Byte) (s : State), s.lkc.reply = none →
    let u := unit.toNat
    let g := s.unit u
    let now := s.tsc.e
    let inMode := if g.mode = .none then 0 else min ((now - g.entry) / 1000000) 4294967295
    let after (m : Mode) : Acc :=
      let a := g.tally.accs.get m
      let d := a.rem + (now - g.ecp.getD now)
      if g.mode ≠ m then a
      else if 4294967295 < a.secs + d / 1000000 then ⟨4294967295, 999999⟩
      else ⟨a.secs + d / 1000000, d % 1000000⟩
    let timer : List Byte := match g.timer with
      | .stopped => [0, 0]
      | .running x => [1, byteOf (max ((x - now + 999999) / 1000000) 1)]
      | .expired => [2, 0]
    let body : List Byte :=
      [unit, byteOf g.mode.code] ++ g.entryDate.bytes ++ beBytes 4 inMode
        ++ [Mode.still, .spin, .gen, .pump, .cond, .indet].flatMap (fun m =>
            beBytes 4 (after m).secs ++ beBytes 3 (after m).rem)
        ++ beBytes 2 g.tally.starts ++ beBytes 2 g.tally.trips ++ [flagByte g.tally.sat] ++ timer
        ++ [byteOf (s.unitCfg u).group] ++ beBytes 4 g.tally.baseline ++ beBytes 4 (s.eoh u)
        ++ beBytes 4 g.tally.limit ++ [flagByte g.tally.due]
    (1 ≤ u ∧ u ≤ 8 → exec (.tlrd tag unit) s = .next (s.answered 0x30 tag .ok body))
    ∧ (¬(1 ≤ u ∧ u ≤ 8) → exec (.tlrd tag unit) s = .next (s.answered 0x30 tag .param [])))
  ∧ (∀ (u : Nat) (s : State),
    let a := (s.unit u).reading s.tsc.e
    let w := s.unitCfg u
    let t := (s.unit u).tally
    let sigma := ([(Mode.still, w.wStill), (.spin, w.wSpin), (.gen, w.wGen), (.pump, w.wPump), (.cond, w.wCond),
      (.indet, w.wIndet)].map (fun p => (a.get p.1).secs * p.2)).sum
    let total := t.baseline + sigma / 9216 + t.starts * w.startWeight + t.trips * w.tripWeight
    s.eoh u = if 4294967295 < total then 4294967295 else total)

/-- SHST, SCHR and SHHS read the shift unit and change no state: the open handover and the shift, in every state and while
HOLDUP is asserted; the schedule in stored order; one record of the history, newest first (R145, R165, R166, 12.4). -/
def Obligations.ShiftUnitIsRead : Prop :=
  (∀ (tag : Byte) (s : State), s.lkc.reply = none →
    let state : Byte := match s.shu.state with | .onShift => 0 | .handover => 1 | .overdue => 2
    let left := match s.shu.state, s.shu.window with
      | .handover, some w => max ((w.expiry - s.tsc.e + 999999) / 1000000) 1
      | _, _ => 0
    let body : List Byte :=
      [state, byteOf (s.shu.expected.getD 0), if s.shu.release then 1 else 0, if s.shu.accept then 1 else 0]
        ++ beBytes 2 left ++ s.shu.current.bytes ++ [byteOf s.shu.openTrips.length, if s.shu.overflow then 1 else 0]
        ++ s.shu.openTrips.flatMap (fun x =>
            beBytes 4 x.seq ++ [byteOf x.unit, byteOf x.date.epoch, byteOf x.date.cls] ++ beBytes 5 x.date.s
              ++ beBytes 3 x.date.us)
    exec (.shst tag) s = .next (s.answered 0x42 tag .ok body))
  ∧ (∀ (tag : Byte) (s : State), s.lkc.reply = none →
    let body : List Byte := byteOf s.shu.schedule.length :: s.shu.schedule.flatMap (fun x =>
      beBytes 2 x.start ++ [byteOf x.crew, byteOf x.window])
    (s.stc.holdup = true → exec (.schr tag) s = .next (s.answered 0x41 tag .busy []))
    ∧ (s.stc.holdup = false → exec (.schr tag) s = .next (s.answered 0x41 tag .ok body)))
  ∧ (∀ (tag index : Byte) (s : State), s.lkc.reply = none →
    let body (r : ShiftRecord) : List Byte :=
      [byteOf s.shu.history.length]
        ++ beBytes 4 r.number ++ [byteOf r.crew, byteOf r.kind.code, byteOf r.nextCrew]
        ++ [byteOf r.openDate.epoch, byteOf r.openDate.cls] ++ beBytes 5 r.openDate.s ++ beBytes 3 r.openDate.us
        ++ beBytes 2 r.duration
        ++ r.units.toList.flatMap (fun x =>
            beBytes 5 x.genUs ++ beBytes 5 x.pumpUs ++ [byteOf x.starts, byteOf x.trips])
        ++ [byteOf r.stationTrips, byteOf r.worstClass] ++ beBytes 2 r.steps
        ++ [byteOf r.missed, if r.overdue then 1 else 0, if r.loss then 1 else 0]
    (s.stc.holdup = true → exec (.shhs tag index) s = .next (s.answered 0x47 tag .busy []))
    ∧ (s.stc.holdup = false → s.shu.history.length ≤ index.toNat →
        exec (.shhs tag index) s = .next (s.answered 0x47 tag .param []))
    ∧ ∀ r, s.stc.holdup = false → s.shu.history[index.toNat]? = some r →
        exec (.shhs tag index) s = .next (s.answered 0x47 tag .ok (body r)))

/-- DISC reads the discipline in every state and during a save, changes no state, and is BUSY while HOLDUP is asserted
(R59, laid out by 12.4). -/
def Obligations.DiscReadsTheDiscipline : Prop :=
  ∀ (tag : Byte) (s : State), s.lkc.reply = none →
    let d := s.dsc
    let state : Byte := match d.state with | .free => 0 | .acquire => 1 | .locked => 2 | .holdover => 3
    let view : Byte := match d.view with | none => 0 | some .a => 1 | some .b => 2
    let prev : List Byte := match d.prev with
      | none => List.replicate 14 0
      | some p => [1, (match p.source with | .a => 1 | .b => 2)] ++ beSigned 8 p.e ++ beSigned 4 p.c
    let sum : Int := max (-(2 ^ 63 - 1)) (min d.sum (2 ^ 63 - 1))
    let body : List Byte :=
      [state, view] ++ beSigned 4 d.f ++ beSigned 4 d.c ++ beBytes 4 d.u
        ++ [byteOf (uClass d.u), byteOf d.srcClass, byteOf d.effClass, byteOf d.count, byteOf (2 ^ s.cfg.freqWindow)]
        ++ beSigned 8 sum ++ prev ++ [byteOf d.lock, if d.oneShot then 1 else 0]
    (s.stc.holdup = true → exec (.disc tag) s = .next (s.answered 0x14 tag .busy []))
    ∧ (s.stc.holdup = false → exec (.disc tag) s = .next (s.answered 0x14 tag .ok body))

/-- IDNT names the part, its capacities, the link rate and the store state, also while HOLDUP is asserted (R189). CFGR answers
the value in force of an entry that exists, PARAM for any other (R192). Neither changes any state. -/
def Obligations.PartAndEntriesAreRead : Prop :=
  (∀ (tag : Byte) (s : State), s.lkc.reply = none →
    let store : Byte := match s.stc.state with | .valid => 0 | .blank => 1 | .corrupt => 2
    exec (.idnt tag) s = .next (s.answered 0x03 tag .ok
      [0x08, 0x32, 1, 8, 32, 0x01, 0x40, 8, 16, 16, 6, s.lkc.rate.setWidth 8, store]))
  ∧ (∀ (tag item index : Byte) (s : State), s.lkc.reply = none →
    (s.stc.holdup = true → exec (.cfgr tag item index) s = .next (s.answered 0x06 tag .busy []))
    ∧ (s.stc.holdup = false →
        (∀ it i, (it, i) ∈ entries → it.number = item.toNat → i = index.toNat →
          exec (.cfgr tag item index) s =
            .next (s.answered 0x06 tag .ok ([item, index] ++ beSigned 4 (it.read s.cfg i))))
        ∧ ((∀ it i, (it, i) ∈ entries → ¬(it.number = item.toNat ∧ i = index.toNat)) →
          exec (.cfgr tag item index) s = .next (s.answered 0x06 tag .param []))))

/-! ### Requests to the receiver and the discipline -/

/-- PINJ sets or cancels the injection of one source and touches nothing else; it is refused with STATE in FREE and with
PARAM for another source (R35). -/
def Obligations.PinjSetsOneInjection : Prop :=
  ∀ (tag source : Byte) (value : BitVec 32) (count : Byte) (s : State), s.lkc.reply = none → s.stc.holdup = false →
    let injected : Option Injection := if count = 0 then none else some { value := value.toInt, remaining := count.toNat }
    (s.dsc.state = .free → exec (.pinj tag source value count) s = .next (s.answered 0x15 tag .state []))
    ∧ (s.dsc.state ≠ .free → source ≠ 1 → source ≠ 2 →
        exec (.pinj tag source value count) s = .next (s.answered 0x15 tag .param []))
    ∧ (s.dsc.state ≠ .free → source = 1 → exec (.pinj tag source value count) s = .next
        (({ s with rrx := { s.rrx with srcA := { s.rrx.srcA with injection := injected } } } : State).answered
          0x15 tag .ok []))
    ∧ (s.dsc.state ≠ .free → source = 2 → exec (.pinj tag source value count) s = .next
        (({ s with rrx := { s.rrx with srcB := { s.rrx.srcB with injection := injected } } } : State).answered
          0x15 tag .ok []))

/-- REFS reads the receiver: the selection, the preference and the revert timer, the receiver state and the last frame, both
sources and the eleven counters; with 1 it clears those counters after its reply is built, and any other value than 0 or 1 is
PARAM (R40, laid out by 12.4). It is BUSY while HOLDUP is asserted. The code of the preferred source is its item's, which the
model chooses: entry 27. -/
def Obligations.RefsReadsAndMayClear : Prop :=
  ∀ (tag selector : Byte) (s : State), s.lkc.reply = none →
    let r := s.rrx
    let a := r.countA
    let b := r.countB
    let left : Nat := match r.revert with
      | none => 0
      | some w => max ((w.expiry - s.tsc.e + 999999) / 1000000) 1
    let frame : List Byte := match r.lastFrame with
      | none => [0, 0, 0, 0, 0, 0]
      | some f => [1, f.sourceId, byteOf f.cls, if f.degraded then 1 else 0, r.lastSeq.getD 0, byteOf r.srcClass]
    let source (d : SourceData) : List Byte :=
      let state : Byte := match d.state with | .absent => 0 | .qualifying => 1 | .usable => 2 | .faulted => 3
      [state, byteOf d.qualify, byteOf d.out, byteOf d.release]
        ++ (match d.lastSample with
            | none => List.replicate 9 0
            | some e => 1 :: beSigned 8 e)
        ++ (match d.lastMark with
            | none => List.replicate 11 0
            | some l => [1, byteOf l.epoch, byteOf l.cls] ++ beBytes 5 l.s ++ beBytes 3 (l.n / 1000))
        ++ (match d.injection with
            | none => List.replicate 5 0
            | some i => beSigned 4 i.value ++ [byteOf i.remaining])
    let selection : Byte := match r.selection with | none => 0 | some .a => 1 | some .b => 2
    let preferred : Byte := match s.cfg.prefSource with | .a => 0 | .b => 1
    let state : Byte := match r.state with | .hunt => 0 | .sync => 1
    let body : List Byte :=
      [selection, preferred] ++ beBytes 2 left ++ [state, byteOf r.discards] ++ frame
        ++ source r.srcA ++ source r.srcB
        ++ [a.accepted, a.check, a.ident, a.repeated, a.mistimed, a.brk, a.stale, a.missing, b.accepted, b.spurious,
            b.missing].flatMap (beBytes 2)
    (s.stc.holdup = true → exec (.refs tag selector) s = .next (s.answered 0x13 tag .busy []))
    ∧ (s.stc.holdup = false → selector = 0 → exec (.refs tag selector) s = .next (s.answered 0x13 tag .ok body))
    ∧ (s.stc.holdup = false → selector = 1 → exec (.refs tag selector) s = .next
        (({ s with rrx := { r with
              countA := { accepted := 0, check := 0, ident := 0, repeated := 0, mistimed := 0, brk := 0, stale := 0, missing := 0 }
              countB := { accepted := 0, spurious := 0, missing := 0 } } } : State).answered 0x13 tag .ok body))
    ∧ (s.stc.holdup = false → selector ≠ 0 → selector ≠ 1 →
        exec (.refs tag selector) s = .next (s.answered 0x13 tag .param []))

/-- A taken TSET steps station time to the host's value, sets U to the carried uncertainty, restarts the window and
leaves FREE (R8, R14, R49, R57); from HOLDOVER the step moves the local minute, which may fire the schedule (R13, R152); it
is refused with STATE in ACQUIRE and LOCKED and with PARAM for µs above 999,999. -/
def Obligations.TsetStepsToTheHostsTime : Prop :=
  ∀ (tag : Byte) (seconds : BitVec 40) (micros : BitVec 24) (uncertainty : BitVec 32) (s : State),
    s.lkc.reply = none → s.stc.holdup = false →
    (s.dsc.state = .acquire ∨ s.dsc.state = .locked →
      exec (.tset tag seconds micros uncertainty) s = .next (s.answered 0x11 tag .state []))
    ∧ (s.dsc.state = .free ∨ s.dsc.state = .holdover → 999999 < micros.toNat →
      exec (.tset tag seconds micros uncertainty) s = .next (s.answered 0x11 tag .param []))
    ∧ (s.dsc.state = .free ∨ s.dsc.state = .holdover → micros.toNat ≤ 999999 →
      ∃ m t : State, m.lkc = s.lkc ∧ t = m.answered 0x11 tag .ok []
        ∧ exec (.tset tag seconds micros uncertainty) s = .next t
        ∧ (t.tsc.s = seconds.toNat ∧ t.tsc.n = micros.toNat * 1000 ∧ t.tsc.epoch = (s.tsc.epoch + 1) % 256
            ∧ t.tsc.e = s.tsc.e ∧ t.tsc.leap = s.tsc.leap
            ∧ t.tsc.pendingLeap = (if (seconds.toNat - s.tsc.leap) / 86400 = (s.tsc.s - s.tsc.leap) / 86400
                then s.tsc.pendingLeap else none))
        ∧ t.dsc.u = uncertainty.toNat ∧ t.dsc.f = s.dsc.f ∧ t.dsc.lock = 0 ∧ t.dsc.sum = 0 ∧ t.dsc.count = 0
        ∧ t.dsc.prev = none ∧ t.dsc.c = clampInt (-s.dsc.f) (-(s.cfg.slewLimit : Int)) s.cfg.slewLimit
        ∧ (s.dsc.state = .holdover → t.dsc.state = .holdover ∧ t.rrx = s.rrx ∧ MoveLeaves false s.localCount t.localCount s t)
        ∧ (s.dsc.state = .free → NothingFires s t ∧ t.tsc.tracker = some (LocalMinute.ofCount t.localCount))
        ∧ (s.dsc.state = .free → s.dsc.view = none → s.rrx.selection = none → s.rrx.srcA.state ≠ .usable →
            s.rrx.srcB.state ≠ .usable → t.dsc.state = .holdover
            ∧ t.tsc.tracker = some (LocalMinute.ofCount ((t.tsc.s - t.tsc.leap + 60 * s.cfg.localOffset) / 60)))
        ∧ (s.dsc.state = .free → s.dsc.view = some .a → s.rrx.selection = some .a → s.rrx.srcA.state = .usable →
            (s.cfg.prefSource = .a ∨ s.rrx.srcB.state ≠ .usable) → t.dsc.state = .acquire)
        ∧ Unchanged (.lkc :: Part.disciplining) s t)

/-- TACQ makes the state ACQUIRE with ONE_SHOT in LOCKED, and in HOLDOVER when a source is in the view; else it is
refused with STATE (R45, R56, R58). Taken from LOCKED it stops supervision, and the counts of both sources are 0 (R34). -/
def Obligations.TacqAsksForAFreshAcquisition : Prop :=
  ∀ (tag : Byte) (s : State), s.lkc.reply = none → s.stc.holdup = false →
    (s.dsc.state = .locked ∨ s.dsc.state = .holdover ∧ s.dsc.view.isSome = true →
      ∃ m t : State, m.lkc = s.lkc ∧ t = m.answered 0x12 tag .ok [] ∧ exec (.tacq tag) s = .next t
        ∧ t.dsc = { s.dsc with state := .acquire, oneShot := true, lock := 0, sum := 0, count := 0, prev := none
                               effClass := t.dsc.classNow }
        ∧ t.rrx = { s.rrx with srcA := { s.rrx.srcA with out := 0, release := 0 }
                               srcB := { s.rrx.srcB with out := 0, release := 0 } }
        ∧ t.ntc.flags.getLsbD 3 = true
        ∧ Unchanged (.dsc :: .rrx :: .lkc :: Part.recording) s t)
    ∧ (¬(s.dsc.state = .locked ∨ s.dsc.state = .holdover ∧ s.dsc.view.isSome = true) →
        exec (.tacq tag) s = .next (s.answered 0x12 tag .state []))

/-! ### Requests to the lines -/

/-- LNST reads one line or all of them and then sets the bounce count of each line it reports to 0, and nothing else;
another selector is PARAM, and LNST is BUSY while HOLDUP
is asserted (R90, 12.4). -/
def Obligations.LnstReadsAndClearsTheBounces : Prop :=
  ∀ (tag selector : Byte) (s : State), s.lkc.reply = none →
    (s.stc.holdup = true → exec (.lnst tag selector) s = .next (s.answered 0x23 tag .busy []))
    ∧ (s.stc.holdup = false →
    let i := selector.toNat
    let levels (j : Nat) : Byte :=
      byteOf ((if (s.line j).pinHigh then 1 else 0) + (if s.lineLevel j then 2 else 0)
        + (if (s.line j).filtered then 4 else 0) + (if (s.line j).effective then 8 else 0))
    (32 < i → exec (.lnst tag selector) s = .next (s.answered 0x23 tag .param []))
    ∧ (1 ≤ i → i ≤ 32 →
        let c := s.lineCfg i
        let x := s.line i
        let pending : List Byte := match x.pending with
          | none => List.replicate 13 0
          | some p => [1, if p.level then 1 else 0] ++ (dateOf p.raw).bytes
              ++ [byteOf (max ((p.expiry - s.tsc.e + 999) / 1000) 1)]
        let quiet := match x.quiet with | none => 0 | some at' => max ((at' - s.tsc.e + 999) / 1000) 1
        let recent := (x.recent.filter (fun at' => decide (s.tsc.e < at' + s.cfg.chatterWindow * 1000000))).length
        let body : List Byte :=
          [selector, byteOf c.kind.code, byteOf c.unit, if c.activeLow then 1 else 0, byteOf c.filter] ++ beBytes 2 c.comp
            ++ [if c.record then 1 else 0, if c.notify then 1 else 0, levels i, byteOf x.state.code] ++ pending
            ++ [byteOf recent] ++ beBytes 2 quiet ++ [byteOf x.bounce]
        exec (.lnst tag selector) s = .next ((s.setLine i { x with bounce := 0 }).answered 0x23 tag .ok body))
    ∧ (i = 0 → ∃ m : State, Unchanged [.lqu] s m ∧ (∀ j, 1 ≤ j → j ≤ 32 → m.line j = { s.line j with bounce := 0 })
        ∧ exec (.lnst tag selector) s = .next (m.answered 0x23 tag .ok ((List.range 32).flatMap (fun j =>
            [byteOf (s.line (j + 1)).state.code, levels (j + 1), byteOf (s.line (j + 1)).bounce])))))

/-- A taken EINJ asks for one injected record of the line's kind, dated now, and changes no line, tally or shift; PARAM
and STATE by R89. Only an injected trip raises TRIP. -/
def Obligations.EinjPlacesOneInjectedRecord : Prop :=
  ∀ (tag line level : Byte) (s : State), s.lkc.reply = none → s.stc.holdup = false →
    let i := line.toNat
    let c := s.lineCfg i
    let g := s.unit c.unit
    let trip : Detail :=
      if c.unit = 0 then .trip 0 .none 0 0
      else .trip c.unit g.mode (if g.mode = .none then 0 else min ((s.tsc.e - g.entry) / 1000000) 4294967295) g.tally.trips
    let detail : Detail :=
      if c.kind = .trip then (if level = 1 then trip else .tripclr c.unit) else .edge (decide (level = 1)) c.kind c.unit
    let record : Placement :=
      { detail := detail, source := i, injected := true, station := decide (c.unit = 0)
        date := some { epoch := s.tsc.epoch, cls := s.dsc.effClass, s := s.tsc.s, us := s.tsc.n / 1000 } }
    (¬(1 ≤ i ∧ i ≤ 32) ∨ (level ≠ 0 ∧ level ≠ 1) →
      exec (.einj tag line level) s = .next (s.answered 0x24 tag .param []))
    ∧ (1 ≤ i → i ≤ 32 → (level = 0 ∨ level = 1) → c.kind = .unused →
      exec (.einj tag line level) s = .next (s.answered 0x24 tag .state []))
    ∧ (1 ≤ i → i ≤ 32 → (level = 0 ∨ level = 1) → c.kind ≠ .unused →
      let placed := s.place record
      let told := if c.kind = .trip ∧ level = 1 ∧ c.notify = true then placed.raise .trip else placed
      exec (.einj tag line level) s = .next (told.answered 0x24 tag .ok []))

/-! ### Requests to the queue -/

/-- EFLS leaves the FLUSHED record alone in the queue, ends the exhausted state and counts no loss; it answers the number
removed and the number of the FLUSHED record. It is BUSY while HOLDUP is asserted (R106). -/
def Obligations.EflsLeavesOneRecord : Prop :=
  ∀ (tag : Byte) (s : State), s.lkc.reply = none →
    (s.stc.holdup = true → exec (.efls tag) s = .next (s.answered 0x22 tag .busy []))
    ∧ (s.stc.holdup = false →
    let seq := s.evq.nextSeq.getD 0
    let removed := s.evq.records.length
    ∃ m : State, exec (.efls tag) s = .next (m.answered 0x22 tag .ok (beBytes 2 removed ++ beBytes 4 seq))
      ∧ m.evq = { s.evq with
          records := [{ seq := seq, detail := .flushed removed, injected := false, delivered := false, station := false
                        source := 0, date := { epoch := s.tsc.epoch, cls := s.dsc.effClass, s := s.tsc.s
                                               us := s.tsc.n / 1000 } }]
          nextSeq := if seq = 4294967295 then none else some (seq + 1) }
      ∧ m.ntc = s.ntc.hand .queueLevel (decide (s.cfg.watermark ≤ 1)) s.cfg.noticeMask
      ∧ Unchanged [.evq, .ntc] s m)

/-- EFCH hands the oldest records with their flags as they stood, and marks exactly those DELIVERED; any number wanted but
1 to 8 is PARAM (R107, 12.3, 12.4). It is served during a save and while HOLDUP is asserted. -/
def Obligations.EfchHandsAndMarksTheOldest : Prop :=
  ∀ (tag wanted : Byte) (s : State), s.lkc.reply = none →
    let k := wanted.toNat
    let q := s.evq
    let marked := q.records.mapIdx (fun i r => if i < k then { r with delivered := true } else r)
    let flags (r : Record) : Byte :=
      byteOf ((if r.injected then 1 else 0) + (if r.delivered then 2 else 0) + (if r.station then 4 else 0))
    let body : List Byte :=
      beBytes 2 q.records.length ++ [byteOf (marked.countP (·.delivered))] ++ beBytes 4 q.lostTotal
        ++ beBytes 2 q.lostTrips ++ beBytes 4 q.overwritten ++ [byteOf (min k q.records.length)]
        ++ (q.records.take k).flatMap (fun r =>
            beBytes 4 r.seq ++ [byteOf r.detail.kindCode, flags r, byteOf r.source] ++ r.date.bytes ++ r.detail.bytes)
    (1 ≤ k → k ≤ 8 → exec (.efch tag wanted) s = .next
      (({ s with evq := { q with records := marked } } : State).answered 0x20 tag .ok body))
    ∧ (¬(1 ≤ k ∧ k ≤ 8) → exec (.efch tag wanted) s = .next (s.answered 0x20 tag .param []))

/-- EREL removes the delivered record of that number and every record older than it; PARAM when no held record has it or
it is not delivered (R108). -/
def Obligations.ErelReleasesUpToADeliveredRecord : Prop :=
  ∀ (tag : Byte) (seq : BitVec 32) (s : State), s.lkc.reply = none →
    ((∀ r ∈ s.evq.records, ¬(r.seq = seq.toNat ∧ r.delivered = true)) →
      exec (.erel tag seq) s = .next (s.answered 0x21 tag .param []))
    ∧ ∀ older r newer, s.evq.records = older ++ r :: newer → r.seq = seq.toNat → r.delivered = true →
        (∀ r' ∈ older, r'.seq ≠ seq.toNat) →
        exec (.erel tag seq) s = .next
          ((({ s with evq := { s.evq with records := newer } } : State).hand .queueLevel
              (decide (s.cfg.watermark ≤ newer.length))).answered
            0x21 tag .ok (beBytes 2 (older.length + 1) ++ beBytes 2 newer.length))

/-- A record that arrives is placed at the newest end with the next number, or lost by the policy in force; the queue
never loses without counting, and reports it (R98 to R104). Under OVERWRITE the oldest undelivered record that is no TRIP makes
room, and only for a TRIP, with none of those left, the oldest undelivered TRIP (R102). That a newest marker keeps its counts
while the numbers are exhausted is the model's choice: entry 39. -/
def Obligations.PlacingOrLosingIsCounted : Prop :=
  ∀ (p : Placement) (s : State), s.evq.records.length ≤ 320 →
    let q := s.evq
    let q' := (s.place p).evq
    let depth := q.records.length
    let isTrip := p.detail.isTrip = true
    let marker := (q.records.getLast?.map (·.detail.isMarker)).getD false
    let room := match s.cfg.queuePolicy with
      | .stop => depth ≤ 318
      | .overwrite => depth < 320 ∨ (∃ r ∈ q.records, r.delivered = false ∧ r.detail.isTrip = false)
          ∨ (isTrip ∧ ∃ r ∈ q.records, r.delivered = false ∧ r.detail.isTrip = true)
    (∀ n, q.nextSeq = some n → room →
      (∃ r, q'.records.getLast? = some r ∧ r.seq = n ∧ r.detail = p.detail ∧ r.source = p.source ∧ r.delivered = false
        ∧ r.injected = p.injected ∧ r.station = p.station ∧ r.date = p.date.getD s.dateNow)
      ∧ q'.nextSeq = (if n = 4294967295 then none else some (n + 1))
      ∧ q'.lostTotal = q.lostTotal ∧ q'.lostTrips = q.lostTrips
      ∧ (depth < 320 → q'.records.dropLast = q.records ∧ q'.overwritten = q.overwritten)
      ∧ (depth = 320 → q'.records.length = 320 ∧ q'.overwritten = min (q.overwritten + 1) 4294967295
          ∧ (s.place p).ntc.flags.getLsbD 1 = true ∧ (s.place p).shu.current.loss = true))
    ∧ (∀ n older r newer, q.nextSeq = some n → s.cfg.queuePolicy = .overwrite → depth = 320 →
        q.records = older ++ r :: newer → r.delivered = false →
        (r.detail.isTrip = false ∧ (∀ y ∈ older, y.delivered = true ∨ y.detail.isTrip = true)
          ∨ isTrip ∧ r.detail.isTrip = true ∧ (∀ y ∈ q.records, y.delivered = true ∨ y.detail.isTrip = true)
            ∧ ∀ y ∈ older, y.delivered = true) →
        q'.records.dropLast = older ++ newer)
    ∧ (q.nextSeq = none ∨ ¬ room →
      q'.lostTotal = min (q.lostTotal + 1) 4294967295
      ∧ q'.lostTrips = min (q.lostTrips + (if isTrip then 1 else 0)) 65535
      ∧ q'.overwritten = q.overwritten
      ∧ (s.place p).ntc.flags.getLsbD 1 = true ∧ (s.place p).shu.current.loss = true)
    ∧ (q.nextSeq = none ∨ ¬ room → q.nextSeq = none ∨ s.cfg.queuePolicy = .overwrite ∨ depth = 320 ∧ marker = false →
        q'.records = q.records ∧ q'.nextSeq = q.nextSeq)
    ∧ (∀ n, q.nextSeq = some n → s.cfg.queuePolicy = .stop → depth = 319 → marker = false →
        q'.records = q.records ++ [{ seq := n, detail := .overflow 1 (if isTrip then 1 else 0), injected := false
                                     delivered := false, station := false, source := 0, date := s.dateNow }])
    ∧ (∀ older r a b, q.nextSeq.isSome = true → s.cfg.queuePolicy = .stop → 319 ≤ depth → q.records = older ++ [r] →
        r.detail = .overflow a b →
        q'.records = older ++ [{ r with
            detail := .overflow (min (a + 1) 65535) (min (b + (if isTrip then 1 else 0)) 65535) }]
          ∧ q'.nextSeq = q.nextSeq)

/-! ### Requests to the tallies -/

/-- TLPS books the open interval of each selected unit, sets the one field, evaluates SAT and leaves the shift's counts
alone; the reply carries the number of units (R118, R129). That the second byte of the selector ALL may be anything is the
model's choice: entry 35. -/
def Obligations.TlpsPresetsOneField : Prop :=
  ∀ (tag selector n field : Byte) (value : BitVec 32) (s : State), s.accepts .tlps →
    let units : Option (List Nat) :=
      if selector = 1 then (if 1 ≤ n.toNat ∧ n.toNat ≤ 8 then some [n.toNat] else none)
      else if selector = 2 then
        (if 1 ≤ n.toNat ∧ n.toNat ≤ 7 then some ((List.range' 1 8).filter (fun u => (s.unitCfg u).group = n.toNat)) else none)
      else if selector = 3 then some (List.range' 1 8) else none
    (units = none ∨ field = 0 ∨ 9 < field.toNat ∨ ((field = 7 ∨ field = 8) ∧ 65535 < value.toNat) →
      exec (.tlps tag selector n field value) s = .next (s.answered 0x31 tag .param []))
    ∧ ∀ us, units = some us → 1 ≤ field.toNat → field.toNat ≤ 9 →
        ((field = 7 ∨ field = 8) → value.toNat ≤ 65535) →
        ∃ (f : TallyField) (m : State), f.code = field.toNat
          ∧ exec (.tlps tag selector n field value) s = .next (m.answered 0x31 tag .ok [byteOf us.length])
          ∧ (∀ u ∈ us, (m.unit u).tally.field f = value.toNat
              ∧ (∀ g, g ≠ f → (m.unit u).tally.field g = ((s.unit u).checkpoint s.tsc.e).tally.field g)
              ∧ ((m.unit u).tally.sat = true ↔ ∃ mode, mode ≠ Mode.none ∧ ((m.unit u).tally.accs.get mode).secs = 4294967295)
              ∧ (m.unit u).mode = (s.unit u).mode ∧ (m.unit u).entry = (s.unit u).entry
              ∧ (m.unit u).timer = (s.unit u).timer
              ∧ ((m.unit u).tally.due = true ↔ (m.unit u).tally.limit ≤ m.eoh u))
          ∧ (∀ u ∈ us, ∀ mode : Mode, mode.code = field.toNat → ((m.unit u).tally.accs.get mode).rem = 0)
          ∧ (∀ u, u ∉ us → m.unit u = s.unit u)
          ∧ m.shu.current.units.map (fun x => (x.starts, x.trips)) = s.shu.current.units.map (fun x => (x.starts, x.trips))
          ∧ Unchanged (.tlu :: Part.recording) s m

/-- MSET sets the limit of each selected unit and evaluates it; it books nothing (R134, R138). That the second byte of the
selector ALL may be anything is the model's choice: entry 35. -/
def Obligations.MsetSetsTheLimit : Prop :=
  ∀ (tag selector n : Byte) (limit : BitVec 32) (s : State), s.accepts .mset →
    let units : Option (List Nat) :=
      if selector = 1 then (if 1 ≤ n.toNat ∧ n.toNat ≤ 8 then some [n.toNat] else none)
      else if selector = 2 then
        (if 1 ≤ n.toNat ∧ n.toNat ≤ 7 then some ((List.range' 1 8).filter (fun u => (s.unitCfg u).group = n.toNat)) else none)
      else if selector = 3 then some (List.range' 1 8) else none
    (units = none → exec (.mset tag selector n limit) s = .next (s.answered 0x32 tag .param []))
    ∧ ∀ us, units = some us → ∃ m : State,
        exec (.mset tag selector n limit) s = .next (m.answered 0x32 tag .ok [byteOf us.length])
        ∧ (∀ u ∈ us, m.unit u = { s.unit u with tally := { (s.unit u).tally with
              limit := limit.toNat, due := decide (limit.toNat ≤ s.eoh u) } })
        ∧ (∀ u, u ∉ us → m.unit u = s.unit u)
        ∧ Unchanged (.tlu :: Part.recording) s m

/-- The periodic evaluation and the discrepancy timer (R123, R134, R136): each unit's flag is set exactly when its EOH is
at or above its limit; a running timer that reaches its expiry becomes EXPIRED and DISCREPANCY holds. With nothing else
before it, time is brought to the instant of the command (the model's choice: entry 3). -/
def Obligations.TallyTimersAct : Prop :=
  ∀ s : State,
    (s.quietTo s.tlu.nextEval → ∃ t, exec .periodicEvaluation s = .next t ∧ t.tlu.nextEval = s.tlu.nextEval + 60000000
      ∧ t.tsc = s.tsc.reach s.tlu.nextEval
      ∧ (∀ u, 1 ≤ u → u ≤ 8 → t.unit u = { s.unit u with tally := { (s.unit u).tally with
          due := decide ((s.unit u).tally.limit ≤ t.eoh u) } })
      ∧ Unchanged (.tlu :: .clock :: Part.recording) s t)
    ∧ (∀ u at', 1 ≤ u → u ≤ 8 → (s.unit u).timer = .running at' → s.quietTo at' →
      ∃ t, exec (.discrepancyTimerExpiry u) s = .next t ∧ t.tsc = s.tsc.reach at'
        ∧ t.unit u = { s.unit u with timer := .expired } ∧ (∀ v, v ≠ u → t.unit v = s.unit v)
        ∧ t.ntc.conditions.getLsbD 11 = true
        ∧ (s.evq.records.length ≤ 318 → ∀ n, s.evq.nextSeq = some n → ∃ r, t.evq.records = s.evq.records ++ [r]
            ∧ r.seq = n ∧ r.source = u
            ∧ r.detail = .discrep u (s.statusLevel u .breaker) (s.statusLevel u .speed) (s.statusLevel u .pump)
                (s.statusLevel u .cond))
        ∧ Unchanged (.tlu :: .clock :: Part.recording) s t)
    ∧ (∀ u, 1 ≤ u → u ≤ 8 → (∀ at', (s.unit u).timer ≠ .running at') → exec (.discrepancyTimerExpiry u) s = .next s)

/-! ### Requests to the shift unit -/

/-- A taken SCHW sorts the entries, clamps each window into 5 to 120 and then to the gap to the next entry, keeps the
last-fired pairs whose start minute remains, and answers CLAMPED when a window stored differs; PARAM by R144 (R15, R143). More
than 61 entries make a frame that its LEN ends: `FramesCarryTheRequests` and `BytesCarryTheFrame`. -/
def Obligations.SchwSortsAndClampsTheSchedule : Prop :=
  ∀ (tag : Byte) (xs : List ScheduleWrite) (s : State), s.accepts .schw → xs.length ≤ 61 →
    let allowed := xs.length ≤ 6 ∧ (∀ x ∈ xs, x.start.toNat ≤ 1439 ∧ 1 ≤ x.crew.toNat ∧ x.crew.toNat ≤ 15)
      ∧ xs.Pairwise (fun x y => x.start ≠ y.start)
    (¬ allowed → exec (.schw tag xs) s = .next (s.answered 0x40 tag .param []))
    ∧ (allowed → ∃ (ys : List ScheduleEntry) (r : Result),
        ys.Pairwise (fun a b => a.start < b.start) ∧ ys.length = xs.length
        ∧ (∀ i, (h : i < ys.length) → ∃ x ∈ xs, ys[i].start = x.start.toNat ∧ ys[i].crew = x.crew.toNat ∧
            (let next := ys[(i + 1) % ys.length]'(Nat.mod_lt _ (by omega))
             let gap := if ys.length = 1 then 1440 else (next.start + 1440 - ys[i].start) % 1440
             ys[i].window = min (max 5 (min 120 x.window.toNat)) gap))
        ∧ (r = .ok ↔ ∀ x ∈ xs, ∃ y ∈ ys, y.start = x.start.toNat ∧ y.window = x.window.toNat)
        ∧ (r = .ok ∨ r = .clamped)
        ∧ exec (.schw tag xs) s = .next
            (({ s with
                shu := { s.shu with schedule := ys }
                tsc := { s.tsc with lastFired := s.tsc.lastFired.filter (fun p => ys.any (fun y => y.start == p.1)) } }
              : State).answered 0x40 tag r []))

/-- HREL and HACC, judged in the order of R157 and R158, set their flag alone when they do not complete the handover. TACK
removes the entry of its seq, TACK ALL every entry and the overflow flag, in the order of judgement of R163; when the
removal does not complete a handover, nothing else changes. -/
def Obligations.HandoverRequestsAreJudged : Prop :=
  (∀ (tag crew : Byte) (s : State), s.lkc.reply = none → s.stc.holdup = false →
    let h := s.shu
    let clear := h.openTrips = [] ∧ h.overflow = false
    (15 < crew.toNat → exec (.hrel tag crew) s = .next (s.answered 0x44 tag .param [])
      ∧ exec (.hacc tag crew) s = .next (s.answered 0x45 tag .param []))
    ∧ (crew.toNat ≤ 15 → h.state = .onShift → exec (.hrel tag crew) s = .next (s.answered 0x44 tag .notdue [])
      ∧ exec (.hacc tag crew) s = .next (s.answered 0x45 tag .notdue []))
    ∧ (crew.toNat ≤ 15 → h.state ≠ .onShift → crew.toNat ≠ h.current.crew →
        exec (.hrel tag crew) s = .next (s.answered 0x44 tag .crew []))
    ∧ (crew.toNat ≤ 15 → h.state ≠ .onShift → h.expected ≠ some crew.toNat →
        exec (.hacc tag crew) s = .next (s.answered 0x45 tag .crew []))
    ∧ (crew.toNat ≤ 15 → h.state ≠ .onShift → crew.toNat = h.current.crew →
        (h.release = true ∨ h.accept = false ∨ ¬ clear) →
        exec (.hrel tag crew) s =
          .next (({ s with shu := { h with release := true } } : State).answered 0x44 tag .ok []))
    ∧ (crew.toNat ≤ 15 → h.state ≠ .onShift → h.expected = some crew.toNat →
        (h.accept = true ∨ h.release = false ∨ ¬ clear) →
        exec (.hacc tag crew) s =
          .next (({ s with shu := { h with accept := true } } : State).answered 0x45 tag .ok [])))
  ∧ (∀ (tag crew : Byte) (seq : BitVec 32) (s : State), s.lkc.reply = none → s.stc.holdup = false →
    let h := s.shu
    let may := crew.toNat = h.current.crew ∨ (h.state ≠ .onShift ∧ h.expected = some crew.toNat)
    let waits := h.state ≠ .onShift ∧ h.release = true ∧ h.accept = true
    (15 < crew.toNat → exec (.tack tag crew seq) s = .next (s.answered 0x46 tag .param [])
      ∧ exec (.tackAll tag crew) s = .next (s.answered 0x46 tag .param []))
    ∧ (crew.toNat ≤ 15 → ¬ may → exec (.tack tag crew seq) s = .next (s.answered 0x46 tag .crew [])
      ∧ exec (.tackAll tag crew) s = .next (s.answered 0x46 tag .crew []))
    ∧ (crew.toNat ≤ 15 → may → (∀ x ∈ h.openTrips, x.seq ≠ seq.toNat) →
        exec (.tack tag crew seq) s = .next (s.answered 0x46 tag .param []))
    ∧ (∀ older x newer, crew.toNat ≤ 15 → may → h.openTrips = older ++ x :: newer → x.seq = seq.toNat →
        (∀ y ∈ older, y.seq ≠ seq.toNat) → ¬(waits ∧ older ++ newer = [] ∧ h.overflow = false) →
        exec (.tack tag crew seq) s = .next (({ s with shu := { h with openTrips := older ++ newer } } : State).answered
          0x46 tag .ok [1, byteOf (older.length + newer.length)]))
    ∧ (crew.toNat ≤ 15 → may → ¬ waits →
        exec (.tackAll tag crew) s = .next (({ s with shu := { h with openTrips := [], overflow := false } } : State).answered
          0x46 tag .ok [byteOf h.openTrips.length, 0])))

/-- The request that makes the last of release, accept and a clear trip list hold completes the handover: the shift is
closed into the history, the next one opens with the incoming crew, and a save of the closed and the new shift starts when
SAVE_AT_SHIFT is 1 (R149, R150, R159, R164, R174). -/
def Obligations.LastRequestCompletesTheHandover : Prop :=
  ∀ (tag crew : Byte) (seq : BitVec 32) (s : State), s.lkc.reply = none → s.stc.holdup = false → crew.toNat ≤ 15 →
    s.shu.state ≠ .onShift → s.shu.current.number < 4294967295 →
    let h := s.shu
    let clear := h.openTrips = [] ∧ h.overflow = false
    let opening := match h.window with | some w => w.opening | none => s.tsc.e
    let completed (t : State) : Prop :=
      t.shu.state = .onShift ∧ t.shu.expected = none ∧ t.shu.release = false ∧ t.shu.accept = false ∧ t.shu.window = none
      ∧ t.shu.openTrips = [] ∧ t.shu.overflow = false ∧ t.shu.schedule = h.schedule
      ∧ t.shu.current.number = h.current.number + 1 ∧ t.shu.current.crew = h.expected.getD 0 ∧ t.shu.current.kind = .opened
      ∧ t.shu.current.worstClass = s.dsc.effClass ∧ t.shu.current.steps = 0 ∧ t.shu.current.overdue = false
      ∧ (∃ r, t.shu.history = (r :: h.history).take 16 ∧ r.number = h.current.number ∧ r.crew = h.current.crew
          ∧ r.kind = .completed ∧ r.nextCrew = h.expected.getD 0 ∧ r.duration = min ((s.tsc.e - opening) / 1000000) 65535
          ∧ r.openDate = h.current.openDate ∧ r.overdue = h.current.overdue ∧ r.missed = h.current.missed)
      ∧ t.ntc.conditions.getLsbD 13 = false
      ∧ (s.cfg.saveAtShift = true → s.stc.inFlight = none → ∃ f x, t.stc.inFlight = some f ∧ f.trigger = .shift
          ∧ f.start = s.tsc.e ∧ f.snapshot = some x ∧ x.image.current = t.shu.current ∧ x.image.history = t.shu.history)
      ∧ (s.cfg.saveAtShift = true → s.stc.inFlight.isSome = true → t.stc.inFlight = s.stc.inFlight
          ∧ t.stc.queued = some (s.stc.queued.getD .shift))
      ∧ Unchanged (.trips :: .lkc :: Part.firing) s t
    (crew.toNat = h.current.crew → h.release = false → h.accept = true → clear →
      ∃ t, exec (.hrel tag crew) s = .next t ∧ completed t)
    ∧ (h.expected = some crew.toNat → h.accept = false → h.release = true → clear →
      ∃ t, exec (.hacc tag crew) s = .next t ∧ completed t)
    ∧ (crew.toNat = h.current.crew ∨ h.expected = some crew.toNat → h.release = true → h.accept = true →
        h.overflow = false → (∃ x, h.openTrips = [x] ∧ x.seq = seq.toNat) →
      ∃ t, exec (.tack tag crew seq) s = .next t ∧ completed t)
    ∧ (crew.toNat = h.current.crew ∨ h.expected = some crew.toNat → h.release = true → h.accept = true →
      ∃ t, exec (.tackAll tag crew) s = .next t ∧ completed t)

/-- HOPN opens a handover with the window carried, clamped into 5 to 120, or MANUAL_WINDOW; STATE and PARAM by R161 (R154).
When the window of an open handover expires it is OVERDUE, with the shift's flag, the record and the condition; in any
other state the expiry does nothing (R160). With nothing else before it, time is brought to the expiry (the model's choice:
entry 3). -/
def Obligations.HandoversOpenAndGoOverdue : Prop :=
  (∀ (tag crew : Byte) (window : Option Byte) (s : State), s.lkc.reply = none → s.stc.holdup = false →
    let bad := crew = 0 ∨ 15 < crew.toNat ∨ crew.toNat = s.shu.current.crew
    let asked := match window with | some w => w.toNat | none => s.cfg.manualWindow
    let minutes := match window with | some w => max 5 (min 120 w.toNat) | none => s.cfg.manualWindow
    (s.shu.state ≠ .onShift → exec (.hopn tag crew window) s = .next (s.answered 0x43 tag .state []))
    ∧ (s.shu.state = .onShift → bad → exec (.hopn tag crew window) s = .next (s.answered 0x43 tag .param []))
    ∧ (s.shu.state = .onShift → ¬ bad → ∃ m : State,
        exec (.hopn tag crew window) s =
          .next (m.answered 0x43 tag (if minutes = asked then .ok else .clamped) [byteOf minutes])
        ∧ m.shu.state = .handover ∧ m.shu.expected = some crew.toNat ∧ m.shu.accept = false
        ∧ m.shu.release = decide (s.shu.current.crew = 0)
        ∧ m.shu.window = some { opening := s.tsc.e, expiry := s.tsc.e + minutes * 60000000 }
        ∧ m.ntc.flags.getLsbD 4 = true
        ∧ (s.evq.records.length ≤ 318 → ∀ n, s.evq.nextSeq = some n → m.evq.records = s.evq.records ++
            [{ seq := n, detail := .shift .handoverDue (s.shu.current.number % 65536) crew.toNat, injected := false
               delivered := false, station := false, source := 0, date := s.dateNow }])
        ∧ Unchanged (.handover :: Part.recording) s m))
  ∧ (∀ s : State,
    (∀ w, s.shu.state = .handover → s.shu.window = some w → s.quietTo w.expiry → ∃ t, exec .windowTimerExpiry s = .next t
      ∧ t.tsc = s.tsc.reach w.expiry ∧ t.shu.state = .overdue ∧ t.shu.expected = s.shu.expected
      ∧ t.shu.release = s.shu.release ∧ t.shu.accept = s.shu.accept ∧ t.shu.window = s.shu.window
      ∧ t.shu.current.overdue = true ∧ t.ntc.conditions.getLsbD 13 = true
      ∧ (s.evq.records.length ≤ 318 → ∀ n, s.evq.nextSeq = some n → ∃ r, t.evq.records = s.evq.records ++ [r]
          ∧ r.seq = n ∧ r.detail = .shift .overdue (s.shu.current.number % 65536) (s.shu.expected.getD 0))
      ∧ Unchanged (.clock :: .handover :: Part.recording) s t)
    ∧ (s.shu.state ≠ .handover ∨ s.shu.window = none → exec .windowTimerExpiry s = .next s))

/-! ### The store -/

/-- A save requested while none is in flight starts with a checkpoint of every monitored unit and a snapshot of the image's
items with the format byte and the check over them (R170, R199); while one is in flight it is queued, or absorbed behind the
one queued. SAVE asks for it and answers OK at once, or BUSY while HOLDUP is asserted (R173, R174, R177). The bytes that the
items lie in are a free value: entry 13. -/
def Obligations.SaveStartsQueuesOrIsAbsorbed : Prop :=
  ∀ (tag : Byte) (s : State), s.lkc.reply = none →
    (s.stc.holdup = true → exec (.save tag) s = .next (s.answered 0x07 tag .busy []))
    ∧ (s.stc.holdup = false → s.stc.inFlight.isSome = true → s.stc.queued = none →
        exec (.save tag) s =
          .next (({ s with stc := { s.stc with queued := some .save } } : State).answered 0x07 tag .ok []))
    ∧ (s.stc.holdup = false → s.stc.inFlight.isSome = true → s.stc.queued.isSome = true →
        exec (.save tag) s = .next (s.answered 0x07 tag .ok []))
    ∧ (s.stc.holdup = false → s.stc.inFlight = none → ∃ (m : State) (f : SaveInFlight) (x : StoredImage),
        let i := x.image
        exec (.save tag) s = .next (m.answered 0x07 tag .ok [])
        ∧ m.stc = { s.stc with inFlight := some f } ∧ f.trigger = .save ∧ f.start = s.tsc.e ∧ f.snapshot = some x
        ∧ x.format = 0x32 ∧ x.check = crc16 (0x32 :: Config.imageBytes i)
        ∧ (i.cfg = m.cfg ∧ i.schedule = m.shu.schedule ∧ i.current = m.shu.current ∧ i.openTrips = m.shu.openTrips
            ∧ i.overflow = m.shu.overflow ∧ i.history = m.shu.history ∧ i.f = m.dsc.f ∧ i.leap = m.tsc.leap
            ∧ ∀ u, 1 ≤ u → u ≤ 8 → nth i.tallies u = (m.unit u).tally)
        ∧ (∀ u, 1 ≤ u → u ≤ 8 → (s.unit u).mode ≠ .none → (m.unit u).ecp = some s.tsc.e)
        ∧ Unchanged Part.saving s m)

/-- The end of a save (R175, R178): the store takes the snapshot or is CORRUPT, the STORE record is asked for, STORE_FAIL is
raised on FAIL, the last save end and the autosave expiry are set, and a queued save starts at once. It ends no sooner than
30 ms after its start (the model's choice of the instant: entry 12). The autosave expiry stops and requests a save with
the trigger AUTOSAVE (R173, R178). With nothing else before it, time is brought to either (the model's choice: entry 3). -/
def Obligations.SavesEndAndFallDue : Prop :=
  (∀ (ok : Bool) (s : State),
    (s.stc.inFlight = none → exec (.saveEnd ok) s = .next s)
    ∧ ∀ f x, s.stc.inFlight = some f → f.snapshot = some x → s.quietTo (f.start + 30000) →
      ∃ t, exec (.saveEnd ok) s = .next t
        ∧ t.tsc = s.tsc.reach (f.start + 30000)
        ∧ (ok = true → t.stc.state = .valid ∧ t.stc.store = .holds x)
        ∧ (ok = false → t.stc.state = .corrupt ∧ t.stc.store.judge = .corrupt ∧ t.ntc.flags.getLsbD 7 = true)
        ∧ t.stc.lastEnd = t.tsc.e
        ∧ t.stc.autosave = (if s.cfg.autosaveHours = 0 then none
            else some (t.tsc.e + s.cfg.autosaveHours * 3600000000))
        ∧ t.stc.queued = none
        ∧ (s.stc.queued = none → t.stc.inFlight = none ∧
            (s.evq.records.length ≤ 318 → ∀ n, s.evq.nextSeq = some n → ∃ r, t.evq.records = s.evq.records ++ [r]
              ∧ r.seq = n ∧ r.detail = .store ok f.trigger))
        ∧ (∀ q, s.stc.queued = some q → ∃ g, t.stc.inFlight = some g ∧ g.trigger = q ∧ g.start = t.tsc.e
            ∧ g.snapshot.isSome = true)
        ∧ Unchanged (.clock :: Part.saving) s t)
  ∧ (∀ s : State,
    (s.stc.autosave = none → exec .autosaveExpiry s = .next s)
    ∧ ∀ at', s.stc.autosave = some at' → s.quietTo at' → ∃ t, exec .autosaveExpiry s = .next t
        ∧ t.tsc = s.tsc.reach at' ∧ t.stc.autosave = none ∧ t.stc.store = s.stc.store
        ∧ (s.stc.inFlight = none → ∃ f, t.stc.inFlight = some f ∧ f.trigger = .autosave ∧ f.start = t.tsc.e
            ∧ f.snapshot.isSome = true ∧ t.stc.queued = s.stc.queued)
        ∧ (s.stc.inFlight.isSome = true → t.stc.inFlight = s.stc.inFlight
            ∧ t.stc.queued = some (s.stc.queued.getD .autosave))
        ∧ Unchanged (.clock :: Part.saving) s t)

/-- DFLT gives every item its default, keeps the schedule, the trips, F, L and station time, and a save whose snapshot
holds the defaults starts, or stands queued behind one that a self handover at the change of LOCAL_OFFSET started
(R180). That such a SHIFT save comes first is the model's choice: entry 20. -/
def Obligations.DfltRestoresTheDefaults : Prop :=
  ∀ (tag : Byte) (s : State), s.accepts .dflt →
    ∃ m : State, exec (.dflt tag) s = .next (m.answered 0x08 tag .ok [])
      ∧ m.cfg = Settings.dflt ∧ m.ftx = s.ftx ∧ m.stc.store = s.stc.store ∧ m.lkc = s.lkc
      ∧ (∃ f x, m.stc.inFlight = some f ∧ f.snapshot = some x ∧ x.image.cfg = Settings.dflt
          ∧ (f.trigger = .dflt ∨ f.trigger = .shift ∧ m.stc.queued = some (s.stc.queued.getD .dflt)))
      ∧ m.dsc.f = s.dsc.f ∧ m.dsc.u = s.dsc.u
      ∧ (∀ i, 1 ≤ i → i ≤ 32 → (s.lineCfg i).kind ≠ .unused → (m.line i).state = .unused
          ∧ (m.line i).pending = none ∧ (m.line i).quiet = none)
      ∧ Unchanged (.rrx :: .dsc :: .lqu :: .cfg :: Part.firing) s m

/-! ### The configuration -/

/-- CFGW of an entry that exists (R73, R191): a value in its range is stored, one outside is clamped to the nearest end or
refused as the item's row says, a conflict is refused; every other entry keeps its value, but for PHASE_HYST under a new
PHASE_LIMIT. A value already in force changes nothing; a changed one is applied by its block: LOCAL_OFFSET moves the local
minute (R13, R152), REVERT_DELAY the running timer (R37), PREF_SOURCE the selection (R36, R39), SLEW_LIMIT and FREQ_WINDOW the
discipline (R60), a kind, unit or polarity its line (R87) and the mode of
the units it touches (R126), a unit's item its tally and timer (R122, R127), WATERMARK, NOTICE_MASK
and AUTOSAVE_HOURS what they rule (R105, R195, R178); every other item nothing but what is read from then on. -/
def Obligations.CfgwStoresOneEntry : Prop :=
  ∀ (tag item index : Byte) (value : BitVec 32) (s : State), s.accepts .cfgw →
    ((∀ it i, (it, i) ∈ entries → ¬(it.number = item.toNat ∧ i = index.toNat)) →
      exec (.cfgw tag item index value) s = .next (s.answered 0x05 tag .param []))
    ∧ ∀ it i, (it, i) ∈ entries → it.number = item.toNat → i = index.toNat →
      let lo := (it.range s.cfg).1
      let hi := (it.range s.cfg).2
      let v := value.toInt
      let stored := max lo (min hi v)
      let refused := (v < lo ∨ hi < v) ∧ (it.refuses = true ∨ it = .refaId ∧ v < lo)
      let x := nth (it.write s.cfg i stored).lines i
      let conflict := (it = .lineKind ∨ it = .lineUnit) ∧ x.kind.isStatus = true ∧ 1 ≤ x.unit ∧
        ∃ j, 1 ≤ j ∧ j ≤ 32 ∧ j ≠ i ∧ (s.lineCfg j).kind = x.kind ∧ (s.lineCfg j).unit = x.unit
      (refused → exec (.cfgw tag item index value) s = .next (s.answered 0x05 tag .param []))
      ∧ (¬ refused → conflict → exec (.cfgw tag item index value) s = .next (s.answered 0x05 tag .conflict []))
      ∧ (¬ refused → ¬ conflict → ∃ (m : State) (r : Result),
          exec (.cfgw tag item index value) s = .next (m.answered 0x05 tag r ([item, index] ++ beSigned 4 stored))
          ∧ it.read m.cfg i = stored
          ∧ (∀ jt j, (jt, j) ∈ entries → (jt, j) ≠ (it, i) → (jt = .phaseHyst → it ≠ .phaseLimit) →
              jt.read m.cfg j = jt.read s.cfg j)
          ∧ (it = .phaseLimit → it.read s.cfg i ≠ stored → (m.cfg.phaseHyst : Int) = min (s.cfg.phaseHyst : Int) (stored / 2))
          ∧ (r = .ok ∨ r = .clamped)
          ∧ (r = .clamped ↔ stored ≠ v ∨ it = .phaseLimit ∧ stored / 2 < (s.cfg.phaseHyst : Int))
          ∧ (it.read s.cfg i = stored → m = s)
          ∧ (it.read s.cfg i ≠ stored →
              let us (k : Int) : Nat := k.toNat * 1000000
              let other (p : Source) : Source := match p with | .a => .b | .b => .a
              let eligible (y : Source) := (s.rrx.src y).state = .usable ∧ ¬(y = .b ∧ s.dsc.state = .free)
              (it = .localOffset → MoveLeaves false s.localCount m.localCount s m)
              ∧ (it = .revertDelay →
                  (s.rrx.revert = none → m.rrx = s.rrx)
                  ∧ ∀ w, s.rrx.revert = some w →
                    (s.tsc.e < w.start + us stored →
                      m.rrx = { s.rrx with revert := some { start := w.start, expiry := w.start + us stored } })
                    ∧ (w.start + us stored ≤ s.tsc.e → m.rrx.revert = none
                      ∧ (eligible s.cfg.prefSource → m.rrx.selection = some s.cfg.prefSource)))
              ∧ (it = .prefSource →
                  let p := m.cfg.prefSource
                  let stays := s.rrx.selection = some (other p) ∧ eligible (other p) ∧ eligible p
                  (stays → m.rrx.selection = some (other p)
                    ∧ m.rrx.revert = some (s.rrx.revert.getD { start := s.tsc.e, expiry := s.tsc.e + s.cfg.revertDelay * 1000000 }))
                  ∧ (¬ stays → m.rrx.revert = none
                      ∧ (eligible p → m.rrx.selection = some p)
                      ∧ (¬ eligible p → eligible (other p) → m.rrx.selection = some (other p))
                      ∧ (¬ eligible p → ¬ eligible (other p) → m.rrx.selection = none)))
              ∧ (it = .slewLimit →
                  let c := match s.dsc.state with
                    | .free | .holdover => max (-stored) (min (-s.dsc.f) stored)
                    | .acquire | .locked => max (-stored) (min s.dsc.c stored)
                  let keeps := s.dsc.state = .free ∨ s.dsc.state = .holdover ∨ c = s.dsc.c
                  m.dsc = { s.dsc with c := c, prev := if keeps then s.dsc.prev else none, effClass := m.dsc.effClass })
              ∧ (it = .freqWindow → m.dsc = { s.dsc with sum := 0, count := 0 })
              ∧ (it = .watermark → m.ntc.conditions.getLsbD 9 = decide (stored ≤ (s.evq.records.length : Int))
                  ∧ (s.ntc.conditions.getLsbD 9 = false → stored ≤ (s.evq.records.length : Int) → m.ntc.flags.getLsbD 9 = true))
              ∧ (it = .noticeMask → m.ntc = { s.ntc with attn := decide (s.ntc.flags &&& ~~~m.cfg.noticeMask ≠ 0) })
              ∧ (it = .autosaveHours →
                  let at' := s.stc.lastEnd + stored.toNat * 3600000000
                  (stored = 0 → m.stc = { s.stc with autosave := none })
                  ∧ (stored ≠ 0 → s.tsc.e < at' → m.stc = { s.stc with autosave := some at' })
                  ∧ (stored ≠ 0 → at' ≤ s.tsc.e → m.stc.autosave = none
                      ∧ ∃ f, m.stc.inFlight = some f ∧ f.trigger = .autosave ∧ f.start = s.tsc.e ∧ f.snapshot.isSome = true))
              ∧ (it ∈ [Item.unitGroup, .weightStill, .weightSpin, .weightGen, .weightPump, .weightCond, .weightIndet, .startWeight,
                    .tripWeight, .modeRecord, .discrepDelay] →
                  let g := s.unit i
                  let h := m.unit i
                  h.mode = g.mode ∧ h.entry = g.entry ∧ h.entryDate = g.entryDate
                  ∧ h.ecp = (g.checkpoint s.tsc.e).ecp ∧ h.tally.accs = (g.checkpoint s.tsc.e).tally.accs
                  ∧ h.tally.starts = g.tally.starts ∧ h.tally.trips = g.tally.trips
                  ∧ (h.tally.due = true ↔ h.tally.limit ≤ m.eoh i)
                  ∧ (it ≠ .discrepDelay → h.timer = g.timer)
                  ∧ (it = .discrepDelay → h.timer = (match g.timer with
                      | .running _ => if g.entry + us stored ≤ s.tsc.e then .expired else .running (g.entry + us stored)
                      | .stopped => .stopped
                      | .expired => .expired))
                  ∧ (∀ u, u ≠ i → m.unit u = s.unit u) ∧ m.tlu.nextEval = s.tlu.nextEval)
              ∧ (it ∈ [Item.refaId, .refaMatch, .delayA, .delayB, .phaseLimit, .phaseHyst, .faultCount, .lockLimit, .stepLimit,
                    .stepAllow, .phaseGain, .holdDrift, .feedEnable, .feedId, .feedClassLimit, .feedActHold, .feedActClass,
                    .feedActFree, .lineFilter, .lineComp, .lineRecord, .lineNotify, .chatterCount, .chatterWindow, .queuePolicy,
                    .saveAtShift, .manualWindow] → m = { s with cfg := m.cfg }))
          ∧ (it.read s.cfg i ≠ stored → (it = .lineKind ∨ it = .lineUnit ∨ it = .linePolarity) →
              (m.line i).pending = none ∧ (m.line i).quiet = none ∧ (m.line i).bounce = (s.line i).bounce
              ∧ (m.line i).pinHigh = (s.line i).pinHigh
              ∧ ((m.lineCfg i).kind ≠ .unused → (m.line i).state = .steady ∧ (m.line i).effective = m.lineLevel i
                  ∧ (m.line i).filtered = m.lineLevel i)
              ∧ ∀ u, 1 ≤ u → u ≤ 8 →
                let touched := (s.lineCfg i).kind.isStatus = true ∧ (s.lineCfg i).unit = u
                  ∨ (m.lineCfg i).kind.isStatus = true ∧ (m.lineCfg i).unit = u
                (touched → UnitRederived u s m
                  ∧ ((m.unit u).mode = (s.unit u).mode → (m.unit u).timer = (s.unit u).timer))
                ∧ (¬ touched → m.unit u = s.unit u))
          ∧ m.lkc = s.lkc ∧ m.ftx = s.ftx ∧ m.tsc.epoch = s.tsc.epoch ∧ m.pending = s.pending)

/-! ### The link and the notices -/

/-- STAT answers the flags, the conditions and the mask, then clears the flags and sets those of the conditions that hold
(R194, R195, 12.4). LSTAT answers the five counters and LINK_ERR as they stood and then clears them; its summary byte shows
LINK_ERR clear (R188). Both are served during a save and while HOLDUP is asserted. -/
def Obligations.StatAndLstatReadAndClear : Prop :=
  (∀ (tag : Byte) (s : State), s.lkc.reply = none →
    exec (.stat tag) s = .next (({ s with ntc := { s.ntc with
        flags := s.ntc.conditions, attn := decide (s.ntc.conditions &&& ~~~s.cfg.noticeMask ≠ 0) } } : State).answered
      0x01 tag .ok
      (beBytes 2 s.ntc.flags.toNat ++ beBytes 2 s.ntc.conditions.toNat ++ beBytes 2 s.cfg.noticeMask.toNat)))
  ∧ (∀ (tag : Byte) (s : State), s.lkc.reply = none →
    let l := s.lkc
    let cleared : State := { s with lkc := { l with noise := 0, gapErr := 0, length := 0, check := 0, overrun := 0, linkErr := false } }
    exec (.lstat tag) s = .next (cleared.answered 0x02 tag .ok
      (beBytes 2 l.noise ++ beBytes 2 l.gapErr ++ beBytes 2 l.length ++ beBytes 2 l.check ++ beBytes 2 l.overrun
        ++ [if l.linkErr then 1 else 0]))
    ∧ cleared.summary.getLsbD 1 = false)

/-- A request met by a reply in progress is OVERRUN and changes LKC's counter and LINK_ERR alone; one that R176 or R179
refuses is answered BUSY and changes nothing else (R184, R185). -/
def Obligations.RequestsTurnedAwayChangeNothing : Prop :=
  ∀ (c : Instr) (k : Kind) (tag : Byte) (body : List Byte) (s : State), requestOf c = some (k, tag, body) →
    body.length ≤ 248 →
    (s.lkc.reply.isSome = true → exec c s = .next { s with
        lkc := { s.lkc with overrun := min (s.lkc.overrun + 1) 65535, linkErr := true } })
    ∧ (s.lkc.reply = none →
        (s.stc.inFlight.isSome = true ∧ k ∈ [Kind.cfgw, .tlps, .mset, .schw, .dflt, .rstrt])
          ∨ (s.stc.holdup = true ∧ k ∉ [Kind.stat, .lstat, .idnt, .trd, .tlrd, .shst, .efch, .erel]) →
        exec c s = .next (s.answered k.code tag .busy []))

/-- A complete frame whose check is wrong, or that meets a reply in progress, is counted and gets no reply; a KIND that is
no request kind is answered UNKNOWN, and a body where the kind has none BADLEN; nothing else changes (R184, R185). -/
def Obligations.FramesAreJudgedInOrder : Prop :=
  ∀ (kind tag : Byte) (body : List Byte) (check : BitVec 16) (s : State), body.length ≤ 248 →
    let right := check = crc16 ([byteOf (body.length + 2), kind, tag] ++ body)
    let kinds : List Byte :=
      [0x01, 0x02, 0x03, 0x04, 0x05, 0x06, 0x07, 0x08, 0x10, 0x11, 0x12, 0x13, 0x14, 0x15, 0x20, 0x21, 0x22, 0x23, 0x24,
       0x30, 0x31, 0x32, 0x40, 0x41, 0x42, 0x43, 0x44, 0x45, 0x46, 0x47]
    let bodiless : List Byte := [0x01, 0x02, 0x03, 0x04, 0x07, 0x08, 0x10, 0x12, 0x14, 0x22, 0x41, 0x42]
    (¬ right → exec (.requestFrame kind tag body check) s = .next { s with
        lkc := { s.lkc with check := min (s.lkc.check + 1) 65535, linkErr := true } })
    ∧ (right → s.lkc.reply.isSome = true → exec (.requestFrame kind tag body check) s = .next { s with
        lkc := { s.lkc with overrun := min (s.lkc.overrun + 1) 65535, linkErr := true } })
    ∧ (right → s.lkc.reply = none → kind ∉ kinds →
        exec (.requestFrame kind tag body check) s = .next (s.answered kind tag .unknown []))
    ∧ (right → s.lkc.reply = none → kind ∈ bodiless → body ≠ [] →
        exec (.requestFrame kind tag body check) s = .next (s.answered kind tag .badlen []))

/-- A reply frame (R186, R197, 12.2): SOF, LEN in two bytes, KIND with 0x80 added, TAG, RESULT, SUMMARY, the body and the
check; it ends 10 bit times a byte after it is built, in µs rounded up. The rounding, and the sum's wrap within its
byte for a KIND of 0x80 or above, are the model's choices: entries 15 and 40. -/
def Obligations.ReplyFramesAreLaidOut : Prop :=
  ∀ (kind tag : Byte) (r : Result) (body : List Byte) (s : State),
    let sent := if r = .ok ∨ r = .clamped then body else []
    let covered : List Byte := beBytes 2 (sent.length + 4) ++ [kind + 0x80, tag, r.code, s.summary] ++ sent
    let frame := [0xA7] ++ covered ++ beBytes 2 (crc16 covered).toNat
    let rate := if s.lkc.rate = 0 then 19200 else if s.lkc.rate = 1 then 57600 else if s.lkc.rate = 2 then 115200 else 230400
    ∃ endAt, s.answered kind tag r body = { s with lkc := { s.lkc with reply := some { bytes := frame, endAt := endAt } } }
      ∧ frame.length * 10 * 1000000 ≤ (endAt - s.tsc.e) * rate
      ∧ (endAt - s.tsc.e) * rate < frame.length * 10 * 1000000 + rate
      ∧ (s.summary.getLsbD 0 = s.ntc.flags.getLsbD 8 ∧ s.summary.getLsbD 1 = s.lkc.linkErr
          ∧ s.summary.getLsbD 2 = s.ntc.attn ∧ s.summary.getLsbD 3 = decide (s.dsc.effClass ≤ s.cfg.feedClassLimit)
          ∧ s.summary.getLsbD 4 = s.stc.inFlight.isSome
          ∧ s.summary.getLsbD 5 = s.evq.records.any (fun x => !x.delivered))

/-- The frame of a request row, taken whole with its right check, does what the row does, also a schedule of more entries than
a frame can hold (R183, R185, 12.4). -/
def Obligations.FramesCarryTheRequests : Prop :=
  ∀ (c : Instr) (k : Kind) (tag : Byte) (body : List Byte) (s : State), requestOf c = some (k, tag, body) →
    ∃ t, exec (.requestFrame k.code tag body (crc16 (requestCovered k.code tag body))) s = .next t ∧ exec c s = .next t

/-- The bytes of a frame, begun and completed one after another in HUNT, do what the whole frame does (R183, R184). One whose
LEN is above 250 counts LENGTH and sets LINK_ERR, and the bytes after LEN are judged in HUNT. A LEN that its byte cannot hold
is taken as above 250 (the model's choice: entry 28). -/
def Obligations.BytesCarryTheFrame : Prop :=
  (∀ (kind tag : Byte) (body : List Byte) (check : BitVec 16) (s : State), body.length ≤ 253 →
    s.lkc.receive = none → s.lkc.gap = none → s.lkc.begun = false →
    ∃ t, exec (.requestFrame kind tag body check) s = .next t
      ∧ ExecAll (byteMoments ([0xA7] ++ requestCovered kind tag body ++ beBytes 2 check.toNat)) s t)
  ∧ (∀ (kind tag : Byte) (body : List Byte) (check : BitVec 16) (s : State), 248 < body.length →
    let ended : State := { s with lkc := { s.lkc with
      receive := none, gap := none, length := min (s.lkc.length + 1) 65535, linkErr := true } }
    ∃ t, exec (.requestFrame kind tag body check) s = .next t
      ∧ ExecAll (byteMoments (kind :: tag :: body ++ beBytes 2 check.toNat)) ended t)

/-- A byte that begins stops the gap timer, also of a frame that its bytes have not completed; one that completes in HUNT is
NOISE unless it is SOF, which starts a frame with its gap expiry; a LEN outside 2 to 250 ends it with LENGTH, and every other
byte but the last is kept and sets the gap expiry afresh (R183, R184). A start bit within a byte, and a byte without one, do
nothing (the model's choice: entry 14). -/
def Obligations.HuntAndLengthAreJudged : Prop :=
  ∀ (b : Byte) (s : State),
    let l := s.lkc
    (l.begun = false → exec (.linkByte .begins) s = .next { s with lkc := { l with begun := true, gap := none } })
    ∧ (l.begun = true → exec (.linkByte .begins) s = .next s)
    ∧ (l.begun = false → exec (.linkByte (.completes b)) s = .next s)
    ∧ (l.begun = true → l.receive = none → b ≠ 0xA7 →
      exec (.linkByte (.completes b)) s = .next { s with lkc := { l with begun := false, noise := min (l.noise + 1) 65535 } })
    ∧ (l.begun = true → l.receive = none → b = 0xA7 →
      exec (.linkByte (.completes b)) s =
        .next { s with lkc := { l with begun := false, receive := some [b], gap := some (s.tsc.e + 5000) } })
    ∧ (l.begun = true → l.receive = some [0xA7] → b.toNat < 2 ∨ 250 < b.toNat →
      exec (.linkByte (.completes b)) s = .next { s with lkc := { l with
        begun := false, receive := none, gap := none, length := min (l.length + 1) 65535, linkErr := true } })
    ∧ (l.begun = true → l.receive = some [0xA7] → 2 ≤ b.toNat → b.toNat ≤ 250 →
      exec (.linkByte (.completes b)) s = .next { s with lkc := { l with
        begun := false, receive := some [0xA7, b], gap := some (s.tsc.e + 5000) } })
    ∧ (∀ (len : Byte) (rest : List Byte), l.begun = true → l.receive = some (0xA7 :: len :: rest) →
        rest.length + 1 < len.toNat + 2 →
      exec (.linkByte (.completes b)) s = .next { s with lkc := { l with
        begun := false, receive := some (0xA7 :: len :: (rest ++ [b])), gap := some (s.tsc.e + 5000) } })

/-! ### The receiver -/

/-- A character on REF-A latches its date as it begins; as it completes it is the previous one, opens a candidate on the
latch of the 0xC3 before a 0x3C, or is appended to the candidate in hand, whatever its own latch and its stop bit, within
the 50 ms of the candidate (R19, R20, R21). A station time
message received whole does what its thirteen characters do, each begun and completed before the next: all at the instant of
the command, and a character without a start bit does nothing (the model's choices: entries 8 and 7). -/
def Obligations.CharactersCarryTheFrame : Prop :=
  (∀ (v : Byte) (stopHigh : Bool) (s : State),
    let r := s.rrx
    (r.begun = none → exec (.refaCharacter .begins stopHigh) s = .next { s with rrx := { r with begun := some s.latchNow } })
    ∧ (r.begun.isSome = true → exec (.refaCharacter .begins stopHigh) s = .next s)
    ∧ (r.begun = none → exec (.refaCharacter (.completes v) stopHigh) s = .next s)
    ∧ ∀ l, r.begun = some l →
      let taken : Receiver := { r with begun := none, prevChar := some (v, l) }
      (r.candidate = none → (v ≠ 0x3C ∨ ∀ mark, r.prevChar ≠ some (0xC3, mark)) →
        exec (.refaCharacter (.completes v) stopHigh) s = .next { s with rrx := taken })
      ∧ (∀ mark, r.candidate = none → v = 0x3C → r.prevChar = some (0xC3, mark) → s.tsc.e < mark.e + 50000 →
          (r.state = .sync → s.expects mark) →
        exec (.refaCharacter (.completes v) stopHigh) s = .next { s with rrx := { taken with
          candidate := some { mark := mark, bytes := [0xC3, 0x3C] } } })
      ∧ ∀ c, r.candidate = some c → c.bytes.length < 12 → s.tsc.e ≤ c.mark.e + 50000 →
        exec (.refaCharacter (.completes v) stopHigh) s = .next { s with rrx := { taken with
          candidate := some { mark := c.mark, bytes := c.bytes ++ [v] } } })
  ∧ ∀ (m : StationMessage) (check : BitVec 16) (s : State),
    ∃ t, exec (.refaFrame m check) s = .next t
      ∧ ExecAll (characterMoments ([0xC3, 0x3C, m.sourceId, m.status] ++ beBytes 5 m.civil.toNat ++ [m.leap, m.sequence]
          ++ beBytes 2 check.toNat)) s t

/-- An accepted frame (R22, R24, R25, R27, R31 to R33): SYNC, the mark with its instants, the frame's fields, the source
class, the counter, the sample, the qualification and the supervision of REF-A; L is adopted with its report to the minute
tracker, and the pending leap is the one announced, unless the frame's own sample steps over a civil day after it (R8, R9, R10,
R13). Its sample takes a discipline that follows REF-A on, with the source class (R51), and the first
one of FREE leaves FREE for ACQUIRE, by a step when it is at STEP_LIMIT whatever STEP_ALLOW holds, and sets the minute tracker
with nothing fired (R14, R52); an L that the frame brings may move the minute after that (entry 11). The out and release counts
follow the supervision (R32 to R34). That the mark that makes a source usable is not supervised, and that a whole frame comes
at one instant, are the model's choices: entries 17 and 8. -/
def Obligations.AcceptedFramesAreTaken : Prop :=
  ∀ (mark : Latch) (m : StationMessage) (check : BitVec 16) (c : Instr) (s : State), FrameArrives mark m check c s →
    check = crc16 ([m.sourceId, m.status] ++ beBytes 5 m.civil.toNat ++ [m.leap, m.sequence]) →
    m.sourceId ≠ 0 →
    (s.cfg.refaId = 255 ∨ s.cfg.refaId ≠ 255 ∧ s.cfg.refaMatchHigh = false ∧ m.sourceId.toNat = s.cfg.refaId
      ∨ s.cfg.refaId ≠ 255 ∧ s.cfg.refaMatchHigh = true ∧ m.sourceId.toNat / 16 = s.cfg.refaId / 16) →
    s.rrx.lastSeq ≠ some m.sequence → s.tsc.epoch = mark.epoch →
    let a := s.rrx.srcA
    let cls := m.status.toNat % 8
    let degraded := m.status.getLsbD 5
    let srcClass := min (cls + if degraded then 1 else 0) 6
    let exact' : Int := (mark.s * 1000000000 + mark.n : Nat) - (s.cfg.delayA : Int)
      - ((m.civil.toNat : Int) + m.leap.toInt) * 1000000000
    let e := max (-(2 ^ 63 - 1)) (min exact' (2 ^ 63 - 1))
    let j := match a.injection with | some i => i.value | none => e
    let judged := s.dsc.state = .locked ∨ s.dsc.state = .holdover
    let target := if m.status.getLsbD 4 then m.leap.toInt - 1 else m.leap.toInt + 1
    let announced : Option PendingLeap :=
      if m.status.getLsbD 3 ∧ -128 ≤ target ∧ target ≤ 127 then
        some { direction := if m.status.getLsbD 4 then .delete else .insert, target := target }
      else none
    ∃ t, exec c s = .next t
      ∧ (t.rrx.state = .sync ∧ t.rrx.begun = none ∧ t.rrx.prevChar = none ∧ t.rrx.candidate = none ∧ t.rrx.discards = 0
          ∧ t.rrx.lastSeq = some m.sequence
          ∧ t.rrx.lastFrame = some { sourceId := m.sourceId, cls := cls, degraded := degraded }
          ∧ t.rrx.srcClass = srcClass
          ∧ t.rrx.countA = { s.rrx.countA with accepted := min (s.rrx.countA.accepted + 1) 65535 })
      ∧ (t.rrx.srcA.lastMark = some mark ∧ t.rrx.srcA.nextMissing = some (mark.e + 1500000)
          ∧ t.rrx.srcA.absentAt = some (mark.e + 8000000) ∧ t.rrx.srcA.lastSample = some e)
      ∧ t.rrx.srcA.injection = (match a.injection with
          | some i => if i.remaining ≤ 1 then none else some { i with remaining := i.remaining - 1 }
          | none => none)
      ∧ (t.rrx.srcA.state = (match a.state with
          | .absent => .qualifying
          | .qualifying => if 3 ≤ a.qualify then .usable else .qualifying
          | .usable => if judged ∧ s.cfg.phaseLimit < j.natAbs ∧ s.cfg.faultCount ≤ a.out then .faulted else .usable
          | .faulted =>
              if judged ∧ j.natAbs < max (s.cfg.phaseLimit - s.cfg.phaseHyst) s.dsc.u ∧ s.cfg.faultCount ≤ a.release
              then .usable else .faulted)
          ∧ (a.state = .absent → t.rrx.srcA.qualify = 1)
          ∧ (a.state = .qualifying → a.qualify < 3 → t.rrx.srcA.qualify = a.qualify + 1))
      ∧ (t.tsc.leap = m.leap.toInt ∧ (t.tsc.pendingLeap = announced ∨ t.tsc.pendingLeap = none)
          ∧ (t.tsc.epoch = s.tsc.epoch → t.tsc.pendingLeap = announced)
          ∧ (s.dsc.state ≠ .free → t.tsc.epoch = s.tsc.epoch → MoveLeaves true s.localCount t.localCount s t))
      ∧ (s.dsc.state ≠ .free → s.rrx.selection = some .a → a.state = .usable →
          (judged → a.injection = none ∧ e.natAbs ≤ s.cfg.phaseLimit) → SampleLeaves .a e srcClass s t)
      ∧ CountsLeave .a j s t
      ∧ (s.dsc.state = .free →
          a.state = .qualifying ∧ 3 ≤ a.qualify ∧ s.rrx.selection = none
            ∨ a.state = .usable ∧ s.rrx.selection = some .a ∧ s.dsc.view = some .a →
          let before : Int := ((t.tsc.s : Int) - s.tsc.leap + 60 * s.cfg.localOffset) / 60
          let atOnce := t.tsc.tracker = some (LocalMinute.ofCount t.localCount) ∧ NothingFires s t
          t.dsc.state = .acquire ∧ t.dsc.view = some .a ∧ t.rrx.selection = some .a ∧ SampleLeaves .a e srcClass s t
          ∧ (m.leap.toInt = s.tsc.leap → atOnce)
          ∧ (atOnce ∨ MoveLeaves true before t.localCount
              { s with tsc := { s.tsc with tracker := some (LocalMinute.ofCount before) } } t)
          ∧ (s.cfg.stepLimit ≤ e.natAbs → s.roomy → ∃ r ∈ t.evq.records.drop s.evq.records.length,
              r.detail = .step (max (-(2 ^ 47 - 1)) (min (((t.tsc.s * 1000000000 + t.tsc.n : Nat)
                - (s.tsc.s * 1000000000 + s.tsc.n : Nat) : Int).tdiv 1000) (2 ^ 47 - 1))) .acquire))
      ∧ Unchanged Part.disciplining s t

/-- A discarded candidate is counted under its reason, forgotten, and in SYNC brings the receiver nearer to HUNT; the instants of
REF-A that it deferred are taken then (R21 to R24, R29), and nothing else changes. A candidate that stalls for 50 ms is MISTIMED,
also one that opens on a mark as old, and none whose time is over takes another character (R2); a break discards the one in hand and goes to HUNT. The characters of a frame after a MISTIMED opening are searched as any others.
A whole frame comes at one instant, and time is brought to the time-out (the model's choices: entries 8 and 3). -/
def Obligations.DiscardedCandidatesAreCounted : Prop :=
  let left (s : State) (c : CountersA) : State :=
    let third := s.rrx.state = .sync ∧ 2 ≤ s.rrx.discards
    { s with rrx := { s.rrx with
        countA := c, candidate := none, prevChar := none
        state := if third then .hunt else s.rrx.state
        discards := if s.rrx.state = .hunt then s.rrx.discards else if third then 0 else s.rrx.discards + 1 } }
  let broken (s : State) : State :=
    { s with rrx := { s.rrx with
        countA := { s.rrx.countA with brk := min (s.rrx.countA.brk + 1) 65535 }
        begun := none, candidate := none, prevChar := none, state := .hunt, discards := 0 } }
  let ended (s : State) : State := { s with rrx := { s.rrx with begun := none } }
  (∀ (mark : Latch) (m : StationMessage) (check : BitVec 16) (c : Instr) (s : State), FrameArrives mark m check c s →
    let k := s.rrx.countA
    let good := check = crc16 ([m.sourceId, m.status] ++ beBytes 5 m.civil.toNat ++ [m.leap, m.sequence])
    let known := m.sourceId ≠ 0 ∧
      (s.cfg.refaId = 255 ∨ s.cfg.refaId ≠ 255 ∧ s.cfg.refaMatchHigh = false ∧ m.sourceId.toNat = s.cfg.refaId
        ∨ s.cfg.refaId ≠ 255 ∧ s.cfg.refaMatchHigh = true ∧ m.sourceId.toNat / 16 = s.cfg.refaId / 16)
    let fresh := s.rrx.lastSeq ≠ some m.sequence
    let discards (counts : CountersA) : Prop := DiscardLeaves c mark.e s (left (ended s) counts)
    (¬ good → discards { k with check := min (k.check + 1) 65535 })
    ∧ (good → ¬ known → discards { k with ident := min (k.ident + 1) 65535 })
    ∧ (good → known → ¬ fresh → discards { k with repeated := min (k.repeated + 1) 65535 })
    ∧ (good → known → fresh → s.tsc.epoch ≠ mark.epoch → discards { k with stale := min (k.stale + 1) 65535 }))
  ∧ (∀ (mark : Latch) (s : State),
      s.rrx.state = .sync ∧ ¬ s.expects mark ∨ mark.e + 50000 ≤ s.tsc.e → s.rrx.candidate = none →
      let late : State := left (ended s) { s.rrx.countA with mistimed := min (s.rrx.countA.mistimed + 1) 65535 }
      (∀ stopHigh : Bool, s.rrx.begun.isSome = true → s.rrx.prevChar = some (0xC3, mark) →
        DiscardLeaves (.refaCharacter (.completes 0x3C) stopHigh) mark.e s late)
      ∧ ∀ (m : StationMessage) (check : BitVec 16), s.rrx.begun = none → mark = s.latchNow →
        ∃ t, exec (.refaFrame m check) s = .next t
          ∧ ExecAll (characterMoments ([m.sourceId, m.status] ++ beBytes 5 m.civil.toNat ++ [m.leap, m.sequence]
              ++ beBytes 2 check.toNat)) late t)
  ∧ (∀ (s : State) (c : Candidate), s.rrx.candidate = some c → s.quietTo (c.mark.e + 50000) →
      let late : State := { s with tsc := s.tsc.reach (c.mark.e + 50000) }
      DiscardLeaves .candidateTimeout c.mark.e s
        (left late { s.rrx.countA with mistimed := min (s.rrx.countA.mistimed + 1) 65535 }))
  ∧ (∀ s : State, s.rrx.candidate = none → exec .candidateTimeout s = .next s)
  ∧ (∀ (v : Byte) (stopHigh : Bool) (s : State) (c : Candidate), s.rrx.candidate = some c → s.rrx.begun.isSome = true →
      c.mark.e + 50000 < s.tsc.e →
      DiscardLeaves (.refaCharacter (.completes v) stopHigh) c.mark.e s
        (left (ended s) { s.rrx.countA with mistimed := min (s.rrx.countA.mistimed + 1) 65535 }))
  ∧ (∀ (s : State) (c : Candidate), s.rrx.candidate = some c → DiscardLeaves .refaBreak c.mark.e s (broken s))
  ∧ ∀ s : State, s.rrx.candidate = none → exec .refaBreak s = .next (broken s)

/-- A pulse less than 0.9 s after the last accepted one is SPURIOUS and changes its counter alone; any other is accepted:
the mark with its instants, the counter, the sample but in FREE, and the qualification and supervision of REF-B (R26, R28,
R31 to R33), with the out and release counts (R34). That the mark that makes a source usable is not supervised is the model's
choice: entry 17. -/
def Obligations.PulsesAreAcceptedOrSpurious : Prop :=
  ∀ s : State,
    let b := s.rrx.srcB
    let k := s.rrx.countB
    let tooSoon := ∃ l : Latch, b.lastMark = some l ∧ s.tsc.e < l.e + 900000
    let v := ((s.tsc.n : Int) - s.cfg.delayB) % 1000000000
    let e := if v < 500000000 then v else v - 1000000000
    let j := match b.injection with | some i => i.value | none => e
    let judged := s.dsc.state = .locked ∨ s.dsc.state = .holdover
    (tooSoon → exec .refbPulse s =
      .next { s with rrx := { s.rrx with countB := { k with spurious := min (k.spurious + 1) 65535 } } })
    ∧ (¬ tooSoon → ∃ t, exec .refbPulse s = .next t
        ∧ t.rrx.srcB.lastMark = some { s := s.tsc.s, n := s.tsc.n, epoch := s.tsc.epoch, e := s.tsc.e, cls := s.dsc.effClass }
        ∧ t.rrx.srcB.nextMissing = some (s.tsc.e + 1500000) ∧ t.rrx.srcB.absentAt = some (s.tsc.e + 8000000)
        ∧ t.rrx.countB = { k with accepted := min (k.accepted + 1) 65535 }
        ∧ t.rrx.srcB.lastSample = (if s.dsc.state = .free then b.lastSample else some e)
        ∧ t.rrx.srcB.state = (match b.state with
            | .absent => .qualifying
            | .qualifying => if 3 ≤ b.qualify then .usable else .qualifying
            | .usable => if judged ∧ s.cfg.phaseLimit < j.natAbs ∧ s.cfg.faultCount ≤ b.out then .faulted else .usable
            | .faulted =>
                if judged ∧ j.natAbs < max (s.cfg.phaseLimit - s.cfg.phaseHyst) s.dsc.u ∧ s.cfg.faultCount ≤ b.release
                then .usable else .faulted)
        ∧ (b.state = .absent → t.rrx.srcB.qualify = 1)
        ∧ (b.state = .qualifying → b.qualify < 3 → t.rrx.srcB.qualify = b.qualify + 1)
        ∧ CountsLeave .b j s t
        ∧ Unchanged Part.disciplining s t)

/-- A sample of the selected source, here a pulse of REF-B outside FREE (R43 to R53): the frequency window, F at its end, c by
the steering formula, U, the lock count that makes LOCKED at 8, and the previous sample; the deciding sample of HOLDOVER leads to
LOCKED or, at STEP_LIMIT, to ACQUIRE; a sample that steps moves station time back by e, leaves U at 0, restarts the window (R8)
and moves the local minute (R13, R152). -/
def Obligations.SamplesSteerThePart : Prop :=
  ∀ s : State, s.dsc.state ≠ .free → s.rrx.selection = some .b → s.rrx.srcB.state = .usable →
    (∀ l : Latch, s.rrx.srcB.lastMark = some l → l.e + 900000 ≤ s.tsc.e) →
    let v := ((s.tsc.n : Int) - s.cfg.delayB) % 1000000000
    let e := if v < 500000000 then v else v - 1000000000
    (s.dsc.state ≠ .acquire → s.rrx.srcB.injection = none ∧ e.natAbs ≤ s.cfg.phaseLimit) →
    let acquiring := s.dsc.state = .acquire ∨ s.dsc.state = .holdover ∧ s.cfg.stepLimit ≤ e.natAbs
    let steps := acquiring ∧ s.cfg.stepLimit ≤ e.natAbs ∧ (s.dsc.oneShot = true ∨ s.cfg.stepAllow = true)
    ∃ t, exec .refbPulse s = .next t ∧ SampleLeaves .b e 0 s t ∧ t.tsc.leap = s.tsc.leap
      ∧ (¬ steps → t.tsc = s.tsc ∧ Unchanged (.rrx :: .dsc :: Part.recording) s t)
      ∧ (steps → MoveLeaves false s.localCount t.localCount s t
          ∧ (s.roomy → ∃ r ∈ t.evq.records.drop s.evq.records.length, r.detail = .step (max (-(2 ^ 47 - 1)) (min (((t.tsc.s * 1000000000 + t.tsc.n : Nat)
                - (s.tsc.s * 1000000000 + s.tsc.n : Nat) : Int).tdiv 1000) (2 ^ 47 - 1)))
              (if s.dsc.oneShot then .forcedAcquire else .acquire))
          ∧ Unchanged Part.disciplining s t)

/-- The instants of a source and the revert timer (R29 to R31, R36, R37): a missing sample is counted, judged against the
source and names the next instant; the 8-second instant makes the source ABSENT and takes it from the selection; the revert
timer's expiry selects the preferred source when it is eligible. A candidate in hand defers the instants of REF-A. With nothing
else before it, time is brought to the instant of the command (the model's choice: entry 3). -/
def Obligations.SourceInstantsAreTaken : Prop :=
  ∀ s : State,
    let judged := s.dsc.state = .locked ∨ s.dsc.state = .holdover
    let changed : List Part := .clock :: .rrx :: .dsc :: Part.recording
    (∀ (x : Source) (at' : Nat), (s.rrx.src x).nextMissing = some at' → s.quietTo at' →
      let d := s.rrx.src x
      let deferred := x = .a ∧ ∃ c : Candidate, s.rrx.candidate = some c ∧ c.mark.e < at'
      (deferred → exec (.missingSample x) s = .next { s with tsc := s.tsc.reach at' })
      ∧ (¬ deferred → ∃ t, exec (.missingSample x) s = .next t ∧ t.tsc = s.tsc.reach at'
          ∧ (t.rrx.src x).nextMissing =
              (if at' + 1000000 < d.absentAt.getD 0 then some (at' + 1000000) else none)
          ∧ (x = .a → t.rrx.countA = { s.rrx.countA with missing := min (s.rrx.countA.missing + 1) 65535 })
          ∧ (x = .b → t.rrx.countB = { s.rrx.countB with missing := min (s.rrx.countB.missing + 1) 65535 })
          ∧ (t.rrx.src x).state = (if d.state = .usable ∧ judged ∧ s.cfg.faultCount ≤ d.out then .faulted else d.state)
          ∧ (d.state = .qualifying → (t.rrx.src x).qualify = 0)
          ∧ (d.state = .usable → judged → d.out < s.cfg.faultCount → (t.rrx.src x).out = d.out + 1)
          ∧ (d.state = .faulted → judged → (t.rrx.src x).release = 0)
          ∧ (t.rrx.src x).lastMark = d.lastMark ∧ (t.rrx.src x).absentAt = d.absentAt
          ∧ (t.rrx.src x).injection = d.injection ∧ (t.rrx.src x).lastSample = d.lastSample
          ∧ (d.state = .usable → d.out < s.cfg.faultCount → s.rrx.selection = some x →
              (s.dsc.state = .acquire ∨ s.dsc.state = .locked) →
              t.dsc = { s.dsc with lock := 0, sum := 0, count := 0, prev := none })
          ∧ Unchanged changed s t))
    ∧ (∀ (x : Source) (at' : Nat), (s.rrx.src x).absentAt = some at' → s.quietTo at' →
      let d := s.rrx.src x
      let deferred := x = .a ∧ ∃ c : Candidate, s.rrx.candidate = some c ∧ c.mark.e < at'
      (deferred → exec (.sourceAbsent x) s = .next { s with tsc := s.tsc.reach at' })
      ∧ (¬ deferred → ∃ t, exec (.sourceAbsent x) s = .next t ∧ t.tsc = s.tsc.reach at'
          ∧ t.rrx.src x = { d with state := .absent, qualify := 0, out := 0, release := 0, lastSample := none
                                   nextMissing := none, absentAt := none }
          ∧ (x = .a → t.rrx.state = .hunt ∧ t.rrx.discards = 0)
          ∧ (d.state ≠ .absent → t.rrx.selection ≠ some x)
          ∧ (d.state ≠ .absent → s.rrx.selection = some x → (s.dsc.state = .acquire ∨ s.dsc.state = .locked) →
              (∀ y, y ≠ x → (s.rrx.src y).state ≠ .usable) →
              t.rrx.selection = none ∧ t.dsc.state = .holdover ∧ t.dsc.view = none ∧ t.dsc.u = s.dsc.u
                ∧ t.dsc.f = s.dsc.f
                ∧ t.dsc.c = max (-(s.cfg.slewLimit : Int)) (min (-s.dsc.f) s.cfg.slewLimit))
          ∧ Unchanged changed s t))
    ∧ (∀ timer, s.rrx.revert = some timer → s.quietTo timer.expiry → ∃ t, exec .revertTimerExpiry s = .next t ∧ t.tsc = s.tsc.reach timer.expiry
        ∧ t.rrx.revert = none
        ∧ (let eligible (y : Source) := (s.rrx.src y).state = .usable ∧ ¬(y = .b ∧ s.dsc.state = .free)
           let p := s.cfg.prefSource
           let o := match p with | .a => Source.b | .b => Source.a
           (eligible p → t.rrx.selection = some p) ∧ (¬ eligible p → eligible o → t.rrx.selection = some o)
             ∧ (¬ eligible p → ¬ eligible o → t.rrx.selection = none))
        ∧ (t.rrx.selection ≠ s.rrx.selection → t.dsc.view = t.rrx.selection ∧ t.ntc.flags.getLsbD 2 = true)
        ∧ Unchanged changed s t)
    ∧ (∀ x, (s.rrx.src x).nextMissing = none → exec (.missingSample x) s = .next s)
    ∧ (∀ x, (s.rrx.src x).absentAt = none → exec (.sourceAbsent x) s = .next s)
    ∧ (s.rrx.revert = none → exec .revertTimerExpiry s = .next s)

/-! ### The lines and the units -/

/-- A pin change (R72, R74 to R76, R79): one that changes no level does nothing, one of an UNUSED line moves its pin alone; a
raw edge starts a pending change with its compensated date, returns from one as a bounce, and moves the quiet timer of a line
in CHATTER; with LINE_FILTER at 0 the change qualifies in the same instant. That the kind of the line and not the row decides,
and that a change to the level already there does nothing, are the model's choices: entry 37. -/
def Obligations.PinChangesStartOrReturn : Prop :=
  ∀ (i : Nat) (high : Bool) (s : State), 1 ≤ i → i ≤ 32 →
    let x := s.line i
    let c := s.lineCfg i
    let moved : Line := { x with pinHigh := high }
    (x.pinHigh = high → exec (.rawEdge i high) s = .next s ∧ exec (.unusedLinePinChange i high) s = .next s)
    ∧ (c.kind = .unused → exec (.unusedLinePinChange i high) s = .next (s.setLine i moved)
        ∧ exec (.rawEdge i high) s = .next (s.setLine i moved))
    ∧ (c.kind ≠ .unused → x.pinHigh ≠ high →
        let edge : Line := { moved with
          lastRawEdge := some s.tsc.e
          quiet := if x.state = .chatter then some (s.tsc.e + s.cfg.chatterWindow * 1000000) else x.quiet }
        let ns := s.tsc.s * 1000000000 + s.tsc.n - c.comp * 1000
        let change : PendingChange :=
          { level := high != c.activeLow
            raw := { s := ns / 1000000000, n := ns % 1000000000, epoch := s.tsc.epoch, e := s.tsc.e - c.comp
                     cls := s.dsc.effClass }
            expiry := s.tsc.e + c.filter * 1000 }
        let started : State := s.setLine i { edge with
          pending := some change, state := if x.state = .chatter then .chatter else .pending }
        (x.pending.isSome = true → exec (.rawEdge i high) s = .next (s.setLine i { edge with
            pending := none, bounce := min (x.bounce + 1) 255
            state := if x.state = .chatter then .chatter else .steady }))
        ∧ (x.pending = none → c.filter ≠ 0 → exec (.rawEdge i high) s = .next started)
        ∧ (x.pending = none → c.filter = 0 →
            exec (.rawEdge i high) s = exec (.filterExpiry i) started))
    ∧ ∀ (y : Line) (j : Nat), ((s.setLine i y).line j = if j = i then y else s.line j) ∧ Unchanged [.lqu] s (s.setLine i y)

/-- A qualified change of a line outside CHATTER is delivered or sends the line into CHATTER, by the changes of the window;
in CHATTER it moves the filtered level alone, but for an asserting change of a TRIP line, which is never held back; when the
line has been quiet it leaves CHATTER, at its level, which is handed on when it is another (R76 to R82, R84). With nothing else before it, time is brought to the expiry (the
model's choice: entry 3). That a change still pending at a quiet expiry is dropped, and that two qualifications within one µs
are both listed, are the model's choices too: entries 31 and 38. -/
def Obligations.ChangesQualify : Prop :=
  ∀ (i : Nat) (s : State), 1 ≤ i → i ≤ 32 →
    let x := s.line i
    let c := s.lineCfg i
    let us := s.cfg.chatterWindow * 1000000
    let changed : List Part := .clock :: .lqu :: .tlu :: .trips :: Part.recording
    (∀ p, x.pending = some p → s.quietTo p.expiry → ∃ t, exec (.filterExpiry i) s = .next t ∧ t.tsc = s.tsc.reach p.expiry
      ∧ (let recent := x.recent.filter (fun at' => decide (t.tsc.e < at' + us))
         let exempt := c.kind = .trip ∧ p.level = true
         (x.state ≠ .chatter → recent.length < s.cfg.chatterCount →
            t.line i = { x with filtered := p.level, effective := p.level, pending := none, state := .steady
                                recent := recent ++ [t.tsc.e] })
         ∧ (x.state ≠ .chatter → s.cfg.chatterCount ≤ recent.length →
            t.line i = { x with filtered := p.level, effective := if exempt then true else x.effective, pending := none
                                state := .chatter, recent := []
                                quiet := some (x.lastRawEdge.getD t.tsc.e + us) }
            ∧ t.ntc.flags.getLsbD 6 = true
            ∧ (s.evq.records.length ≤ 317 → ∀ n, s.evq.nextSeq = some n → n < 4294967295 →
                ∃ before r, t.evq.records = s.evq.records ++ before ++ [r] ∧ before.length = (if exempt then 1 else 0)
                  ∧ r.detail = .chatter true (if exempt then true else x.effective) ∧ r.source = i
                  ∧ r.date = { epoch := t.tsc.epoch, cls := t.dsc.effClass, s := t.tsc.s, us := t.tsc.n / 1000 }
                  ∧ (exempt → ∀ y ∈ before, y.detail.isTrip = true)))
         ∧ (x.state = .chatter →
            t.line i = { x with filtered := p.level, effective := if exempt then true else x.effective, pending := none })
         ∧ (x.state = .chatter → ¬ exempt → Unchanged [.clock, .lqu] s t)
         ∧ (x.state = .chatter ∨ s.cfg.chatterCount ≤ recent.length → exempt → c.unit ≤ 8 → TripTaken 0 i p.raw s t))
      ∧ (∀ j, j ≠ i → t.line j = s.line j) ∧ Unchanged changed s t)
    ∧ (x.pending = none → exec (.filterExpiry i) s = .next s)
    ∧ (∀ at', x.quiet = some at' → s.quietTo at' → ∃ t, exec (.quietTimerExpiry i) s = .next t ∧ t.tsc = s.tsc.reach at'
      ∧ t.line i = { x with state := .steady, quiet := none, pending := none, filtered := s.lineLevel i
                            effective := s.lineLevel i
                            recent := if s.lineLevel i = x.effective then [] else [t.tsc.e] }
      ∧ (s.evq.records.length ≤ 315 → ∀ n, s.evq.nextSeq = some n → ∃ r more, t.evq.records = s.evq.records ++ r :: more
          ∧ r.seq = n ∧ r.detail = .chatter false (s.lineLevel i) ∧ r.source = i
          ∧ (s.lineLevel i = x.effective → more = []))
      ∧ (s.lineLevel i = x.effective → Unchanged (.clock :: .lqu :: Part.recording) s t)
      ∧ (s.lineLevel i ≠ x.effective → c.unit ≤ 8 → HandedOn 1 i (s.lineLevel i) t.latchNow s t)
      ∧ (∀ j, j ≠ i → t.line j = s.line j) ∧ Unchanged changed s t)
    ∧ (x.quiet = none → exec (.quietTimerExpiry i) s = .next s)

/-- What a delivered change is handed on to (R82 to R85, R94, R110, R115 to R117, R124, R148, R162): an EDGE record of a plain or
status line that is recorded; the mode of the unit of a status line, by the table of effective levels, with its starts and its MODE
record; a trip of an asserted TRIP line, counted, recorded with the unit's mode, time in mode and trips, listed and notified, and
the TRIPCLR record of one that clears; the shift counts starts and trips too. With nothing else before it, time is brought to
the filter expiry (the model's choice: entry 3). -/
def Obligations.DeliveredChangesAreHandedOn : Prop :=
  ∀ (i : Nat) (p : PendingChange) (s : State), 1 ≤ i → i ≤ 32 →
    let c := s.lineCfg i
    (s.line i).pending = some p → (s.line i).state ≠ .chatter → (s.line i).recent.length < s.cfg.chatterCount → c.unit ≤ 8 →
    s.quietTo p.expiry →
    ∃ t, exec (.filterExpiry i) s = .next t ∧ HandedOn 0 i p.level p.raw s t
      ∧ (c.kind = .plain → c.record = false → t.evq = s.evq)
      ∧ (c.kind = .trip → p.level = false → c.record = false → t.evq = s.evq)
      ∧ (c.kind = .plain ∨ c.kind = .trip → s.evq.records.length ≤ 318 → s.evq.nextSeq.isSome = true →
          t.evq.records.length = s.evq.records.length + if c.kind = .trip ∧ p.level = true ∨ c.record = true then 1 else 0)

/-! ### What every step keeps -/

/-- The queue stays in order: at most 320 records, their numbers increasing and below the next one, the delivered ones oldest
and at most 8 (R98, R107). -/
def Obligations.QueueStaysInOrder : Prop :=
  ∀ s t : State, s.evq.consistent → step s = .next t → t.evq.consistent

/-- ATTN is asserted exactly while an unmasked flag is set, and every condition that holds keeps its flag (R193 to R195). -/
def Obligations.NoticesStayConsistent : Prop :=
  ∀ s t : State, s.noticesConsistent → step s = .next t → t.noticesConsistent

/-- c stays within ±SLEW_LIMIT, the effective class the one of R50, and the shift's worst class no better; station time stays
in its range (R1, R42, R50, R148). -/
def Obligations.TimeAndDisciplineStayInRange : Prop :=
  (∀ s t : State, s.disciplineConsistent → step s = .next t → t.disciplineConsistent)
  ∧ ∀ s t : State, s.tsc.inRange → step s = .next t → t.tsc.inRange

/-- The history stays at 16 records or fewer with falling numbers below the current shift's, the open trip list at 16 distinct
ones, in the part and in every image it holds (R150, R162, R164). -/
def Obligations.ShiftListsStayConsistent : Prop :=
  ∀ s t : State, s.shiftsConsistent → step s = .next t → t.shiftsConsistent

/-- Every line stays as R74 describes its state. -/
def Obligations.LinesStayConsistent : Prop :=
  ∀ s t : State, s.linesConsistent → step s = .next t → t.linesConsistent

/-- What every step keeps holds of `State.reset`, and no command waits there; its pins, straps and store are the model's choice:
entry 23. That no waiting command can fault (`safe`) is kept by no statement. -/
def Obligations.ResetMeetsWhatStepsKeep : Prop :=
  State.reset.evq.consistent ∧ State.reset.noticesConsistent ∧ State.reset.disciplineConsistent ∧ State.reset.tsc.inRange
    ∧ State.reset.shiftsConsistent ∧ State.reset.linesConsistent ∧ State.reset.talliesInRange ∧ State.reset.safe

/-- Station time is never stepped while the discipline state is LOCKED: no command but the power-on reset changes the epoch
(R4, R47). -/
def Obligations.LockedTimeIsNeverStepped : Prop :=
  ∀ (c : Instr) (s t : State), s.dsc.state = .locked → (∀ straps pins holdup, c ≠ .powerOnReset straps pins holdup) →
    exec c s = .next t → t.tsc.epoch = s.tsc.epoch

/-- Run hours, starts and trips only grow, but by a preset or a load: no accumulator loses a µs (R118, R120). -/
def Obligations.TalliesOnlyGrow : Prop :=
  ∀ (c : Instr) (s t : State), mayPreset c = false → s.talliesInRange → exec c s = .next t →
    t.talliesInRange ∧ ∀ u, 1 ≤ u → u ≤ 8 →
      (∀ m : Mode, m ≠ .none → ((s.unit u).tally.accs.get m).total ≤ ((t.unit u).tally.accs.get m).total)
      ∧ (s.unit u).tally.starts ≤ (t.unit u).tally.starts ∧ (s.unit u).tally.trips ≤ (t.unit u).tally.trips
end

