-- ==== Sys2Proof/Laws/State.lean ====
section
/-! SUPPORT. What each update of the state leaves: one lemma for each update and each field, true by unfolding,
so that no later proof unfolds an update. -/

namespace Sys2Proof.Machine

/-! ### setTsc -/

@[simp] theorem State.setTsc_tsc (s : State) (x : TimeScale) : (s.setTsc x).tsc = x := rfl
@[simp] theorem State.setTsc_rrx (s : State) (x : TimeScale) : (s.setTsc x).rrx = s.rrx := rfl
@[simp] theorem State.setTsc_dsc (s : State) (x : TimeScale) : (s.setTsc x).dsc = s.dsc := rfl
@[simp] theorem State.setTsc_ftx (s : State) (x : TimeScale) : (s.setTsc x).ftx = s.ftx := rfl
@[simp] theorem State.setTsc_lqu (s : State) (x : TimeScale) : (s.setTsc x).lqu = s.lqu := rfl
@[simp] theorem State.setTsc_evq (s : State) (x : TimeScale) : (s.setTsc x).evq = s.evq := rfl
@[simp] theorem State.setTsc_tlu (s : State) (x : TimeScale) : (s.setTsc x).tlu = s.tlu := rfl
@[simp] theorem State.setTsc_shu (s : State) (x : TimeScale) : (s.setTsc x).shu = s.shu := rfl
@[simp] theorem State.setTsc_stc (s : State) (x : TimeScale) : (s.setTsc x).stc = s.stc := rfl
@[simp] theorem State.setTsc_lkc (s : State) (x : TimeScale) : (s.setTsc x).lkc = s.lkc := rfl
@[simp] theorem State.setTsc_ntc (s : State) (x : TimeScale) : (s.setTsc x).ntc = s.ntc := rfl
@[simp] theorem State.setTsc_cfg (s : State) (x : TimeScale) : (s.setTsc x).cfg = s.cfg := rfl
@[simp] theorem State.setTsc_draws (s : State) (x : TimeScale) : (s.setTsc x).draws = s.draws := rfl
@[simp] theorem State.setTsc_pending (s : State) (x : TimeScale) : (s.setTsc x).pending = s.pending := rfl

/-! ### setRrx -/

@[simp] theorem State.setRrx_tsc (s : State) (x : Receiver) : (s.setRrx x).tsc = s.tsc := rfl
@[simp] theorem State.setRrx_rrx (s : State) (x : Receiver) : (s.setRrx x).rrx = x := rfl
@[simp] theorem State.setRrx_dsc (s : State) (x : Receiver) : (s.setRrx x).dsc = s.dsc := rfl
@[simp] theorem State.setRrx_ftx (s : State) (x : Receiver) : (s.setRrx x).ftx = s.ftx := rfl
@[simp] theorem State.setRrx_lqu (s : State) (x : Receiver) : (s.setRrx x).lqu = s.lqu := rfl
@[simp] theorem State.setRrx_evq (s : State) (x : Receiver) : (s.setRrx x).evq = s.evq := rfl
@[simp] theorem State.setRrx_tlu (s : State) (x : Receiver) : (s.setRrx x).tlu = s.tlu := rfl
@[simp] theorem State.setRrx_shu (s : State) (x : Receiver) : (s.setRrx x).shu = s.shu := rfl
@[simp] theorem State.setRrx_stc (s : State) (x : Receiver) : (s.setRrx x).stc = s.stc := rfl
@[simp] theorem State.setRrx_lkc (s : State) (x : Receiver) : (s.setRrx x).lkc = s.lkc := rfl
@[simp] theorem State.setRrx_ntc (s : State) (x : Receiver) : (s.setRrx x).ntc = s.ntc := rfl
@[simp] theorem State.setRrx_cfg (s : State) (x : Receiver) : (s.setRrx x).cfg = s.cfg := rfl
@[simp] theorem State.setRrx_draws (s : State) (x : Receiver) : (s.setRrx x).draws = s.draws := rfl
@[simp] theorem State.setRrx_pending (s : State) (x : Receiver) : (s.setRrx x).pending = s.pending := rfl

/-! ### setDsc -/

@[simp] theorem State.setDsc_tsc (s : State) (x : Discipline) : (s.setDsc x).tsc = s.tsc := rfl
@[simp] theorem State.setDsc_rrx (s : State) (x : Discipline) : (s.setDsc x).rrx = s.rrx := rfl
@[simp] theorem State.setDsc_dsc (s : State) (x : Discipline) : (s.setDsc x).dsc = x := rfl
@[simp] theorem State.setDsc_ftx (s : State) (x : Discipline) : (s.setDsc x).ftx = s.ftx := rfl
@[simp] theorem State.setDsc_lqu (s : State) (x : Discipline) : (s.setDsc x).lqu = s.lqu := rfl
@[simp] theorem State.setDsc_evq (s : State) (x : Discipline) : (s.setDsc x).evq = s.evq := rfl
@[simp] theorem State.setDsc_tlu (s : State) (x : Discipline) : (s.setDsc x).tlu = s.tlu := rfl
@[simp] theorem State.setDsc_shu (s : State) (x : Discipline) : (s.setDsc x).shu = s.shu := rfl
@[simp] theorem State.setDsc_stc (s : State) (x : Discipline) : (s.setDsc x).stc = s.stc := rfl
@[simp] theorem State.setDsc_lkc (s : State) (x : Discipline) : (s.setDsc x).lkc = s.lkc := rfl
@[simp] theorem State.setDsc_ntc (s : State) (x : Discipline) : (s.setDsc x).ntc = s.ntc := rfl
@[simp] theorem State.setDsc_cfg (s : State) (x : Discipline) : (s.setDsc x).cfg = s.cfg := rfl
@[simp] theorem State.setDsc_draws (s : State) (x : Discipline) : (s.setDsc x).draws = s.draws := rfl
@[simp] theorem State.setDsc_pending (s : State) (x : Discipline) : (s.setDsc x).pending = s.pending := rfl

/-! ### setFtx -/

@[simp] theorem State.setFtx_tsc (s : State) (x : Feed) : (s.setFtx x).tsc = s.tsc := rfl
@[simp] theorem State.setFtx_rrx (s : State) (x : Feed) : (s.setFtx x).rrx = s.rrx := rfl
@[simp] theorem State.setFtx_dsc (s : State) (x : Feed) : (s.setFtx x).dsc = s.dsc := rfl
@[simp] theorem State.setFtx_ftx (s : State) (x : Feed) : (s.setFtx x).ftx = x := rfl
@[simp] theorem State.setFtx_lqu (s : State) (x : Feed) : (s.setFtx x).lqu = s.lqu := rfl
@[simp] theorem State.setFtx_evq (s : State) (x : Feed) : (s.setFtx x).evq = s.evq := rfl
@[simp] theorem State.setFtx_tlu (s : State) (x : Feed) : (s.setFtx x).tlu = s.tlu := rfl
@[simp] theorem State.setFtx_shu (s : State) (x : Feed) : (s.setFtx x).shu = s.shu := rfl
@[simp] theorem State.setFtx_stc (s : State) (x : Feed) : (s.setFtx x).stc = s.stc := rfl
@[simp] theorem State.setFtx_lkc (s : State) (x : Feed) : (s.setFtx x).lkc = s.lkc := rfl
@[simp] theorem State.setFtx_ntc (s : State) (x : Feed) : (s.setFtx x).ntc = s.ntc := rfl
@[simp] theorem State.setFtx_cfg (s : State) (x : Feed) : (s.setFtx x).cfg = s.cfg := rfl
@[simp] theorem State.setFtx_draws (s : State) (x : Feed) : (s.setFtx x).draws = s.draws := rfl
@[simp] theorem State.setFtx_pending (s : State) (x : Feed) : (s.setFtx x).pending = s.pending := rfl

/-! ### setLqu -/

@[simp] theorem State.setLqu_tsc (s : State) (x : Vector Line 32) : (s.setLqu x).tsc = s.tsc := rfl
@[simp] theorem State.setLqu_rrx (s : State) (x : Vector Line 32) : (s.setLqu x).rrx = s.rrx := rfl
@[simp] theorem State.setLqu_dsc (s : State) (x : Vector Line 32) : (s.setLqu x).dsc = s.dsc := rfl
@[simp] theorem State.setLqu_ftx (s : State) (x : Vector Line 32) : (s.setLqu x).ftx = s.ftx := rfl
@[simp] theorem State.setLqu_lqu (s : State) (x : Vector Line 32) : (s.setLqu x).lqu = x := rfl
@[simp] theorem State.setLqu_evq (s : State) (x : Vector Line 32) : (s.setLqu x).evq = s.evq := rfl
@[simp] theorem State.setLqu_tlu (s : State) (x : Vector Line 32) : (s.setLqu x).tlu = s.tlu := rfl
@[simp] theorem State.setLqu_shu (s : State) (x : Vector Line 32) : (s.setLqu x).shu = s.shu := rfl
@[simp] theorem State.setLqu_stc (s : State) (x : Vector Line 32) : (s.setLqu x).stc = s.stc := rfl
@[simp] theorem State.setLqu_lkc (s : State) (x : Vector Line 32) : (s.setLqu x).lkc = s.lkc := rfl
@[simp] theorem State.setLqu_ntc (s : State) (x : Vector Line 32) : (s.setLqu x).ntc = s.ntc := rfl
@[simp] theorem State.setLqu_cfg (s : State) (x : Vector Line 32) : (s.setLqu x).cfg = s.cfg := rfl
@[simp] theorem State.setLqu_draws (s : State) (x : Vector Line 32) : (s.setLqu x).draws = s.draws := rfl
@[simp] theorem State.setLqu_pending (s : State) (x : Vector Line 32) : (s.setLqu x).pending = s.pending := rfl

/-! ### setEvq -/

@[simp] theorem State.setEvq_tsc (s : State) (x : EventQueue) : (s.setEvq x).tsc = s.tsc := rfl
@[simp] theorem State.setEvq_rrx (s : State) (x : EventQueue) : (s.setEvq x).rrx = s.rrx := rfl
@[simp] theorem State.setEvq_dsc (s : State) (x : EventQueue) : (s.setEvq x).dsc = s.dsc := rfl
@[simp] theorem State.setEvq_ftx (s : State) (x : EventQueue) : (s.setEvq x).ftx = s.ftx := rfl
@[simp] theorem State.setEvq_lqu (s : State) (x : EventQueue) : (s.setEvq x).lqu = s.lqu := rfl
@[simp] theorem State.setEvq_evq (s : State) (x : EventQueue) : (s.setEvq x).evq = x := rfl
@[simp] theorem State.setEvq_tlu (s : State) (x : EventQueue) : (s.setEvq x).tlu = s.tlu := rfl
@[simp] theorem State.setEvq_shu (s : State) (x : EventQueue) : (s.setEvq x).shu = s.shu := rfl
@[simp] theorem State.setEvq_stc (s : State) (x : EventQueue) : (s.setEvq x).stc = s.stc := rfl
@[simp] theorem State.setEvq_lkc (s : State) (x : EventQueue) : (s.setEvq x).lkc = s.lkc := rfl
@[simp] theorem State.setEvq_ntc (s : State) (x : EventQueue) : (s.setEvq x).ntc = s.ntc := rfl
@[simp] theorem State.setEvq_cfg (s : State) (x : EventQueue) : (s.setEvq x).cfg = s.cfg := rfl
@[simp] theorem State.setEvq_draws (s : State) (x : EventQueue) : (s.setEvq x).draws = s.draws := rfl
@[simp] theorem State.setEvq_pending (s : State) (x : EventQueue) : (s.setEvq x).pending = s.pending := rfl

/-! ### setTlu -/

@[simp] theorem State.setTlu_tsc (s : State) (x : TallyUnit) : (s.setTlu x).tsc = s.tsc := rfl
@[simp] theorem State.setTlu_rrx (s : State) (x : TallyUnit) : (s.setTlu x).rrx = s.rrx := rfl
@[simp] theorem State.setTlu_dsc (s : State) (x : TallyUnit) : (s.setTlu x).dsc = s.dsc := rfl
@[simp] theorem State.setTlu_ftx (s : State) (x : TallyUnit) : (s.setTlu x).ftx = s.ftx := rfl
@[simp] theorem State.setTlu_lqu (s : State) (x : TallyUnit) : (s.setTlu x).lqu = s.lqu := rfl
@[simp] theorem State.setTlu_evq (s : State) (x : TallyUnit) : (s.setTlu x).evq = s.evq := rfl
@[simp] theorem State.setTlu_tlu (s : State) (x : TallyUnit) : (s.setTlu x).tlu = x := rfl
@[simp] theorem State.setTlu_shu (s : State) (x : TallyUnit) : (s.setTlu x).shu = s.shu := rfl
@[simp] theorem State.setTlu_stc (s : State) (x : TallyUnit) : (s.setTlu x).stc = s.stc := rfl
@[simp] theorem State.setTlu_lkc (s : State) (x : TallyUnit) : (s.setTlu x).lkc = s.lkc := rfl
@[simp] theorem State.setTlu_ntc (s : State) (x : TallyUnit) : (s.setTlu x).ntc = s.ntc := rfl
@[simp] theorem State.setTlu_cfg (s : State) (x : TallyUnit) : (s.setTlu x).cfg = s.cfg := rfl
@[simp] theorem State.setTlu_draws (s : State) (x : TallyUnit) : (s.setTlu x).draws = s.draws := rfl
@[simp] theorem State.setTlu_pending (s : State) (x : TallyUnit) : (s.setTlu x).pending = s.pending := rfl

/-! ### setShu -/

@[simp] theorem State.setShu_tsc (s : State) (x : ShiftUnitState) : (s.setShu x).tsc = s.tsc := rfl
@[simp] theorem State.setShu_rrx (s : State) (x : ShiftUnitState) : (s.setShu x).rrx = s.rrx := rfl
@[simp] theorem State.setShu_dsc (s : State) (x : ShiftUnitState) : (s.setShu x).dsc = s.dsc := rfl
@[simp] theorem State.setShu_ftx (s : State) (x : ShiftUnitState) : (s.setShu x).ftx = s.ftx := rfl
@[simp] theorem State.setShu_lqu (s : State) (x : ShiftUnitState) : (s.setShu x).lqu = s.lqu := rfl
@[simp] theorem State.setShu_evq (s : State) (x : ShiftUnitState) : (s.setShu x).evq = s.evq := rfl
@[simp] theorem State.setShu_tlu (s : State) (x : ShiftUnitState) : (s.setShu x).tlu = s.tlu := rfl
@[simp] theorem State.setShu_shu (s : State) (x : ShiftUnitState) : (s.setShu x).shu = x := rfl
@[simp] theorem State.setShu_stc (s : State) (x : ShiftUnitState) : (s.setShu x).stc = s.stc := rfl
@[simp] theorem State.setShu_lkc (s : State) (x : ShiftUnitState) : (s.setShu x).lkc = s.lkc := rfl
@[simp] theorem State.setShu_ntc (s : State) (x : ShiftUnitState) : (s.setShu x).ntc = s.ntc := rfl
@[simp] theorem State.setShu_cfg (s : State) (x : ShiftUnitState) : (s.setShu x).cfg = s.cfg := rfl
@[simp] theorem State.setShu_draws (s : State) (x : ShiftUnitState) : (s.setShu x).draws = s.draws := rfl
@[simp] theorem State.setShu_pending (s : State) (x : ShiftUnitState) : (s.setShu x).pending = s.pending := rfl

/-! ### setStc -/

@[simp] theorem State.setStc_tsc (s : State) (x : StoreController) : (s.setStc x).tsc = s.tsc := rfl
@[simp] theorem State.setStc_rrx (s : State) (x : StoreController) : (s.setStc x).rrx = s.rrx := rfl
@[simp] theorem State.setStc_dsc (s : State) (x : StoreController) : (s.setStc x).dsc = s.dsc := rfl
@[simp] theorem State.setStc_ftx (s : State) (x : StoreController) : (s.setStc x).ftx = s.ftx := rfl
@[simp] theorem State.setStc_lqu (s : State) (x : StoreController) : (s.setStc x).lqu = s.lqu := rfl
@[simp] theorem State.setStc_evq (s : State) (x : StoreController) : (s.setStc x).evq = s.evq := rfl
@[simp] theorem State.setStc_tlu (s : State) (x : StoreController) : (s.setStc x).tlu = s.tlu := rfl
@[simp] theorem State.setStc_shu (s : State) (x : StoreController) : (s.setStc x).shu = s.shu := rfl
@[simp] theorem State.setStc_stc (s : State) (x : StoreController) : (s.setStc x).stc = x := rfl
@[simp] theorem State.setStc_lkc (s : State) (x : StoreController) : (s.setStc x).lkc = s.lkc := rfl
@[simp] theorem State.setStc_ntc (s : State) (x : StoreController) : (s.setStc x).ntc = s.ntc := rfl
@[simp] theorem State.setStc_cfg (s : State) (x : StoreController) : (s.setStc x).cfg = s.cfg := rfl
@[simp] theorem State.setStc_draws (s : State) (x : StoreController) : (s.setStc x).draws = s.draws := rfl
@[simp] theorem State.setStc_pending (s : State) (x : StoreController) : (s.setStc x).pending = s.pending := rfl

/-! ### setLkc -/

@[simp] theorem State.setLkc_tsc (s : State) (x : LinkController) : (s.setLkc x).tsc = s.tsc := rfl
@[simp] theorem State.setLkc_rrx (s : State) (x : LinkController) : (s.setLkc x).rrx = s.rrx := rfl
@[simp] theorem State.setLkc_dsc (s : State) (x : LinkController) : (s.setLkc x).dsc = s.dsc := rfl
@[simp] theorem State.setLkc_ftx (s : State) (x : LinkController) : (s.setLkc x).ftx = s.ftx := rfl
@[simp] theorem State.setLkc_lqu (s : State) (x : LinkController) : (s.setLkc x).lqu = s.lqu := rfl
@[simp] theorem State.setLkc_evq (s : State) (x : LinkController) : (s.setLkc x).evq = s.evq := rfl
@[simp] theorem State.setLkc_tlu (s : State) (x : LinkController) : (s.setLkc x).tlu = s.tlu := rfl
@[simp] theorem State.setLkc_shu (s : State) (x : LinkController) : (s.setLkc x).shu = s.shu := rfl
@[simp] theorem State.setLkc_stc (s : State) (x : LinkController) : (s.setLkc x).stc = s.stc := rfl
@[simp] theorem State.setLkc_lkc (s : State) (x : LinkController) : (s.setLkc x).lkc = x := rfl
@[simp] theorem State.setLkc_ntc (s : State) (x : LinkController) : (s.setLkc x).ntc = s.ntc := rfl
@[simp] theorem State.setLkc_cfg (s : State) (x : LinkController) : (s.setLkc x).cfg = s.cfg := rfl
@[simp] theorem State.setLkc_draws (s : State) (x : LinkController) : (s.setLkc x).draws = s.draws := rfl
@[simp] theorem State.setLkc_pending (s : State) (x : LinkController) : (s.setLkc x).pending = s.pending := rfl

/-! ### setNtc -/

@[simp] theorem State.setNtc_tsc (s : State) (x : NoticeUnit) : (s.setNtc x).tsc = s.tsc := rfl
@[simp] theorem State.setNtc_rrx (s : State) (x : NoticeUnit) : (s.setNtc x).rrx = s.rrx := rfl
@[simp] theorem State.setNtc_dsc (s : State) (x : NoticeUnit) : (s.setNtc x).dsc = s.dsc := rfl
@[simp] theorem State.setNtc_ftx (s : State) (x : NoticeUnit) : (s.setNtc x).ftx = s.ftx := rfl
@[simp] theorem State.setNtc_lqu (s : State) (x : NoticeUnit) : (s.setNtc x).lqu = s.lqu := rfl
@[simp] theorem State.setNtc_evq (s : State) (x : NoticeUnit) : (s.setNtc x).evq = s.evq := rfl
@[simp] theorem State.setNtc_tlu (s : State) (x : NoticeUnit) : (s.setNtc x).tlu = s.tlu := rfl
@[simp] theorem State.setNtc_shu (s : State) (x : NoticeUnit) : (s.setNtc x).shu = s.shu := rfl
@[simp] theorem State.setNtc_stc (s : State) (x : NoticeUnit) : (s.setNtc x).stc = s.stc := rfl
@[simp] theorem State.setNtc_lkc (s : State) (x : NoticeUnit) : (s.setNtc x).lkc = s.lkc := rfl
@[simp] theorem State.setNtc_ntc (s : State) (x : NoticeUnit) : (s.setNtc x).ntc = x := rfl
@[simp] theorem State.setNtc_cfg (s : State) (x : NoticeUnit) : (s.setNtc x).cfg = s.cfg := rfl
@[simp] theorem State.setNtc_draws (s : State) (x : NoticeUnit) : (s.setNtc x).draws = s.draws := rfl
@[simp] theorem State.setNtc_pending (s : State) (x : NoticeUnit) : (s.setNtc x).pending = s.pending := rfl

/-! ### setCfg -/

@[simp] theorem State.setCfg_tsc (s : State) (x : Settings) : (s.setCfg x).tsc = s.tsc := rfl
@[simp] theorem State.setCfg_rrx (s : State) (x : Settings) : (s.setCfg x).rrx = s.rrx := rfl
@[simp] theorem State.setCfg_dsc (s : State) (x : Settings) : (s.setCfg x).dsc = s.dsc := rfl
@[simp] theorem State.setCfg_ftx (s : State) (x : Settings) : (s.setCfg x).ftx = s.ftx := rfl
@[simp] theorem State.setCfg_lqu (s : State) (x : Settings) : (s.setCfg x).lqu = s.lqu := rfl
@[simp] theorem State.setCfg_evq (s : State) (x : Settings) : (s.setCfg x).evq = s.evq := rfl
@[simp] theorem State.setCfg_tlu (s : State) (x : Settings) : (s.setCfg x).tlu = s.tlu := rfl
@[simp] theorem State.setCfg_shu (s : State) (x : Settings) : (s.setCfg x).shu = s.shu := rfl
@[simp] theorem State.setCfg_stc (s : State) (x : Settings) : (s.setCfg x).stc = s.stc := rfl
@[simp] theorem State.setCfg_lkc (s : State) (x : Settings) : (s.setCfg x).lkc = s.lkc := rfl
@[simp] theorem State.setCfg_ntc (s : State) (x : Settings) : (s.setCfg x).ntc = s.ntc := rfl
@[simp] theorem State.setCfg_cfg (s : State) (x : Settings) : (s.setCfg x).cfg = x := rfl
@[simp] theorem State.setCfg_draws (s : State) (x : Settings) : (s.setCfg x).draws = s.draws := rfl
@[simp] theorem State.setCfg_pending (s : State) (x : Settings) : (s.setCfg x).pending = s.pending := rfl

/-! ### setDraws -/

@[simp] theorem State.setDraws_tsc (s : State) (x : Nat) : (s.setDraws x).tsc = s.tsc := rfl
@[simp] theorem State.setDraws_rrx (s : State) (x : Nat) : (s.setDraws x).rrx = s.rrx := rfl
@[simp] theorem State.setDraws_dsc (s : State) (x : Nat) : (s.setDraws x).dsc = s.dsc := rfl
@[simp] theorem State.setDraws_ftx (s : State) (x : Nat) : (s.setDraws x).ftx = s.ftx := rfl
@[simp] theorem State.setDraws_lqu (s : State) (x : Nat) : (s.setDraws x).lqu = s.lqu := rfl
@[simp] theorem State.setDraws_evq (s : State) (x : Nat) : (s.setDraws x).evq = s.evq := rfl
@[simp] theorem State.setDraws_tlu (s : State) (x : Nat) : (s.setDraws x).tlu = s.tlu := rfl
@[simp] theorem State.setDraws_shu (s : State) (x : Nat) : (s.setDraws x).shu = s.shu := rfl
@[simp] theorem State.setDraws_stc (s : State) (x : Nat) : (s.setDraws x).stc = s.stc := rfl
@[simp] theorem State.setDraws_lkc (s : State) (x : Nat) : (s.setDraws x).lkc = s.lkc := rfl
@[simp] theorem State.setDraws_ntc (s : State) (x : Nat) : (s.setDraws x).ntc = s.ntc := rfl
@[simp] theorem State.setDraws_cfg (s : State) (x : Nat) : (s.setDraws x).cfg = s.cfg := rfl
@[simp] theorem State.setDraws_draws (s : State) (x : Nat) : (s.setDraws x).draws = x := rfl
@[simp] theorem State.setDraws_pending (s : State) (x : Nat) : (s.setDraws x).pending = s.pending := rfl

/-! ### setLine -/

@[simp] theorem State.setLine_tsc (s : State) (i : Nat) (x : Line) : (s.setLine i x).tsc = s.tsc := rfl
@[simp] theorem State.setLine_rrx (s : State) (i : Nat) (x : Line) : (s.setLine i x).rrx = s.rrx := rfl
@[simp] theorem State.setLine_dsc (s : State) (i : Nat) (x : Line) : (s.setLine i x).dsc = s.dsc := rfl
@[simp] theorem State.setLine_ftx (s : State) (i : Nat) (x : Line) : (s.setLine i x).ftx = s.ftx := rfl
@[simp] theorem State.setLine_lqu (s : State) (i : Nat) (x : Line) : (s.setLine i x).lqu = setNth s.lqu i x := rfl
@[simp] theorem State.setLine_evq (s : State) (i : Nat) (x : Line) : (s.setLine i x).evq = s.evq := rfl
@[simp] theorem State.setLine_tlu (s : State) (i : Nat) (x : Line) : (s.setLine i x).tlu = s.tlu := rfl
@[simp] theorem State.setLine_shu (s : State) (i : Nat) (x : Line) : (s.setLine i x).shu = s.shu := rfl
@[simp] theorem State.setLine_stc (s : State) (i : Nat) (x : Line) : (s.setLine i x).stc = s.stc := rfl
@[simp] theorem State.setLine_lkc (s : State) (i : Nat) (x : Line) : (s.setLine i x).lkc = s.lkc := rfl
@[simp] theorem State.setLine_ntc (s : State) (i : Nat) (x : Line) : (s.setLine i x).ntc = s.ntc := rfl
@[simp] theorem State.setLine_cfg (s : State) (i : Nat) (x : Line) : (s.setLine i x).cfg = s.cfg := rfl
@[simp] theorem State.setLine_draws (s : State) (i : Nat) (x : Line) : (s.setLine i x).draws = s.draws := rfl
@[simp] theorem State.setLine_pending (s : State) (i : Nat) (x : Line) : (s.setLine i x).pending = s.pending := rfl

/-! ### setUnit -/

@[simp] theorem State.setUnit_tsc (s : State) (u : Nat) (x : GenUnit) : (s.setUnit u x).tsc = s.tsc := rfl
@[simp] theorem State.setUnit_rrx (s : State) (u : Nat) (x : GenUnit) : (s.setUnit u x).rrx = s.rrx := rfl
@[simp] theorem State.setUnit_dsc (s : State) (u : Nat) (x : GenUnit) : (s.setUnit u x).dsc = s.dsc := rfl
@[simp] theorem State.setUnit_ftx (s : State) (u : Nat) (x : GenUnit) : (s.setUnit u x).ftx = s.ftx := rfl
@[simp] theorem State.setUnit_lqu (s : State) (u : Nat) (x : GenUnit) : (s.setUnit u x).lqu = s.lqu := rfl
@[simp] theorem State.setUnit_evq (s : State) (u : Nat) (x : GenUnit) : (s.setUnit u x).evq = s.evq := rfl
@[simp] theorem State.setUnit_tlu (s : State) (u : Nat) (x : GenUnit) : (s.setUnit u x).tlu = { s.tlu with units := setNth s.tlu.units u x } := rfl
@[simp] theorem State.setUnit_shu (s : State) (u : Nat) (x : GenUnit) : (s.setUnit u x).shu = s.shu := rfl
@[simp] theorem State.setUnit_stc (s : State) (u : Nat) (x : GenUnit) : (s.setUnit u x).stc = s.stc := rfl
@[simp] theorem State.setUnit_lkc (s : State) (u : Nat) (x : GenUnit) : (s.setUnit u x).lkc = s.lkc := rfl
@[simp] theorem State.setUnit_ntc (s : State) (u : Nat) (x : GenUnit) : (s.setUnit u x).ntc = s.ntc := rfl
@[simp] theorem State.setUnit_cfg (s : State) (u : Nat) (x : GenUnit) : (s.setUnit u x).cfg = s.cfg := rfl
@[simp] theorem State.setUnit_draws (s : State) (u : Nat) (x : GenUnit) : (s.setUnit u x).draws = s.draws := rfl
@[simp] theorem State.setUnit_pending (s : State) (u : Nat) (x : GenUnit) : (s.setUnit u x).pending = s.pending := rfl

/-! ### setTally -/

@[simp] theorem State.setTally_tsc (s : State) (u : Nat) (x : Tally) : (s.setTally u x).tsc = s.tsc := rfl
@[simp] theorem State.setTally_rrx (s : State) (u : Nat) (x : Tally) : (s.setTally u x).rrx = s.rrx := rfl
@[simp] theorem State.setTally_dsc (s : State) (u : Nat) (x : Tally) : (s.setTally u x).dsc = s.dsc := rfl
@[simp] theorem State.setTally_ftx (s : State) (u : Nat) (x : Tally) : (s.setTally u x).ftx = s.ftx := rfl
@[simp] theorem State.setTally_lqu (s : State) (u : Nat) (x : Tally) : (s.setTally u x).lqu = s.lqu := rfl
@[simp] theorem State.setTally_evq (s : State) (u : Nat) (x : Tally) : (s.setTally u x).evq = s.evq := rfl
@[simp] theorem State.setTally_tlu (s : State) (u : Nat) (x : Tally) : (s.setTally u x).tlu = { s.tlu with units := setNth s.tlu.units u { s.unit u with tally := x } } := rfl
@[simp] theorem State.setTally_shu (s : State) (u : Nat) (x : Tally) : (s.setTally u x).shu = s.shu := rfl
@[simp] theorem State.setTally_stc (s : State) (u : Nat) (x : Tally) : (s.setTally u x).stc = s.stc := rfl
@[simp] theorem State.setTally_lkc (s : State) (u : Nat) (x : Tally) : (s.setTally u x).lkc = s.lkc := rfl
@[simp] theorem State.setTally_ntc (s : State) (u : Nat) (x : Tally) : (s.setTally u x).ntc = s.ntc := rfl
@[simp] theorem State.setTally_cfg (s : State) (u : Nat) (x : Tally) : (s.setTally u x).cfg = s.cfg := rfl
@[simp] theorem State.setTally_draws (s : State) (u : Nat) (x : Tally) : (s.setTally u x).draws = s.draws := rfl
@[simp] theorem State.setTally_pending (s : State) (u : Nat) (x : Tally) : (s.setTally u x).pending = s.pending := rfl

/-! ### setCurrent -/

@[simp] theorem State.setCurrent_tsc (s : State) (x : ShiftRecord) : (s.setCurrent x).tsc = s.tsc := rfl
@[simp] theorem State.setCurrent_rrx (s : State) (x : ShiftRecord) : (s.setCurrent x).rrx = s.rrx := rfl
@[simp] theorem State.setCurrent_dsc (s : State) (x : ShiftRecord) : (s.setCurrent x).dsc = s.dsc := rfl
@[simp] theorem State.setCurrent_ftx (s : State) (x : ShiftRecord) : (s.setCurrent x).ftx = s.ftx := rfl
@[simp] theorem State.setCurrent_lqu (s : State) (x : ShiftRecord) : (s.setCurrent x).lqu = s.lqu := rfl
@[simp] theorem State.setCurrent_evq (s : State) (x : ShiftRecord) : (s.setCurrent x).evq = s.evq := rfl
@[simp] theorem State.setCurrent_tlu (s : State) (x : ShiftRecord) : (s.setCurrent x).tlu = s.tlu := rfl
@[simp] theorem State.setCurrent_shu (s : State) (x : ShiftRecord) : (s.setCurrent x).shu = { s.shu with current := x } := rfl
@[simp] theorem State.setCurrent_stc (s : State) (x : ShiftRecord) : (s.setCurrent x).stc = s.stc := rfl
@[simp] theorem State.setCurrent_lkc (s : State) (x : ShiftRecord) : (s.setCurrent x).lkc = s.lkc := rfl
@[simp] theorem State.setCurrent_ntc (s : State) (x : ShiftRecord) : (s.setCurrent x).ntc = s.ntc := rfl
@[simp] theorem State.setCurrent_cfg (s : State) (x : ShiftRecord) : (s.setCurrent x).cfg = s.cfg := rfl
@[simp] theorem State.setCurrent_draws (s : State) (x : ShiftRecord) : (s.setCurrent x).draws = s.draws := rfl
@[simp] theorem State.setCurrent_pending (s : State) (x : ShiftRecord) : (s.setCurrent x).pending = s.pending := rfl

/-! ### setHoldup -/

@[simp] theorem State.setHoldup_tsc (s : State) (b : Bool) : (s.setHoldup b).tsc = s.tsc := rfl
@[simp] theorem State.setHoldup_rrx (s : State) (b : Bool) : (s.setHoldup b).rrx = s.rrx := rfl
@[simp] theorem State.setHoldup_dsc (s : State) (b : Bool) : (s.setHoldup b).dsc = s.dsc := rfl
@[simp] theorem State.setHoldup_ftx (s : State) (b : Bool) : (s.setHoldup b).ftx = s.ftx := rfl
@[simp] theorem State.setHoldup_lqu (s : State) (b : Bool) : (s.setHoldup b).lqu = s.lqu := rfl
@[simp] theorem State.setHoldup_evq (s : State) (b : Bool) : (s.setHoldup b).evq = s.evq := rfl
@[simp] theorem State.setHoldup_tlu (s : State) (b : Bool) : (s.setHoldup b).tlu = s.tlu := rfl
@[simp] theorem State.setHoldup_shu (s : State) (b : Bool) : (s.setHoldup b).shu = s.shu := rfl
@[simp] theorem State.setHoldup_stc (s : State) (b : Bool) : (s.setHoldup b).stc = { s.stc with holdup := b } := rfl
@[simp] theorem State.setHoldup_lkc (s : State) (b : Bool) : (s.setHoldup b).lkc = s.lkc := rfl
@[simp] theorem State.setHoldup_ntc (s : State) (b : Bool) : (s.setHoldup b).ntc = s.ntc := rfl
@[simp] theorem State.setHoldup_cfg (s : State) (b : Bool) : (s.setHoldup b).cfg = s.cfg := rfl
@[simp] theorem State.setHoldup_draws (s : State) (b : Bool) : (s.setHoldup b).draws = s.draws := rfl
@[simp] theorem State.setHoldup_pending (s : State) (b : Bool) : (s.setHoldup b).pending = s.pending := rfl

/-! ### raise -/

@[simp] theorem State.raise_tsc (s : State) (w : Notice) : (s.raise w).tsc = s.tsc := rfl
@[simp] theorem State.raise_rrx (s : State) (w : Notice) : (s.raise w).rrx = s.rrx := rfl
@[simp] theorem State.raise_dsc (s : State) (w : Notice) : (s.raise w).dsc = s.dsc := rfl
@[simp] theorem State.raise_ftx (s : State) (w : Notice) : (s.raise w).ftx = s.ftx := rfl
@[simp] theorem State.raise_lqu (s : State) (w : Notice) : (s.raise w).lqu = s.lqu := rfl
@[simp] theorem State.raise_evq (s : State) (w : Notice) : (s.raise w).evq = s.evq := rfl
@[simp] theorem State.raise_tlu (s : State) (w : Notice) : (s.raise w).tlu = s.tlu := rfl
@[simp] theorem State.raise_shu (s : State) (w : Notice) : (s.raise w).shu = s.shu := rfl
@[simp] theorem State.raise_stc (s : State) (w : Notice) : (s.raise w).stc = s.stc := rfl
@[simp] theorem State.raise_lkc (s : State) (w : Notice) : (s.raise w).lkc = s.lkc := rfl
@[simp] theorem State.raise_ntc (s : State) (w : Notice) : (s.raise w).ntc = s.ntc.raise w s.cfg.noticeMask := rfl
@[simp] theorem State.raise_cfg (s : State) (w : Notice) : (s.raise w).cfg = s.cfg := rfl
@[simp] theorem State.raise_draws (s : State) (w : Notice) : (s.raise w).draws = s.draws := rfl
@[simp] theorem State.raise_pending (s : State) (w : Notice) : (s.raise w).pending = s.pending := rfl

/-! ### hand -/

@[simp] theorem State.hand_tsc (s : State) (w : Notice) (b : Bool) : (s.hand w b).tsc = s.tsc := rfl
@[simp] theorem State.hand_rrx (s : State) (w : Notice) (b : Bool) : (s.hand w b).rrx = s.rrx := rfl
@[simp] theorem State.hand_dsc (s : State) (w : Notice) (b : Bool) : (s.hand w b).dsc = s.dsc := rfl
@[simp] theorem State.hand_ftx (s : State) (w : Notice) (b : Bool) : (s.hand w b).ftx = s.ftx := rfl
@[simp] theorem State.hand_lqu (s : State) (w : Notice) (b : Bool) : (s.hand w b).lqu = s.lqu := rfl
@[simp] theorem State.hand_evq (s : State) (w : Notice) (b : Bool) : (s.hand w b).evq = s.evq := rfl
@[simp] theorem State.hand_tlu (s : State) (w : Notice) (b : Bool) : (s.hand w b).tlu = s.tlu := rfl
@[simp] theorem State.hand_shu (s : State) (w : Notice) (b : Bool) : (s.hand w b).shu = s.shu := rfl
@[simp] theorem State.hand_stc (s : State) (w : Notice) (b : Bool) : (s.hand w b).stc = s.stc := rfl
@[simp] theorem State.hand_lkc (s : State) (w : Notice) (b : Bool) : (s.hand w b).lkc = s.lkc := rfl
@[simp] theorem State.hand_ntc (s : State) (w : Notice) (b : Bool) : (s.hand w b).ntc = s.ntc.hand w b s.cfg.noticeMask := rfl
@[simp] theorem State.hand_cfg (s : State) (w : Notice) (b : Bool) : (s.hand w b).cfg = s.cfg := rfl
@[simp] theorem State.hand_draws (s : State) (w : Notice) (b : Bool) : (s.hand w b).draws = s.draws := rfl
@[simp] theorem State.hand_pending (s : State) (w : Notice) (b : Bool) : (s.hand w b).pending = s.pending := rfl

/-! ### sendReply -/

@[simp] theorem State.sendReply_tsc (s : State) (k tag : Byte) (a : Answer) : (s.sendReply k tag a).tsc = s.tsc := rfl
@[simp] theorem State.sendReply_rrx (s : State) (k tag : Byte) (a : Answer) : (s.sendReply k tag a).rrx = s.rrx := rfl
@[simp] theorem State.sendReply_dsc (s : State) (k tag : Byte) (a : Answer) : (s.sendReply k tag a).dsc = s.dsc := rfl
@[simp] theorem State.sendReply_ftx (s : State) (k tag : Byte) (a : Answer) : (s.sendReply k tag a).ftx = s.ftx := rfl
@[simp] theorem State.sendReply_lqu (s : State) (k tag : Byte) (a : Answer) : (s.sendReply k tag a).lqu = s.lqu := rfl
@[simp] theorem State.sendReply_evq (s : State) (k tag : Byte) (a : Answer) : (s.sendReply k tag a).evq = s.evq := rfl
@[simp] theorem State.sendReply_tlu (s : State) (k tag : Byte) (a : Answer) : (s.sendReply k tag a).tlu = s.tlu := rfl
@[simp] theorem State.sendReply_shu (s : State) (k tag : Byte) (a : Answer) : (s.sendReply k tag a).shu = s.shu := rfl
@[simp] theorem State.sendReply_stc (s : State) (k tag : Byte) (a : Answer) : (s.sendReply k tag a).stc = s.stc := rfl
@[simp] theorem State.sendReply_ntc (s : State) (k tag : Byte) (a : Answer) : (s.sendReply k tag a).ntc = s.ntc := rfl
@[simp] theorem State.sendReply_cfg (s : State) (k tag : Byte) (a : Answer) : (s.sendReply k tag a).cfg = s.cfg := rfl
@[simp] theorem State.sendReply_draws (s : State) (k tag : Byte) (a : Answer) : (s.sendReply k tag a).draws = s.draws := rfl
@[simp] theorem State.sendReply_pending (s : State) (k tag : Byte) (a : Answer) : (s.sendReply k tag a).pending = s.pending := rfl

/-! ### linkError -/

@[simp] theorem State.linkError_tsc (s : State) (w : LinkError) : (s.linkError w).tsc = s.tsc := rfl
@[simp] theorem State.linkError_rrx (s : State) (w : LinkError) : (s.linkError w).rrx = s.rrx := rfl
@[simp] theorem State.linkError_dsc (s : State) (w : LinkError) : (s.linkError w).dsc = s.dsc := rfl
@[simp] theorem State.linkError_ftx (s : State) (w : LinkError) : (s.linkError w).ftx = s.ftx := rfl
@[simp] theorem State.linkError_lqu (s : State) (w : LinkError) : (s.linkError w).lqu = s.lqu := rfl
@[simp] theorem State.linkError_evq (s : State) (w : LinkError) : (s.linkError w).evq = s.evq := rfl
@[simp] theorem State.linkError_tlu (s : State) (w : LinkError) : (s.linkError w).tlu = s.tlu := rfl
@[simp] theorem State.linkError_shu (s : State) (w : LinkError) : (s.linkError w).shu = s.shu := rfl
@[simp] theorem State.linkError_stc (s : State) (w : LinkError) : (s.linkError w).stc = s.stc := rfl
@[simp] theorem State.linkError_lkc (s : State) (w : LinkError) : (s.linkError w).lkc = s.lkc.error w := rfl
@[simp] theorem State.linkError_ntc (s : State) (w : LinkError) : (s.linkError w).ntc = s.ntc := rfl
@[simp] theorem State.linkError_cfg (s : State) (w : LinkError) : (s.linkError w).cfg = s.cfg := rfl
@[simp] theorem State.linkError_draws (s : State) (w : LinkError) : (s.linkError w).draws = s.draws := rfl
@[simp] theorem State.linkError_pending (s : State) (w : LinkError) : (s.linkError w).pending = s.pending := rfl

/-! ### pass -/

@[simp] theorem State.pass_tsc (s : State) (ns : Nat) : (s.pass ns).tsc = s.tsc.advance ns := rfl
@[simp] theorem State.pass_rrx (s : State) (ns : Nat) : (s.pass ns).rrx = s.rrx := rfl
@[simp] theorem State.pass_dsc (s : State) (ns : Nat) : (s.pass ns).dsc = s.dsc := rfl
@[simp] theorem State.pass_ftx (s : State) (ns : Nat) : (s.pass ns).ftx = s.ftx := rfl
@[simp] theorem State.pass_lqu (s : State) (ns : Nat) : (s.pass ns).lqu = s.lqu := rfl
@[simp] theorem State.pass_evq (s : State) (ns : Nat) : (s.pass ns).evq = s.evq := rfl
@[simp] theorem State.pass_tlu (s : State) (ns : Nat) : (s.pass ns).tlu = s.tlu := rfl
@[simp] theorem State.pass_shu (s : State) (ns : Nat) : (s.pass ns).shu = s.shu := rfl
@[simp] theorem State.pass_stc (s : State) (ns : Nat) : (s.pass ns).stc = s.stc := rfl
@[simp] theorem State.pass_lkc (s : State) (ns : Nat) : (s.pass ns).lkc = s.lkc := rfl
@[simp] theorem State.pass_ntc (s : State) (ns : Nat) : (s.pass ns).ntc = s.ntc := rfl
@[simp] theorem State.pass_cfg (s : State) (ns : Nat) : (s.pass ns).cfg = s.cfg := rfl
@[simp] theorem State.pass_draws (s : State) (ns : Nat) : (s.pass ns).draws = s.draws := rfl
@[simp] theorem State.pass_pending (s : State) (ns : Nat) : (s.pass ns).pending = s.pending := rfl

/-! ### setTracker -/

@[simp] theorem State.setTracker_tsc (s : State) (m : Option LocalMinute) : (s.setTracker m).tsc = { s.tsc with tracker := m } := rfl
@[simp] theorem State.setTracker_rrx (s : State) (m : Option LocalMinute) : (s.setTracker m).rrx = s.rrx := rfl
@[simp] theorem State.setTracker_dsc (s : State) (m : Option LocalMinute) : (s.setTracker m).dsc = s.dsc := rfl
@[simp] theorem State.setTracker_ftx (s : State) (m : Option LocalMinute) : (s.setTracker m).ftx = s.ftx := rfl
@[simp] theorem State.setTracker_lqu (s : State) (m : Option LocalMinute) : (s.setTracker m).lqu = s.lqu := rfl
@[simp] theorem State.setTracker_evq (s : State) (m : Option LocalMinute) : (s.setTracker m).evq = s.evq := rfl
@[simp] theorem State.setTracker_tlu (s : State) (m : Option LocalMinute) : (s.setTracker m).tlu = s.tlu := rfl
@[simp] theorem State.setTracker_shu (s : State) (m : Option LocalMinute) : (s.setTracker m).shu = s.shu := rfl
@[simp] theorem State.setTracker_stc (s : State) (m : Option LocalMinute) : (s.setTracker m).stc = s.stc := rfl
@[simp] theorem State.setTracker_lkc (s : State) (m : Option LocalMinute) : (s.setTracker m).lkc = s.lkc := rfl
@[simp] theorem State.setTracker_ntc (s : State) (m : Option LocalMinute) : (s.setTracker m).ntc = s.ntc := rfl
@[simp] theorem State.setTracker_cfg (s : State) (m : Option LocalMinute) : (s.setTracker m).cfg = s.cfg := rfl
@[simp] theorem State.setTracker_draws (s : State) (m : Option LocalMinute) : (s.setTracker m).draws = s.draws := rfl
@[simp] theorem State.setTracker_pending (s : State) (m : Option LocalMinute) : (s.setTracker m).pending = s.pending := rfl

/-! ### queueSave -/

@[simp] theorem State.queueSave_tsc (s : State) (t : Trigger) : (s.queueSave t).tsc = s.tsc := rfl
@[simp] theorem State.queueSave_rrx (s : State) (t : Trigger) : (s.queueSave t).rrx = s.rrx := rfl
@[simp] theorem State.queueSave_dsc (s : State) (t : Trigger) : (s.queueSave t).dsc = s.dsc := rfl
@[simp] theorem State.queueSave_ftx (s : State) (t : Trigger) : (s.queueSave t).ftx = s.ftx := rfl
@[simp] theorem State.queueSave_lqu (s : State) (t : Trigger) : (s.queueSave t).lqu = s.lqu := rfl
@[simp] theorem State.queueSave_evq (s : State) (t : Trigger) : (s.queueSave t).evq = s.evq := rfl
@[simp] theorem State.queueSave_tlu (s : State) (t : Trigger) : (s.queueSave t).tlu = s.tlu := rfl
@[simp] theorem State.queueSave_shu (s : State) (t : Trigger) : (s.queueSave t).shu = s.shu := rfl
@[simp] theorem State.queueSave_stc (s : State) (t : Trigger) : (s.queueSave t).stc = { s.stc with queued := some (s.stc.queued.getD t) } := rfl
@[simp] theorem State.queueSave_lkc (s : State) (t : Trigger) : (s.queueSave t).lkc = s.lkc := rfl
@[simp] theorem State.queueSave_ntc (s : State) (t : Trigger) : (s.queueSave t).ntc = s.ntc := rfl
@[simp] theorem State.queueSave_cfg (s : State) (t : Trigger) : (s.queueSave t).cfg = s.cfg := rfl
@[simp] theorem State.queueSave_draws (s : State) (t : Trigger) : (s.queueSave t).draws = s.draws := rfl
@[simp] theorem State.queueSave_pending (s : State) (t : Trigger) : (s.queueSave t).pending = s.pending := rfl

/-! ### setSrc -/

@[simp] theorem State.setSrc_tsc (s : State) (x : Source) (d : SourceData) : (s.setSrc x d).tsc = s.tsc := rfl
@[simp] theorem State.setSrc_rrx (s : State) (x : Source) (d : SourceData) : (s.setSrc x d).rrx = s.rrx.setSrc x d := rfl
@[simp] theorem State.setSrc_dsc (s : State) (x : Source) (d : SourceData) : (s.setSrc x d).dsc = s.dsc := rfl
@[simp] theorem State.setSrc_ftx (s : State) (x : Source) (d : SourceData) : (s.setSrc x d).ftx = s.ftx := rfl
@[simp] theorem State.setSrc_lqu (s : State) (x : Source) (d : SourceData) : (s.setSrc x d).lqu = s.lqu := rfl
@[simp] theorem State.setSrc_evq (s : State) (x : Source) (d : SourceData) : (s.setSrc x d).evq = s.evq := rfl
@[simp] theorem State.setSrc_tlu (s : State) (x : Source) (d : SourceData) : (s.setSrc x d).tlu = s.tlu := rfl
@[simp] theorem State.setSrc_shu (s : State) (x : Source) (d : SourceData) : (s.setSrc x d).shu = s.shu := rfl
@[simp] theorem State.setSrc_stc (s : State) (x : Source) (d : SourceData) : (s.setSrc x d).stc = s.stc := rfl
@[simp] theorem State.setSrc_lkc (s : State) (x : Source) (d : SourceData) : (s.setSrc x d).lkc = s.lkc := rfl
@[simp] theorem State.setSrc_ntc (s : State) (x : Source) (d : SourceData) : (s.setSrc x d).ntc = s.ntc := rfl
@[simp] theorem State.setSrc_cfg (s : State) (x : Source) (d : SourceData) : (s.setSrc x d).cfg = s.cfg := rfl
@[simp] theorem State.setSrc_draws (s : State) (x : Source) (d : SourceData) : (s.setSrc x d).draws = s.draws := rfl
@[simp] theorem State.setSrc_pending (s : State) (x : Source) (d : SourceData) : (s.setSrc x d).pending = s.pending := rfl

end Sys2Proof.Machine
end

