-- ==== Sys2Proof/Laws/Tables.lean ====
section
/-! SUPPORT. Numbered tables, lists of changes and free orders: what reading after writing gives, what holds after
a change for each of several things, and that a free order loses and adds nothing. -/

namespace Sys2Proof.Machine

/-! ### Numbered tables -/

section
variable {α : Type} [Inhabited α] {k : Nat}

/-- A number of the table: reading it after writing it gives what was written. -/
theorem nth_setNth_self (v : Vector α k) (i : Nat) (x : α) (h : 1 ≤ i ∧ i ≤ k) : nth (setNth v i x) i = x := by
  have h0 : i ≠ 0 := by omega
  have h1 : i - 1 < k := by omega
  simp [nth, setNth, h0, h1]

/-- Writing one number leaves what every other number reads. -/
theorem nth_setNth_other (v : Vector α k) (i j : Nat) (x : α) (h : j ≠ i) : nth (setNth v i x) j = nth v j := by
  unfold nth setNth
  by_cases hj : j = 0
  · simp [hj]
  · by_cases hi : i = 0
    · simp [hi]
    · have : i - 1 ≠ j - 1 := by omega
      simp [hj, hi, Vector.getElem?_setIfInBounds_ne, this]

omit [Inhabited α] in
/-- A number outside the table is not written. -/
theorem setNth_outside (v : Vector α k) (i : Nat) (x : α) (h : ¬(1 ≤ i ∧ i ≤ k)) : setNth v i x = v := by
  unfold setNth
  by_cases hi : i = 0
  · simp [hi]
  · have : ¬ i - 1 < k := by omega
    simp only [hi, if_false]
    ext j hj
    rw [Vector.getElem_setIfInBounds]
    have : i - 1 ≠ j := by omega
    simp [this]

/-- What a number reads is some entry of the table, when it is one of its numbers. -/
theorem nth_eq_getElem (v : Vector α k) (i : Nat) (h : 1 ≤ i ∧ i ≤ k) : nth v i = v[i - 1]'(by omega) := by
  have h0 : i ≠ 0 := by omega
  have h1 : i - 1 < k := by omega
  simp [nth, h0, h1]

end

/-- The numbers 1 to `k` are exactly those. -/
@[simp] theorem mem_numbers (k i : Nat) : i ∈ numbers k ↔ 1 ≤ i ∧ i ≤ k := by
  simp only [numbers, List.mem_map, List.mem_range]
  constructor
  · rintro ⟨a, ha, rfl⟩; omega
  · intro h; exact ⟨i - 1, by omega, by omega⟩

/-- No number comes twice. -/
theorem numbers_nodup (k : Nat) : (numbers k).Nodup := by
  unfold numbers
  exact (List.nodup_range).map (fun a b h => by simpa using h)

/-! ### A change for each of several things -/

@[simp] theorem forAll_nil {α : Type} (f : α → State → State) (s : State) : forAll [] f s = s := rfl

@[simp] theorem forAll_cons {α : Type} (x : α) (xs : List α) (f : α → State → State) (s : State) :
    forAll (x :: xs) f s = forAll xs f (f x s) := rfl

/-- A relation between states that every single change keeps is kept by all of them. -/
theorem forAll_rel {α : Type} (R : State → State → Prop) (refl : ∀ s, R s s)
    (trans : ∀ s t u, R s t → R t u → R s u) (xs : List α) (f : α → State → State)
    (h : ∀ x ∈ xs, ∀ s, R s (f x s)) (s : State) : R s (forAll xs f s) := by
  induction xs generalizing s with
  | nil => exact refl s
  | cons x xs ih =>
    exact trans _ _ _ (h x (by simp) s) (ih (fun y hy => h y (List.mem_cons_of_mem x hy)) (f x s))

/-- A property of states that every single change keeps is kept by all of them. -/
theorem forAll_keeps {α : Type} (P : State → Prop) (xs : List α) (f : α → State → State)
    (h : ∀ x ∈ xs, ∀ s, P s → P (f x s)) (s : State) (hs : P s) : P (forAll xs f s) := by
  induction xs generalizing s with
  | nil => exact hs
  | cons x xs ih => exact ih (fun y hy => h y (List.mem_cons_of_mem x hy)) _ (h x (by simp) s hs)

/-! ### Free orders -/

/-- One of the two orders is taken, after one draw. -/
theorem eitherOrder_cases (f g : State → State) (s : State) :
    eitherOrder f g s = g (f (s.setDraws (s.draws + 1))) ∨ eitherOrder f g s = f (g (s.setDraws (s.draws + 1))) := by
  simp only [eitherOrder]
  split
  · exact .inl rfl
  · exact .inr rfl

theorem freeOrderAux_perm {α : Type} (fuel draw : Nat) (xs : List α) : (freeOrderAux fuel draw xs).Perm xs := by
  induction fuel generalizing draw xs with
  | zero => simp [freeOrderAux]
  | succ n ih =>
    match xs with
    | [] => simp [freeOrderAux]
    | [x] => simp [freeOrderAux]
    | x :: y :: rest =>
      simp only [freeOrderAux]
      have hlt : Config.pickNext draw % (x :: y :: rest).length < (x :: y :: rest).length :=
        Nat.mod_lt _ (by simp)
      rw [List.getElem?_eq_getElem hlt]
      refine ((ih (draw + 1) _).append_left _).trans ?_
      simpa using List.getElem_cons_eraseIdx_perm hlt

/-- A free order is the same things in some order (entries 4 and 20). -/
theorem freeOrder_perm {α : Type} (draw : Nat) (xs : List α) : (freeOrder draw xs).Perm xs :=
  freeOrderAux_perm _ _ _

end Sys2Proof.Machine
end

