-- ==== Sys2Proof/Laws/Frames.lean ====
section
/-! SUPPORT. What each shared operation leaves as it is, in the pieces of `Part`: one lemma for each operation, for
every list of changed pieces that holds those the operation may change. -/

namespace Sys2Proof.Machine

/-! ### Frames as such -/

theorem Part.same_refl (p : Part) (s : State) : p.same s s := by cases p <;> simp [Part.same]

theorem Part.same_trans {p : Part} {s t u : State} (h : p.same s t) (h' : p.same t u) : p.same s u := by
  cases p <;> simp_all [Part.same]

theorem Unchanged.refl (L : List Part) (s : State) : Unchanged L s s := fun p _ => p.same_refl s

theorem Unchanged.trans {L : List Part} {s t u : State} (h : Unchanged L s t) (h' : Unchanged L t u) :
    Unchanged L s u := fun p hp => Part.same_trans (h p hp) (h' p hp)

/-- More pieces may be said to change. -/
theorem Unchanged.mono {L M : List Part} {s t : State} (h : Unchanged L s t) (hLM : L ⊆ M) : Unchanged M s t :=
  fun p hp => h p (fun hl => hp (hLM hl))

/-- A choice between two changes leaves what both leave. -/
theorem ite_unchanged {L : List Part} {c : Prop} [Decidable c] {s a b : State} (ha : Unchanged L s a)
    (hb : Unchanged L s b) : Unchanged L s (if c then a else b) := by
  split
  · exact ha
  · exact hb

/-- A change for each of several things leaves what each single one leaves. -/
theorem forAll_unchanged {α : Type} {L : List Part} (xs : List α) (f : α → State → State)
    (h : ∀ x ∈ xs, ∀ s, Unchanged L s (f x s)) (s : State) : Unchanged L s (forAll xs f s) :=
  forAll_rel (Unchanged L) (Unchanged.refl L) (fun _ _ _ => Unchanged.trans) xs f h s

/-- Two changes in a free order leave what both leave, but for the count of draws. -/
theorem eitherOrder_unchanged {L : List Part} (f g : State → State) (hd : Part.draws ∈ L)
    (hf : ∀ s, Unchanged L s (f s)) (hg : ∀ s, Unchanged L s (g s)) (s : State) :
    Unchanged L s (eitherOrder f g s) := by
  have h0 : Unchanged L s (s.setDraws (s.draws + 1)) := by
    intro p hp
    cases p <;> first | (exact absurd hd hp) | simp [Part.same]
  rcases eitherOrder_cases f g s with h | h <;> rw [h]
  · exact (h0.trans (hf _)).trans (hg _)
  · exact (h0.trans (hg _)).trans (hf _)

/-! ### Updates of whole blocks -/

section
variable {L : List Part} (s : State)

theorem setRrx_unchanged (h : .rrx ∈ L) (x : Receiver) : Unchanged L s (s.setRrx x) := by
  intro p hp; cases p <;> first | exact absurd h hp | simp [Part.same]

theorem setDsc_unchanged (h : .dsc ∈ L) (x : Discipline) : Unchanged L s (s.setDsc x) := by
  intro p hp; cases p <;> first | exact absurd h hp | simp [Part.same]

theorem setFtx_unchanged (h : .ftx ∈ L) (x : Feed) : Unchanged L s (s.setFtx x) := by
  intro p hp; cases p <;> first | exact absurd h hp | simp [Part.same]

theorem setLqu_unchanged (h : .lqu ∈ L) (x : Vector Line 32) : Unchanged L s (s.setLqu x) := by
  intro p hp; cases p <;> first | exact absurd h hp | simp [Part.same]

theorem setEvq_unchanged (h : .evq ∈ L) (x : EventQueue) : Unchanged L s (s.setEvq x) := by
  intro p hp; cases p <;> first | exact absurd h hp | simp [Part.same]

theorem setTlu_unchanged (h : .tlu ∈ L) (x : TallyUnit) : Unchanged L s (s.setTlu x) := by
  intro p hp; cases p <;> first | exact absurd h hp | simp [Part.same]

theorem setStc_unchanged (h : .stc ∈ L) (x : StoreController) : Unchanged L s (s.setStc x) := by
  intro p hp; cases p <;> first | exact absurd h hp | simp [Part.same]

theorem setLkc_unchanged (h : .lkc ∈ L) (x : LinkController) : Unchanged L s (s.setLkc x) := by
  intro p hp; cases p <;> first | exact absurd h hp | simp [Part.same]

theorem setNtc_unchanged (h : .ntc ∈ L) (x : NoticeUnit) : Unchanged L s (s.setNtc x) := by
  intro p hp; cases p <;> first | exact absurd h hp | simp [Part.same]

theorem setCfg_unchanged (h : .cfg ∈ L) (x : Settings) : Unchanged L s (s.setCfg x) := by
  intro p hp; cases p <;> first | exact absurd h hp | simp [Part.same]

theorem setDraws_unchanged (h : .draws ∈ L) (x : Nat) : Unchanged L s (s.setDraws x) := by
  intro p hp; cases p <;> first | exact absurd h hp | simp [Part.same]

theorem setCurrent_unchanged (h : .current ∈ L) (x : ShiftRecord) : Unchanged L s (s.setCurrent x) := by
  intro p hp; cases p <;> first | exact absurd h hp | simp [Part.same]

theorem setUnit_unchanged (h : .tlu ∈ L) (u : Nat) (x : GenUnit) : Unchanged L s (s.setUnit u x) :=
  setTlu_unchanged s h _

theorem setTally_unchanged (h : .tlu ∈ L) (u : Nat) (x : Tally) : Unchanged L s (s.setTally u x) :=
  setTlu_unchanged s h _

theorem setLine_unchanged (h : .lqu ∈ L) (i : Nat) (x : Line) : Unchanged L s (s.setLine i x) :=
  setLqu_unchanged s h _

theorem setSrc_unchanged (h : .rrx ∈ L) (x : Source) (d : SourceData) : Unchanged L s (s.setSrc x d) :=
  setRrx_unchanged s h _

theorem raise_unchanged (h : .ntc ∈ L) (w : Notice) : Unchanged L s (s.raise w) := setNtc_unchanged s h _

theorem hand_unchanged (h : .ntc ∈ L) (w : Notice) (b : Bool) : Unchanged L s (s.hand w b) := setNtc_unchanged s h _

theorem sendReply_unchanged (h : .lkc ∈ L) (k tag : Byte) (a : Answer) : Unchanged L s (s.sendReply k tag a) :=
  setLkc_unchanged s h _

theorem linkError_unchanged (h : .lkc ∈ L) (w : LinkError) : Unchanged L s (s.linkError w) :=
  setLkc_unchanged s h _

/-- Time that passes changes the clock alone. -/
theorem setTsc_advance_unchanged (h : .clock ∈ L) (ns : Nat) : Unchanged L s (s.setTsc (s.tsc.advance ns)) := by
  intro p hp; cases p <;> first | exact absurd h hp | simp [Part.same, TimeScale.advance]

theorem pass_unchanged (h : .clock ∈ L) (ns : Nat) : Unchanged L s (s.pass ns) := setTsc_advance_unchanged s h ns

theorem setTracker_unchanged (h : .tracker ∈ L) (m : Option LocalMinute) : Unchanged L s (s.setTracker m) := by
  intro p hp; cases p <;> first | exact absurd h hp | simp [Part.same]

theorem setFired_unchanged (h : .tracker ∈ L) (x : List (Nat × Int)) :
    Unchanged L s (s.setTsc { s.tsc with lastFired := x }) := by
  intro p hp; cases p <;> first | exact absurd h hp | simp [Part.same]

theorem setLeap_unchanged (h : .leap ∈ L) (l : Int) (p : Option PendingLeap) :
    Unchanged L s (s.setTsc { s.tsc with leap := l, pendingLeap := p }) := by
  intro p hp; cases p <;> first | exact absurd h hp | simp [Part.same]

theorem setStep_unchanged (hc : .clock ∈ L) (he : .epoch ∈ L) (hl : .leap ∈ L) (ns : Int) :
    Unchanged L s (s.setTsc (s.tsc.stepTo ns)) := by
  intro p hp
  cases p <;> first | exact absurd hc hp | exact absurd he hp | exact absurd hl hp | simp [Part.same, TimeScale.stepTo]

theorem setHandover_unchanged (h : .handover ∈ L) (st : ShiftState) (x : Option Nat) (r a : Bool) (w : Option WindowTimer) :
    Unchanged L s (s.setShu { s.shu with state := st, expected := x, release := r, accept := a, window := w }) := by
  intro p hp; cases p <;> first | exact absurd h hp | simp [Part.same]

theorem setHistory_unchanged (h : .history ∈ L) (x : List ShiftRecord) :
    Unchanged L s (s.setShu { s.shu with history := x }) := by
  intro p hp; cases p <;> first | exact absurd h hp | simp [Part.same]

theorem setTrips_unchanged (h : .trips ∈ L) (x : List OpenTrip) (o : Bool) :
    Unchanged L s (s.setShu { s.shu with openTrips := x, overflow := o }) := by
  intro p hp; cases p <;> first | exact absurd h hp | simp [Part.same]

theorem setScheduleField_unchanged (h : .schedule ∈ L) (x : List ScheduleEntry) :
    Unchanged L s (s.setShu { s.shu with schedule := x }) := by
  intro p hp; cases p <;> first | exact absurd h hp | simp [Part.same]

end

/-! ### Recording (R99, R104, R105) -/

section
variable {L : List Part} (s : State)

theorem reportLoss_unchanged (h : Part.recording ⊆ L) : Unchanged L s s.reportLoss :=
  (raise_unchanged s (h (by decide)) _).trans (setCurrent_unchanged _ (h (by decide)) _)

theorem evalWatermark_unchanged (h : .ntc ∈ L) : Unchanged L s s.evalWatermark := hand_unchanged s h _ _

theorem placeSeq_unchanged (h : Part.recording ⊆ L) (p : Placement) : Unchanged L s (s.placeSeq p).1 := by
  have he : Part.evq ∈ L := h (by decide)
  have hn : Part.ntc ∈ L := h (by decide)
  simp only [State.placeSeq]
  split
  · exact (setEvq_unchanged s he _).trans (evalWatermark_unchanged _ hn)
  · exact ((setEvq_unchanged s he _).trans (reportLoss_unchanged _ h)).trans (evalWatermark_unchanged _ hn)
  · exact ((setEvq_unchanged s he _).trans (reportLoss_unchanged _ h)).trans (evalWatermark_unchanged _ hn)

/-- Placing a record changes the queue, the notices and the shift's loss flag at most. -/
theorem place_unchanged (h : Part.recording ⊆ L) (p : Placement) : Unchanged L s (s.place p) :=
  placeSeq_unchanged s h p

theorem evalClass_unchanged (hd : .dsc ∈ L) (hc : .current ∈ L) : Unchanged L s s.evalClass := by
  simp only [State.evalClass]
  split
  · exact Unchanged.refl _ _
  · exact (setDsc_unchanged s hd _).trans (setCurrent_unchanged _ hc _)

/-! ### Tallies -/

theorem checkpoint_unchanged (ht : .tlu ∈ L) (hc : .current ∈ L) (u t : Nat) : Unchanged L s (s.checkpoint u t) :=
  (setUnit_unchanged s ht _ _).trans (setCurrent_unchanged _ hc _)

theorem evalMaintenance_unchanged (ht : .tlu ∈ L) (h : Part.recording ⊆ L) (u : Nat) :
    Unchanged L s (s.evalMaintenance u) := by
  have hn : Part.ntc ∈ L := h (by decide)
  simp only [State.evalMaintenance]
  split_ifs
  all_goals first
    | exact setTally_unchanged s ht _ _
    | exact (setTally_unchanged s ht _ _).trans (place_unchanged _ h _)
    | exact ((setTally_unchanged s ht _ _).trans (place_unchanged _ h _)).trans (hand_unchanged _ hn _ _)
    | exact (setTally_unchanged s ht _ _).trans (hand_unchanged _ hn _ _)

theorem evalAll_unchanged (ht : .tlu ∈ L) (h : Part.recording ⊆ L) : Unchanged L s s.evalAll :=
  forAll_unchanged _ _ (fun u _ s => evalMaintenance_unchanged s ht h u) s

/-- The checkpoint of every unit and the evaluations that follow change tallies, the shift's totals and what
records may change. -/
theorem checkpointAll_unchanged (ht : .tlu ∈ L) (h : Part.recording ⊆ L) : Unchanged L s s.checkpointAll :=
  (forAll_unchanged _ _ (fun u _ s => checkpoint_unchanged s ht (h (by decide)) u s.tsc.e) s).trans
    (evalAll_unchanged _ ht h)

theorem evalDiscrepancy_unchanged (h : .ntc ∈ L) : Unchanged L s s.evalDiscrepancy := hand_unchanged s h _ _

theorem expireDiscrepancy_unchanged (ht : .tlu ∈ L) (h : Part.recording ⊆ L) (u : Nat) :
    Unchanged L s (s.expireDiscrepancy u) :=
  ((setUnit_unchanged s ht _ _).trans (place_unchanged _ h _)).trans (evalDiscrepancy_unchanged _ (h (by decide)))

theorem expireIfPassed_unchanged (ht : .tlu ∈ L) (h : Part.recording ⊆ L) (u : Nat) :
    Unchanged L s (s.expireIfPassed u) := by
  simp only [State.expireIfPassed]
  split
  · split
    · exact expireDiscrepancy_unchanged s ht h u
    · exact Unchanged.refl _ _
  · exact Unchanged.refl _ _
  · exact Unchanged.refl _ _

theorem updateTimer_unchanged (ht : .tlu ∈ L) (h : Part.recording ⊆ L) (u : Nat) (old : Mode) :
    Unchanged L s (s.updateTimer u old) := by
  have hn : Part.ntc ∈ L := h (by decide)
  simp only [State.updateTimer]
  split_ifs
  · exact Unchanged.refl _ _
  · exact (setUnit_unchanged s ht _ _).trans (expireIfPassed_unchanged _ ht h u)
  · exact (setUnit_unchanged s ht _ _).trans (evalDiscrepancy_unchanged _ hn)
  · exact setUnit_unchanged s ht _ _

theorem moveTimer_unchanged (ht : .tlu ∈ L) (h : Part.recording ⊆ L) (u : Nat) : Unchanged L s (s.moveTimer u) := by
  simp only [State.moveTimer]
  split
  · exact (setUnit_unchanged s ht _ _).trans (expireIfPassed_unchanged _ ht h u)
  · exact Unchanged.refl _ _
  · exact Unchanged.refl _ _

theorem enterMode_unchanged (ht : .tlu ∈ L) (h : Part.recording ⊆ L) (u : Nat) (new : Mode) (t : Nat) (d : Date) :
    Unchanged L s (s.enterMode u new t d) :=
  (setUnit_unchanged s ht _ _).trans (updateTimer_unchanged _ ht h u _)

theorem placeMode_unchanged (h : Part.recording ⊆ L) (u : Nat) (old : Mode) (d : Option Date) :
    Unchanged L s (s.placeMode u old d) := by
  simp only [State.placeMode]
  split
  · exact place_unchanged s h _
  · exact Unchanged.refl _ _

theorem countStart_unchanged (ht : .tlu ∈ L) (hc : .current ∈ L) (u : Nat) : Unchanged L s (s.countStart u) :=
  (setTally_unchanged s ht _ _).trans (setCurrent_unchanged _ hc _)

theorem changeMode_unchanged (ht : .tlu ∈ L) (h : Part.recording ⊆ L) (u : Nat) (new : Mode) (t : Nat) (l : Latch) :
    Unchanged L s (s.changeMode u new t l) := by
  simp only [State.changeMode]
  split
  · exact ((countStart_unchanged s ht (h (by decide)) u).trans (enterMode_unchanged _ ht h _ _ _ _)).trans
      (placeMode_unchanged _ h _ _ _)
  · exact (enterMode_unchanged s ht h _ _ _ _).trans (placeMode_unchanged _ h _ _ _)

/-- A status change touches the tallies, the shift's totals and what records may change. -/
theorem statusChange_unchanged (ht : .tlu ∈ L) (h : Part.recording ⊆ L) (u : Nat) (l : Latch) :
    Unchanged L s (s.statusChange u l) := by
  have hc : Part.current ∈ L := h (by decide)
  simp only [State.statusChange]
  split_ifs
  · exact evalMaintenance_unchanged s ht h u
  · exact (checkpoint_unchanged s ht hc u _).trans (evalMaintenance_unchanged _ ht h u)
  · exact ((checkpoint_unchanged s ht hc u _).trans (changeMode_unchanged _ ht h u _ _ l)).trans
      (evalMaintenance_unchanged _ ht h u)

theorem rederive_unchanged (ht : .tlu ∈ L) (h : Part.recording ⊆ L) (u : Nat) : Unchanged L s (s.rederive u) := by
  simp only [State.rederive]
  split
  · exact Unchanged.refl _ _
  · exact (enterMode_unchanged s ht h _ _ _ _).trans (placeMode_unchanged _ h _ _ _)

theorem reconfigUnit_unchanged (ht : .tlu ∈ L) (h : Part.recording ⊆ L) (u : Nat) :
    Unchanged L s (s.reconfigUnit u) :=
  (checkpoint_unchanged s ht (h (by decide)) u _).trans (rederive_unchanged _ ht h u)

theorem evalUnits_unchanged (ht : .tlu ∈ L) (h : Part.recording ⊆ L) (us : List Nat) : Unchanged L s (s.evalUnits us) :=
  forAll_unchanged _ _ (fun u _ s => evalMaintenance_unchanged s ht h u) s

theorem presetUnit_unchanged (ht : .tlu ∈ L) (h : Part.recording ⊆ L) (f : TallyField) (v u : Nat) :
    Unchanged L s (s.presetUnit f v u) :=
  (((checkpoint_unchanged s ht (h (by decide)) u _).trans (setTally_unchanged _ ht _ _)).trans
    (place_unchanged _ h _)).trans (evalMaintenance_unchanged _ ht h u)

theorem limitUnit_unchanged (ht : .tlu ∈ L) (h : Part.recording ⊆ L) (limit u : Nat) :
    Unchanged L s (s.limitUnit limit u) :=
  (setTally_unchanged s ht _ _).trans (evalMaintenance_unchanged _ ht h u)

/-! ### Trips -/

theorem countTrip_unchanged (ht : .tlu ∈ L) (u : Nat) : Unchanged L s (s.countTrip u) := by
  simp only [State.countTrip]
  split
  · exact Unchanged.refl _ _
  · exact setTally_unchanged s ht _ _

/-- A trip offered to the list touches the list and its flag alone. -/
theorem listTrip_eq (x : ShiftUnitState) (u : Nat) (d : Date) (o : Option Nat) :
    ∃ ts b, x.listTrip u d o = { x with openTrips := ts, overflow := b } := by
  simp only [ShiftUnitState.listTrip]
  split
  · exact ⟨_, _, rfl⟩
  · split_ifs
    · exact ⟨_, _, rfl⟩
    · exact ⟨_, _, rfl⟩
    · exact ⟨_, _, rfl⟩

theorem shiftTrip_unchanged (hc : .current ∈ L) (ht : .trips ∈ L) (u : Nat) (d : Date) (o : Option Nat) :
    Unchanged L s (s.shiftTrip u d o) := by
  simp only [State.shiftTrip]
  obtain ⟨ts, b, h⟩ := listTrip_eq (s.setCurrent (s.shu.current.countTrip u)).shu u d o
  rw [h]
  exact (setCurrent_unchanged s hc _).trans (setTrips_unchanged _ ht _ _)

theorem trip_unchanged (ht : .tlu ∈ L) (hl : .trips ∈ L) (h : Part.recording ⊆ L) (line u : Nat) (l : Latch) :
    Unchanged L s (s.trip line u l) :=
  ((countTrip_unchanged s ht u).trans (placeSeq_unchanged _ h _)).trans (shiftTrip_unchanged _ (h (by decide)) hl _ _ _)

/-! ### Saves (R173 to R175) -/

theorem queueSave_unchanged (h : .stc ∈ L) (t : Trigger) : Unchanged L s (s.queueSave t) := setStc_unchanged s h _

theorem beginSave_unchanged (h : .stc ∈ L) (hd : .draws ∈ L) (t : Trigger) : Unchanged L s (s.beginSave t) :=
  (setStc_unchanged s h _).trans (setDraws_unchanged _ hd _)

theorem Part.recording_subset (h : Part.saving ⊆ L) : Part.recording ⊆ L :=
  List.Subset.trans (by decide) h

theorem takeSnapshot_unchanged (h : Part.saving ⊆ L) : Unchanged L s s.takeSnapshot :=
  (checkpointAll_unchanged s (h (by decide)) (Part.recording_subset h)).trans (setStc_unchanged _ (h (by decide)) _)

theorem startSave_unchanged (h : Part.saving ⊆ L) (t : Trigger) : Unchanged L s (s.startSave t) :=
  (beginSave_unchanged s (h (by decide)) (h (by decide)) t).trans (takeSnapshot_unchanged _ h)

/-- A save request may start a save, with the checkpoints of its start, or queue one. -/
theorem requestSave_unchanged (h : Part.saving ⊆ L) (t : Trigger) : Unchanged L s (s.requestSave t) := by
  simp only [State.requestSave]
  split
  · exact queueSave_unchanged s (h (by decide)) t
  · exact startSave_unchanged s h t

theorem setAutosave_unchanged (h : .stc ∈ L) : Unchanged L s s.setAutosave := setStc_unchanged s h _

theorem autosaveReached_unchanged (h : Part.saving ⊆ L) : Unchanged L s s.autosaveReached :=
  (setStc_unchanged s (h (by decide)) _).trans (requestSave_unchanged _ h _)

theorem autosaveIfPassed_unchanged (h : Part.saving ⊆ L) : Unchanged L s s.autosaveIfPassed := by
  simp only [State.autosaveIfPassed]
  split
  · exact Unchanged.refl _ _
  · split
    · exact autosaveReached_unchanged s h
    · exact Unchanged.refl _ _

theorem reportSave_unchanged (h : Part.recording ⊆ L) (t : Trigger) (ok : Bool) :
    Unchanged L s (s.reportSave t ok) := by
  simp only [State.reportSave]
  split
  · exact place_unchanged s h _
  · exact (place_unchanged s h _).trans (raise_unchanged _ (h (by decide)) _)

theorem nextSave_unchanged (h : Part.saving ⊆ L) : Unchanged L s s.nextSave := by
  have hs : Part.stc ∈ L := h (by decide)
  simp only [State.nextSave]
  split
  · exact setStc_unchanged s hs _
  · exact (setStc_unchanged s hs _).trans (startSave_unchanged _ h _)

theorem endSave_unchanged (h : Part.saving ⊆ L) (f : SaveInFlight) (ok : Bool) : Unchanged L s (s.endSave f ok) := by
  have hs : Part.stc ∈ L := h (by decide)
  exact ((((setStc_unchanged s hs _).trans (reportSave_unchanged _ (Part.recording_subset h) _ _)).trans
    (setStc_unchanged _ hs _)).trans (setAutosave_unchanged _ hs)).trans (nextSave_unchanged _ h)

/-! ### Shifts (R149 to R156) -/

theorem Part.saving_subset (h : Part.firing ⊆ L) : Part.saving ⊆ L := List.Subset.trans (by decide) h

theorem placeShift_unchanged (h : Part.recording ⊆ L) (ev : ShiftEvent) (crew : Nat) :
    Unchanged L s (s.placeShift ev crew) := place_unchanged s h _

theorem openShift_unchanged (hc : .current ∈ L) (hh : .history ∈ L) (crew : Nat) : Unchanged L s (s.openShift crew) := by
  simp only [State.openShift]
  split
  · exact (setHistory_unchanged s hh _).trans (setCurrent_unchanged _ hc _)
  · exact setCurrent_unchanged s hc _

theorem endHandover_unchanged (hh : .handover ∈ L) (hn : .ntc ∈ L) : Unchanged L s s.endHandover :=
  (setHandover_unchanged s hh _ _ _ _ _).trans (hand_unchanged _ hn _ _)

theorem closeRecord_unchanged (h : Part.firing ⊆ L) (k : ShiftKind) (ev : ShiftEvent) (crew d : Nat) :
    Unchanged L s (s.closeRecord k ev crew d) :=
  (((checkpointAll_unchanged s (h (by decide)) (Part.recording_subset (Part.saving_subset h))).trans
    (setHistory_unchanged _ (h (by decide)) _)).trans (setCurrent_unchanged _ (h (by decide)) _)).trans
    (placeShift_unchanged _ (Part.recording_subset (Part.saving_subset h)) _ _)

theorem requestShiftSave_unchanged (h : .stc ∈ L) (hd : .draws ∈ L) : Unchanged L s s.requestShiftSave := by
  simp only [State.requestShiftSave]
  split_ifs
  · exact queueSave_unchanged s h _
  · exact beginSave_unchanged s h hd _
  · exact Unchanged.refl _ _

/-- A close of the shift touches the shift, the tallies, the store controller and what records may change. -/
theorem closeShift_unchanged (h : Part.firing ⊆ L) (k : ShiftKind) (ev : ShiftEvent) (crew d : Nat) :
    Unchanged L s (s.closeShift k ev crew d) := by
  have hc : Part.current ∈ L := h (by decide)
  unfold State.closeShift
  extract_lets s1 s2 r s3
  have h2 : Unchanged L s s2 := ((closeRecord_unchanged s h k ev crew d).trans
    (requestShiftSave_unchanged _ (h (by decide)) (h (by decide)))).trans
    (openShift_unchanged _ hc (h (by decide)) crew)
  have h3 : Unchanged L s s3 := (h2.trans (setCurrent_unchanged _ hc _)).trans
    (endHandover_unchanged _ (h (by decide)) (h (by decide)))
  exact ite_unchanged (h3.trans (takeSnapshot_unchanged _ (Part.saving_subset h))) h3

theorem openHandover_unchanged (h : Part.firing ⊆ L) (crew w : Nat) : Unchanged L s (s.openHandover crew w) := by
  have hh : Part.handover ∈ L := h (by decide)
  simp only [State.openHandover]
  refine ((((setHandover_unchanged s hh _ _ _ _ _).trans
    (placeShift_unchanged _ (Part.recording_subset (Part.saving_subset h)) _ _)).trans
    (raise_unchanged _ (h (by decide)) _)).trans (setHandover_unchanged _ hh _ _ _ _ _))

theorem missHandover_unchanged (h : Part.firing ⊆ L) : Unchanged L s s.missHandover :=
  (((placeShift_unchanged s (Part.recording_subset (Part.saving_subset h)) _ _).trans
    (raise_unchanged _ (h (by decide)) _)).trans (setCurrent_unchanged _ (h (by decide)) _)).trans
    (endHandover_unchanged _ (h (by decide)) (h (by decide)))

theorem judgeEntry_unchanged (h : Part.firing ⊆ L) (x : ScheduleEntry) : Unchanged L s (s.judgeEntry x) := by
  simp only [State.judgeEntry]
  split
  · exact closeShift_unchanged s h _ _ _ _
  · exact openHandover_unchanged s h _ _

/-- A fired entry touches what `Part.firing` lists. -/
theorem fireEntry_unchanged (h : Part.firing ⊆ L) (x : ScheduleEntry) (day : Int) :
    Unchanged L s (s.fireEntry x day) := by
  have h0 := setFired_unchanged (L := L) s (h (by decide)) (fired s.tsc.lastFired x.start day)
  simp only [State.fireEntry]
  split
  · exact h0.trans (judgeEntry_unchanged _ h x)
  · exact (h0.trans (missHandover_unchanged _ h)).trans (judgeEntry_unchanged _ h x)

theorem minuteReport_unchanged (h : Part.firing ⊆ L) (m : LocalMinute) : Unchanged L s (s.minuteReport m) := by
  simp only [State.minuteReport]
  split
  · exact Unchanged.refl _ _
  · split
    · exact Unchanged.refl _ _
    · exact fireEntry_unchanged s h _ _

theorem jumpReport_unchanged (h : Part.firing ⊆ L) (a b : Int) : Unchanged L s (s.jumpReport a b) := by
  simp only [State.jumpReport]
  split
  · exact Unchanged.refl _ _
  · exact (forAll_unchanged _ _ (fun q _ s =>
      placeShift_unchanged s (Part.recording_subset (Part.saving_subset h)) _ _) s).trans (fireEntry_unchanged _ h _ _)

theorem pruneFired_unchanged (h : .tracker ∈ L) : Unchanged L s s.pruneFired := setFired_unchanged s h _

theorem setSchedule_unchanged (h : .schedule ∈ L) (ht : .tracker ∈ L) (xs : List ScheduleEntry) :
    Unchanged L s (s.setSchedule xs) :=
  (setScheduleField_unchanged s h xs).trans (pruneFired_unchanged _ ht)

theorem completeIfReady_unchanged (h : Part.firing ⊆ L) : Unchanged L s s.completeIfReady := by
  simp only [State.completeIfReady]
  split
  · exact closeShift_unchanged s h _ _ _ _
  · exact Unchanged.refl _ _

theorem goOverdue_unchanged (hh : .handover ∈ L) (h : Part.recording ⊆ L) : Unchanged L s s.goOverdue :=
  (((setHandover_unchanged s hh _ _ _ _ _).trans (setCurrent_unchanged _ (h (by decide)) _)).trans
    (placeShift_unchanged _ h _ _)).trans (hand_unchanged _ (h (by decide)) _ _)

/-! ### Time (R8 to R14) -/

theorem trackAdvance_unchanged (h : Part.firing ⊆ L) : Unchanged L s s.trackAdvance := by
  have ht : Part.tracker ∈ L := h (by decide)
  simp only [State.trackAdvance]
  split
  · exact Unchanged.refl _ _
  · split_ifs
    · exact (setTracker_unchanged s ht _).trans (minuteReport_unchanged _ h _)
    · exact setTracker_unchanged s ht _
    · exact Unchanged.refl _ _

theorem trackMove_unchanged (h : Part.firing ⊆ L) (held : Bool) : Unchanged L s (s.trackMove held) := by
  have ht : Part.tracker ∈ L := h (by decide)
  simp only [State.trackMove]
  split
  · exact Unchanged.refl _ _
  · split_ifs
    · exact Unchanged.refl _ _
    · exact Unchanged.refl _ _
    · exact (setTracker_unchanged s ht _).trans (jumpReport_unchanged _ h _ _)
    · exact setTracker_unchanged s ht _

theorem trackChange_unchanged (h : Part.firing ⊆ L) (held : Bool) (before : LocalMinute) :
    Unchanged L s (s.trackChange held before) := by
  simp only [State.trackChange]
  exact ite_unchanged (Unchanged.refl _ _) (trackMove_unchanged s h _)

theorem trackLeave_unchanged (h : .tracker ∈ L) : Unchanged L s s.trackLeave := setTracker_unchanged s h _

theorem reportStep_unchanged (h : Part.recording ⊆ L) (a : Int) (r : StepReason) : Unchanged L s (s.reportStep a r) :=
  (setCurrent_unchanged s (h (by decide)) _).trans (place_unchanged _ h _)

theorem Part.firing_subset (h : Part.disciplining ⊆ L) : Part.firing ⊆ L := List.Subset.trans (by decide) h

theorem Part.recording_subset' (h : Part.disciplining ⊆ L) : Part.recording ⊆ L := List.Subset.trans (by decide) h

/-- A step touches the clock, the epoch, the leap, and what a JUMP may fire. -/
theorem stepTo_unchanged (h : Part.disciplining ⊆ L) (ns : Int) (r : StepReason) (leaving : Bool) :
    Unchanged L s (s.stepTo ns r leaving) := by
  have h1 := (setStep_unchanged (L := L) s (h (by decide)) (h (by decide)) (h (by decide)) ns).trans
    (reportStep_unchanged _ (Part.recording_subset' h) (stepAmount s.tsc.totalNs (s.tsc.stepTo ns).totalNs) r)
  simp only [State.stepTo]
  split
  · exact h1.trans (trackLeave_unchanged _ (h (by decide)))
  · exact h1.trans (trackChange_unchanged _ (Part.firing_subset h) _ _)

theorem adoptLeap_unchanged (hl : .leap ∈ L) (h : Part.firing ⊆ L) (l : Int) : Unchanged L s (s.adoptLeap l) := by
  simp only [State.adoptLeap]
  split
  · exact Unchanged.refl _ _
  · exact ((setLeap_unchanged s hl _ _).trans
      (place_unchanged _ (Part.recording_subset (Part.saving_subset h)) _)).trans (trackChange_unchanged _ h _ _)

theorem takeLeapInfo_unchanged (hl : .leap ∈ L) (h : Part.firing ⊆ L) (m : StationMessage) :
    Unchanged L s (s.takeLeapInfo m) :=
  (adoptLeap_unchanged s hl h _).trans (setLeap_unchanged _ hl _ _)

theorem selfLeap_unchanged (hl : .leap ∈ L) (h : Part.recording ⊆ L) : Unchanged L s s.selfLeap := by
  simp only [State.selfLeap]
  split
  · exact Unchanged.refl _ _
  · split_ifs
    · exact (setLeap_unchanged s hl _ _).trans (place_unchanged _ h _)
    · exact setLeap_unchanged s hl _ _
    · exact Unchanged.refl _ _

theorem growU_unchanged (hd : .dsc ∈ L) (hc : .current ∈ L) : Unchanged L s s.growU := by
  simp only [State.growU]
  split
  · exact (setDsc_unchanged s hd _).trans (evalClass_unchanged _ hd hc)
  · exact (setDsc_unchanged s hd _).trans (evalClass_unchanged _ hd hc)
  · exact Unchanged.refl _ _
  · exact Unchanged.refl _ _

theorem feedBoundary_unchanged (h : .ftx ∈ L) (cls : Nat) : Unchanged L s (s.feedBoundary cls) := by
  simp only [State.feedBoundary]
  split_ifs <;> exact setFtx_unchanged s h _

/-- The work of a boundary after S has advanced. -/
theorem boundaryWork_unchanged (hl : .leap ∈ L) (hd : .dsc ∈ L) (hf : .ftx ∈ L) (h : Part.firing ⊆ L) :
    Unchanged L s s.boundaryWork :=
  ((((selfLeap_unchanged s hl (Part.recording_subset (Part.saving_subset h))).trans
    (setDraws_unchanged _ (h (by decide)) _)).trans (growU_unchanged _ hd (h (by decide)))).trans
    (feedBoundary_unchanged _ hf _)).trans (trackAdvance_unchanged _ h)

/-! ### The discipline and the receiver (Chapters 2 and 3) -/

theorem reportDisc_unchanged (hr : .rrx ∈ L) (h : Part.recording ⊆ L) (old : DiscState) :
    Unchanged L s (s.reportDisc old) :=
  ((place_unchanged s h _).trans (raise_unchanged _ (h (by decide)) _)).trans (setRrx_unchanged _ hr _)

theorem discMissing_unchanged (h : .dsc ∈ L) : Unchanged L s s.discMissing := by
  simp only [State.discMissing]
  split
  · exact setDsc_unchanged s h _
  · exact setDsc_unchanged s h _
  · exact Unchanged.refl _ _
  · exact Unchanged.refl _ _

theorem enterHoldover_unchanged (hd : .dsc ∈ L) (hr : .rrx ∈ L) (h : Part.recording ⊆ L) :
    Unchanged L s s.enterHoldover :=
  ((setDsc_unchanged s hd _).trans (evalClass_unchanged _ hd (h (by decide)))).trans (reportDisc_unchanged _ hr h _)

theorem discSelection_unchanged (hd : .dsc ∈ L) (hr : .rrx ∈ L) (h : Part.recording ⊆ L) (new : Option Source) :
    Unchanged L s (s.discSelection new) := by
  have hc : Part.current ∈ L := h (by decide)
  simp only [State.discSelection]
  split
  · exact (setDsc_unchanged s hd _).trans (evalClass_unchanged _ hd hc)
  · exact ((setDsc_unchanged s hd _).trans (setDsc_unchanged _ hd _)).trans (evalClass_unchanged _ hd hc)
  · exact ((setDsc_unchanged s hd _).trans (setDsc_unchanged _ hd _)).trans (evalClass_unchanged _ hd hc)
  · exact ((setDsc_unchanged s hd _).trans (setDsc_unchanged _ hd _)).trans (evalClass_unchanged _ hd hc)
  · exact (setDsc_unchanged s hd _).trans (enterHoldover_unchanged _ hd hr h)
  · exact (setDsc_unchanged s hd _).trans (enterHoldover_unchanged _ hd hr h)

theorem settleRevert_unchanged (h : .rrx ∈ L) : Unchanged L s s.settleRevert := setRrx_unchanged s h _

theorem placeRef_unchanged (h : Part.recording ⊆ L) (x : Source) (old new : SourceState) (sel : Option Source) :
    Unchanged L s (s.placeRef x old new sel) :=
  (place_unchanged s h _).trans (raise_unchanged _ (h (by decide)) _)

/-- An evaluation of the selection touches the receiver, the discipline and what records may change. -/
theorem evalSelection_unchanged (hd : .dsc ∈ L) (hr : .rrx ∈ L) (h : Part.recording ⊆ L) (b : Bool) :
    Unchanged L s (s.evalSelection b) := by
  simp only [State.evalSelection]
  split
  · exact settleRevert_unchanged s hr
  · exact (((setRrx_unchanged s hr _).trans (settleRevert_unchanged _ hr)).trans (placeRef_unchanged _ h _ _ _ _)).trans
      (discSelection_unchanged _ hd hr h _)

theorem orderStep_unchanged (h : Part.disciplining ⊆ L) (e : Int) (first : Bool) :
    Unchanged L s (s.orderStep e first) :=
  (stepTo_unchanged s h _ _ _).trans (setDsc_unchanged _ (h (by decide)) _)

theorem processSample_unchanged (h : Part.disciplining ⊆ L) (src : Source) (e : Int) (cls : Nat) (acq first : Bool) :
    Unchanged L s (s.processSample src e cls acq first) := by
  have hd : Part.dsc ∈ L := h (by decide)
  unfold State.processSample
  extract_lets old d s1 s2 stepped s3 s4
  have h2 : Unchanged L s s2 := (setDsc_unchanged s hd _).trans (setDsc_unchanged _ hd _)
  have h3 : Unchanged L s s3 := h2.trans (ite_unchanged (orderStep_unchanged _ h e first)
    (ite_unchanged (trackLeave_unchanged _ (h (by decide))) (Unchanged.refl _ _)))
  have h4 : Unchanged L s s4 := (h3.trans (setDsc_unchanged _ hd _)).trans (evalClass_unchanged _ hd (h (by decide)))
  exact ite_unchanged h4 (h4.trans (reportDisc_unchanged _ (h (by decide)) (Part.recording_subset' h) _))

/-- A sample handed to the discipline touches what `Part.disciplining` lists. -/
theorem discSample_unchanged (h : Part.disciplining ⊆ L) (src : Source) (e : Int) (epoch cls : Nat) :
    Unchanged L s (s.discSample src e epoch cls) := by
  have hd : Part.dsc ∈ L := h (by decide)
  simp only [State.discSample]
  split
  · exact discMissing_unchanged s hd
  · split
    · exact ((setDsc_unchanged s hd _).trans (processSample_unchanged _ h _ _ _ _ _)).trans
        (evalSelection_unchanged _ hd (h (by decide)) (Part.recording_subset' h) _)
    · exact processSample_unchanged s h _ _ _ _ _
    · exact processSample_unchanged s h _ _ _ _ _
    · split
      · exact processSample_unchanged s h _ _ _ _ _
      · exact (setDsc_unchanged s hd _).trans (processSample_unchanged _ h _ _ _ _ _)

theorem sourceMoved_unchanged (hd : .dsc ∈ L) (hr : .rrx ∈ L) (h : Part.recording ⊆ L) (x : Source) (old : SourceState) :
    Unchanged L s (s.sourceMoved x old) := by
  simp only [State.sourceMoved]
  split
  · exact Unchanged.refl _ _
  · exact (placeRef_unchanged s h _ _ _ _).trans (evalSelection_unchanged _ hd hr h _)

theorem handToDsc_unchanged (h : Part.disciplining ⊆ L) (x : Source) (ev : RefEvent) :
    Unchanged L s (s.handToDsc x ev) := by
  simp only [State.handToDsc]
  split
  · split
    · exact discSample_unchanged s h _ _ _ _
    · exact Unchanged.refl _ _
    · exact discMissing_unchanged s (h (by decide))
  · exact Unchanged.refl _ _

/-- A mark or a missing sample taken by the receiver. -/
theorem takeRefEvent_unchanged (h : Part.disciplining ⊆ L) (x : Source) (ev : RefEvent) :
    Unchanged L s (s.takeRefEvent x ev) :=
  ((setSrc_unchanged s (h (by decide)) _ _).trans
    (sourceMoved_unchanged _ (h (by decide)) (h (by decide)) (Part.recording_subset' h) _ _)).trans
    (handToDsc_unchanged _ h _ _)

theorem takeMissing_unchanged (h : Part.disciplining ⊆ L) (x : Source) : Unchanged L s (s.takeMissing x) := by
  simp only [State.takeMissing]
  split
  · exact Unchanged.refl _ _
  · exact (setRrx_unchanged s (h (by decide)) _).trans (takeRefEvent_unchanged _ h _ _)

theorem takeAbsent_unchanged (h : Part.disciplining ⊆ L) (x : Source) : Unchanged L s (s.takeAbsent x) := by
  have hr : Part.rrx ∈ L := h (by decide)
  have hm := fun t : State => sourceMoved_unchanged (L := L) t (h (by decide)) hr (Part.recording_subset' h) x
    (s.rrx.src x).state
  simp only [State.takeAbsent]
  split
  · exact ((setSrc_unchanged s hr _ _).trans (setRrx_unchanged _ hr _)).trans (hm _)
  · exact (setSrc_unchanged s hr _ _).trans (hm _)

theorem takeDeferredMissing_unchanged (h : Part.disciplining ⊆ L) (mark fuel : Nat) :
    Unchanged L s (s.takeDeferredMissing mark fuel) := by
  induction fuel generalizing s with
  | zero => exact Unchanged.refl _ _
  | succ n ih =>
    simp only [State.takeDeferredMissing]
    split
    · exact (takeMissing_unchanged s h _).trans (ih _)
    · exact Unchanged.refl _ _

theorem takeDeferred_unchanged (h : Part.disciplining ⊆ L) (mark : Nat) : Unchanged L s (s.takeDeferred mark) := by
  simp only [State.takeDeferred]
  split
  · exact (takeDeferredMissing_unchanged s h _ _).trans (takeAbsent_unchanged _ h _)
  · exact takeDeferredMissing_unchanged s h _ _

theorem discard_unchanged (h : Part.disciplining ⊆ L) (why : Discard) (mark : Nat) :
    Unchanged L s (s.discard why mark) :=
  (setRrx_unchanged s (h (by decide)) _).trans (takeDeferred_unchanged _ h _)

theorem acceptFrame_unchanged (h : Part.disciplining ⊆ L) (mark : Latch) (m : StationMessage) :
    Unchanged L s (s.acceptFrame mark m) :=
  (setRrx_unchanged s (h (by decide)) _).trans (eitherOrder_unchanged _ _ (h (by decide))
    (fun t => takeLeapInfo_unchanged t (h (by decide)) (Part.firing_subset h) m)
    (fun t => takeRefEvent_unchanged t h _ _) _)

theorem takeFrame_unchanged (h : Part.disciplining ⊆ L) (mark : Latch) (m : StationMessage) (check : BitVec 16) :
    Unchanged L s (s.takeFrame mark m check) := by
  simp only [State.takeFrame]
  split
  · exact discard_unchanged s h _ _
  · exact acceptFrame_unchanged s h _ _

theorem revertExpires_unchanged (hd : .dsc ∈ L) (hr : .rrx ∈ L) (h : Part.recording ⊆ L) :
    Unchanged L s s.revertExpires :=
  (setRrx_unchanged s hr _).trans (evalSelection_unchanged _ hd hr h _)

/-! ### Lines (Chapter 5) -/

theorem setEffective_unchanged (h : .lqu ∈ L) (i : Nat) (b : Bool) : Unchanged L s (s.setEffective i b) :=
  setLine_unchanged s h _ _

theorem notifyTrip_unchanged (h : .ntc ∈ L) (i : Nat) : Unchanged L s (s.notifyTrip i) := by
  simp only [State.notifyTrip]
  split
  · exact raise_unchanged s h _
  · exact Unchanged.refl _ _

theorem tripPath_unchanged (ht : .tlu ∈ L) (hl : .trips ∈ L) (h : Part.recording ⊆ L) (i : Nat) (l : Latch) :
    Unchanged L s (s.tripPath i l) :=
  (trip_unchanged s ht hl h _ _ _).trans (notifyTrip_unchanged _ (h (by decide)) _)

theorem placeIfRecorded_unchanged (h : Part.recording ⊆ L) (i : Nat) (p : Placement) :
    Unchanged L s (s.placeIfRecorded i p) := by
  simp only [State.placeIfRecorded]
  split
  · exact place_unchanged s h _
  · exact Unchanged.refl _ _

theorem handOn_unchanged (ht : .tlu ∈ L) (hl : .trips ∈ L) (h : Part.recording ⊆ L) (i : Nat) (b : Bool) (l : Latch) :
    Unchanged L s (s.handOn i b l) := by
  simp only [State.handOn]
  split
  · exact Unchanged.refl _ _
  · exact placeIfRecorded_unchanged s h _ _
  all_goals first
    | (split
       · exact placeIfRecorded_unchanged s h _ _
       · exact (placeIfRecorded_unchanged s h _ _).trans (statusChange_unchanged _ ht h _ _))
    | (split
       · exact tripPath_unchanged s ht hl h _ _
       · exact placeIfRecorded_unchanged s h _ _)

theorem deliver_unchanged (hq : .lqu ∈ L) (ht : .tlu ∈ L) (hl : .trips ∈ L) (h : Part.recording ⊆ L) (i : Nat)
    (b : Bool) (l : Latch) : Unchanged L s (s.deliver i b l) :=
  (setEffective_unchanged s hq _ _).trans (handOn_unchanged _ ht hl h _ _ _)

theorem suppress_unchanged (hq : .lqu ∈ L) (ht : .tlu ∈ L) (hl : .trips ∈ L) (h : Part.recording ⊆ L) (i : Nat)
    (p : PendingChange) : Unchanged L s (s.suppress i p) := by
  simp only [State.suppress]
  split
  · exact (setEffective_unchanged s hq _ _).trans (tripPath_unchanged _ ht hl h _ _)
  · exact Unchanged.refl _ _

theorem enterChatter_unchanged (hq : .lqu ∈ L) (ht : .tlu ∈ L) (hl : .trips ∈ L) (h : Part.recording ⊆ L) (i : Nat)
    (p : PendingChange) : Unchanged L s (s.enterChatter i p) :=
  (((suppress_unchanged s hq ht hl h i p).trans (setLine_unchanged _ hq _ _)).trans (place_unchanged _ h _)).trans
    (raise_unchanged _ (h (by decide)) _)

/-- A qualified change touches the lines, the tallies, the trip list and what records may change. -/
theorem qualify_unchanged (hq : .lqu ∈ L) (ht : .tlu ∈ L) (hl : .trips ∈ L) (h : Part.recording ⊆ L) (i : Nat)
    (p : PendingChange) : Unchanged L s (s.qualify i p) := by
  simp only [State.qualify]
  split_ifs
  · exact (setLine_unchanged s hq _ _).trans (suppress_unchanged _ hq ht hl h _ _)
  · exact (setLine_unchanged s hq _ _).trans (deliver_unchanged _ hq ht hl h _ _ _)
  · exact (setLine_unchanged s hq _ _).trans (enterChatter_unchanged _ hq ht hl h _ _)

theorem startPending_unchanged (hq : .lqu ∈ L) (ht : .tlu ∈ L) (hl : .trips ∈ L) (h : Part.recording ⊆ L) (i : Nat) :
    Unchanged L s (s.startPending i) := by
  simp only [State.startPending]
  split
  · exact (setLine_unchanged s hq _ _).trans (qualify_unchanged _ hq ht hl h _ _)
  · exact setLine_unchanged s hq _ _

theorem rawEdge_unchanged (hq : .lqu ∈ L) (ht : .tlu ∈ L) (hl : .trips ∈ L) (h : Part.recording ⊆ L) (i : Nat) :
    Unchanged L s (s.rawEdge i) := by
  simp only [State.rawEdge]
  split
  · exact (setLine_unchanged s hq _ _).trans (setLine_unchanged _ hq _ _)
  · exact (setLine_unchanged s hq _ _).trans (startPending_unchanged _ hq ht hl h _)

theorem pinChange_unchanged (hq : .lqu ∈ L) (ht : .tlu ∈ L) (hl : .trips ∈ L) (h : Part.recording ⊆ L) (i : Nat)
    (b : Bool) : Unchanged L s (s.pinChange i b) := by
  simp only [State.pinChange]
  split_ifs
  · exact Unchanged.refl _ _
  · exact setLine_unchanged s hq _ _
  · exact (setLine_unchanged s hq _ _).trans (rawEdge_unchanged _ hq ht hl h _)

theorem leaveChatter_unchanged (hq : .lqu ∈ L) (ht : .tlu ∈ L) (hl : .trips ∈ L) (h : Part.recording ⊆ L) (i : Nat) :
    Unchanged L s (s.leaveChatter i) := by
  simp only [State.leaveChatter]
  split
  · exact ((place_unchanged s h _).trans (setLine_unchanged _ hq _ _)).trans (deliver_unchanged _ hq ht hl h _ _ _)
  · exact (place_unchanged s h _).trans (setLine_unchanged _ hq _ _)

theorem resetLine_unchanged (h : .lqu ∈ L) (i : Nat) : Unchanged L s (s.resetLine i) := by
  simp only [State.resetLine]
  split <;> exact setLine_unchanged s h _ _

theorem tellUnits_unchanged (ht : .tlu ∈ L) (hd : .draws ∈ L) (h : Part.recording ⊆ L) (us : List Nat) :
    Unchanged L s (s.tellUnits us) := by
  have hu := fun u t => reconfigUnit_unchanged (L := L) t ht h u
  simp only [State.tellUnits]
  split
  · exact eitherOrder_unchanged _ _ hd (hu _) (hu _) s
  · exact forAll_unchanged _ _ (fun u _ t => hu u t) s

theorem reconfigLine_unchanged (hq : .lqu ∈ L) (ht : .tlu ∈ L) (hd : .draws ∈ L) (h : Part.recording ⊆ L) (i : Nat)
    (old : LineSettings) : Unchanged L s (s.reconfigLine i old) :=
  (resetLine_unchanged s hq i).trans (tellUnits_unchanged _ ht hd h _)

theorem injectLine_unchanged (h : Part.recording ⊆ L) (i : Nat) (b : Bool) : Unchanged L s (s.injectLine i b) := by
  have h0 := place_unchanged s h (s.injectedRecord i b)
  simp only [State.injectLine]
  split
  · exact h0.trans (notifyTrip_unchanged _ (h (by decide)) _)
  · exact h0

/-! ### Requests -/

/-- A request whose owner touches no more than `L` touches no more than `L` and the link. -/
theorem takeRequest_unchanged (hk : .lkc ∈ L) (k : Kind) (tag : Byte) (serve : State → State × Answer)
    (h : Unchanged L s (serve s).1) : Unchanged L s (s.takeRequest k tag serve) := by
  simp only [State.takeRequest]
  split_ifs
  · exact linkError_unchanged s hk _
  · exact sendReply_unchanged s hk _ _ _
  · exact h.trans (sendReply_unchanged _ hk _ _ _)

end

end Sys2Proof.Machine
end

