-- ==== Sys2Proof/Laws/Ops.lean ====
section
/-! SUPPORT. What the shared operations can do, said once for each: counts, time, records, notices, classes,
checkpoints, evaluations, requests, saves and candidates. -/

namespace Sys2Proof.Machine

/-! ### Counts -/

/-- A held count never passes its largest value. -/
theorem satAdd_le (x d hi : Nat) : satAdd x d hi ≤ hi := Nat.min_le_right _ _

/-- A held count never falls, while it is in range. -/
theorem le_satAdd {x hi : Nat} (d : Nat) (h : x ≤ hi) : x ≤ satAdd x d hi := by simp only [satAdd]; omega

/-- A clamped value lies between the ends. -/
theorem clampInt_mem {lo hi : Int} (x : Int) (h : lo ≤ hi) : lo ≤ clampInt x lo hi ∧ clampInt x lo hi ≤ hi := by
  simp only [clampInt]; split_ifs <;> omega

/-- A clamp is the larger of the low end and the smaller of the high end and the value. -/
theorem clampInt_eq {lo hi : Int} (x : Int) (h : lo ≤ hi) : clampInt x lo hi = max lo (min x hi) := by
  simp only [clampInt]; split_ifs <;> omega

/-- A clamp under ±limit stays there. -/
theorem clampInt_limit (x : Int) (limit : Nat) :
    -(limit : Int) ≤ clampInt x (-(limit : Int)) limit ∧ clampInt x (-(limit : Int)) limit ≤ limit :=
  clampInt_mem x (by omega)

/-! ### Time (R1, R2, R8) -/

/-- Time that passes stays in range. -/
theorem TimeScale.advance_inRange {t : TimeScale} (ns : Nat) (h : t.inRange) : (t.advance ns).inRange := by
  obtain ⟨-, -, he, -, hf⟩ := h
  exact ⟨Nat.mod_lt _ (by decide), Nat.mod_lt _ (by decide), he, Nat.mod_lt _ (by decide), hf⟩

/-- No time passing changes nothing, in range. -/
theorem TimeScale.advance_zero {t : TimeScale} (h : t.inRange) : t.advance 0 = t := by
  obtain ⟨hs, hn, -, hsub, -⟩ := h
  simp only [TimeScale.advance, Nat.add_zero, Nat.div_eq_of_lt hn, Nat.mod_eq_of_lt hs, Nat.mod_eq_of_lt hn,
    Nat.div_eq_of_lt hsub, Nat.mod_eq_of_lt hsub]

/-- Elapsed time counts every ns that passes. -/
@[simp] theorem TimeScale.elapsed_advance (t : TimeScale) (ns : Nat) : (t.advance ns).elapsed = t.elapsed + ns := by
  simp only [TimeScale.elapsed, TimeScale.advance]; omega

/-- Time brought to an instant stays in range. -/
theorem TimeScale.reach_inRange {t : TimeScale} (at' : Nat) (h : t.inRange) : (t.reach at').inRange := by
  simp only [TimeScale.reach]
  split
  · exact h
  · exact TimeScale.advance_inRange _ h

/-- An instant already reached: time stands. -/
theorem TimeScale.reach_of_le {t : TimeScale} {at' : Nat} (hle : at' ≤ t.e) : t.reach at' = t := by
  have : at' * 1000 ≤ t.elapsed := by simp only [TimeScale.elapsed]; omega
  simp only [TimeScale.reach, this, if_true]

/-- Time brought to an instant: E is that instant, or the later one it held. -/
theorem TimeScale.reach_e {t : TimeScale} (at' : Nat) (h : t.inRange) : (t.reach at').e = max t.e at' := by
  obtain ⟨-, -, -, hsub, -⟩ := h
  simp only [TimeScale.reach]
  split <;> simp only [TimeScale.elapsed, TimeScale.advance] at * <;> omega

/-- A step leaves station time in its range, E as it was, and the epoch one on (R8). -/
theorem TimeScale.stepTo_inRange {t : TimeScale} (ns : Int) (h : t.inRange) :
    (t.stepTo ns).inRange ∧ (t.stepTo ns).e = t.e ∧ (t.stepTo ns).epoch = (t.epoch + 1) % 256 := by
  obtain ⟨-, -, -, hsub, hf⟩ := h
  have hv : (clampInt ns 0 maxStationNs).toNat < secondsModulus * nsPerS := by
    have h1 := (clampInt_mem ns (lo := 0) (hi := maxStationNs) (by decide)).2
    have h2 : maxStationNs = 1099511627775999999999 := by decide
    have h3 : secondsModulus * nsPerS = 1099511627776000000000 := by decide
    rw [h3]; rw [h2] at h1 ⊢; omega
  refine ⟨⟨?_, Nat.mod_lt _ (by decide), Nat.mod_lt _ (by decide), hsub, hf⟩, rfl, rfl⟩
  exact Nat.div_lt_of_lt_mul (by rw [Nat.mul_comm]; exact hv)

/-! ### Notices (R193 to R195) -/

/-- What NTC keeps between its flags, its conditions and ATTN. -/
def NoticeUnit.consistent (n : NoticeUnit) (mask : BitVec 14) : Prop :=
  n.attn = attnOf n.flags mask ∧ n.conditions &&& n.flags = n.conditions

/-- Raising a notice keeps what NTC keeps. -/
theorem NoticeUnit.raise_consistent {n : NoticeUnit} {mask : BitVec 14} (w : Notice) (h : n.consistent mask) :
    (n.raise w mask).consistent mask := by
  refine ⟨rfl, ?_⟩
  have := h.2
  simp only [NoticeUnit.raise, NoticeUnit.withFlags]
  rw [← this, BitVec.and_assoc]
  congr 1
  ext i hi
  simp only [BitVec.getElem_and, BitVec.getElem_or]
  cases n.flags[i] <;> simp

/-- Handing a condition keeps what NTC keeps. -/
theorem NoticeUnit.hand_consistent {n : NoticeUnit} {mask : BitVec 14} (w : Notice) (b : Bool)
    (h : n.consistent mask) : (n.hand w b mask).consistent mask := by
  simp only [NoticeUnit.hand]
  split_ifs
  · exact h
  · refine ⟨rfl, ?_⟩
    have h2 := (NoticeUnit.raise_consistent w h).2
    simp only [NoticeUnit.raise, NoticeUnit.withFlags] at h2 ⊢
    ext i hi
    have := congrArg (fun v => v[i]) h2
    simp only [BitVec.getElem_and, BitVec.getElem_or] at this ⊢
    cases hc : n.conditions[i] <;> cases hf : n.flags[i] <;> cases hw : w.bit[i] <;> simp_all
  · refine ⟨h.1, ?_⟩
    have h2 := h.2
    ext i hi
    have := congrArg (fun v => v[i]) h2
    simp only [BitVec.getElem_and] at this ⊢
    cases hc : n.conditions[i] <;> cases hf : n.flags[i] <;> simp_all

/-- A flag that is raised is set, and every other keeps its value. -/
theorem NoticeUnit.raise_flags (n : NoticeUnit) (w : Notice) (mask : BitVec 14) :
    (n.raise w mask).flags = n.flags ||| w.bit ∧ (n.raise w mask).conditions = n.conditions := ⟨rfl, rfl⟩

/-! ### Records (R98 to R104) -/

/-- An appended record keeps the queue in order. -/
theorem EventQueue.append_consistent {q : EventQueue} {n : Nat} {r : Record} (h : q.consistent) (hn : q.nextSeq = some n)
    (hlen : q.records.length < queueCapacity) (hd : r.delivered = false) : (q.append n r).consistent := by
  obtain ⟨-, hp, hs, k, hk, hk1, hk2⟩ := h
  obtain ⟨hmax, hlt⟩ := hs n hn
  refine ⟨?_, ?_, ?_, min k q.records.length, by omega, ?_, ?_⟩
  · simp only [EventQueue.append, List.length_append, List.length_singleton]; omega
  · simp only [EventQueue.append, List.pairwise_append]
    refine ⟨hp, List.pairwise_singleton _ _, ?_⟩
    intro a ha b hb
    obtain rfl : b = { r with seq := n } := by simpa using hb
    exact hlt a ha
  · intro m hm
    simp only [EventQueue.append] at hm
    split at hm
    · exact nomatch hm
    · rename_i hne
      obtain rfl : n + 1 = m := by simpa using hm
      refine ⟨by omega, ?_⟩
      intro x hx
      simp only [EventQueue.append, List.mem_append, List.mem_singleton] at hx
      rcases hx with hx | rfl
      · exact Nat.lt_succ_of_lt (hlt x hx)
      · exact Nat.lt_succ_self n
  · intro x hx
    simp only [EventQueue.append] at hx
    rw [List.take_append_of_le_length (by omega)] at hx
    refine hk1 x ?_
    rcases Nat.le_total k q.records.length with h' | h'
    · rwa [Nat.min_eq_left h'] at hx
    · rw [Nat.min_eq_right h'] at hx
      rw [List.take_length] at hx
      rwa [List.take_of_length_le h']
  · intro x hx
    simp only [EventQueue.append] at hx
    rw [List.drop_append_of_le_length (by omega)] at hx
    rcases List.mem_append.mp hx with hx | hx
    · refine hk2 x ?_
      rcases Nat.le_total k q.records.length with h' | h'
      · rwa [Nat.min_eq_left h'] at hx
      · rw [Nat.min_eq_right h', List.drop_of_length_le (Nat.le_refl _)] at hx
        exact nomatch hx
    · obtain rfl : x = { r with seq := n } := by simpa using hx
      exact hd

/-- Counting a loss leaves the records and the numbers alone. -/
theorem EventQueue.countLoss_consistent {q : EventQueue} (trip : Bool) (h : q.consistent) :
    (q.countLoss trip).consistent := h

/-- Removing records, but for delivered ones, keeps the queue in order. -/
theorem EventQueue.eraseP_consistent {q : EventQueue} (pick : Record → Bool) (n : Nat) (h : q.consistent)
    (hp : ∀ r, pick r = true → r.delivered = false) :
    ({ q with records := q.records.eraseP pick, overwritten := n } : EventQueue).consistent := by
  obtain ⟨hl, ho, hs, k, hk, hk1, hk2⟩ := h
  have hsub : (q.records.eraseP pick).Sublist q.records := List.eraseP_sublist
  refine ⟨Nat.le_trans hsub.length_le hl, ho.sublist hsub, ?_, k, hk, ?_, ?_⟩
  · intro m hm
    exact ⟨(hs m hm).1, fun r hr => (hs m hm).2 r (hsub.subset hr)⟩
  all_goals
    have hsplit : q.records.eraseP pick = q.records.take k ++ (q.records.drop k).eraseP pick := by
      conv_lhs => rw [← List.take_append_drop k q.records]
      refine List.eraseP_append_right _ ?_
      intro r hr hpick
      have := hk1 r hr
      rw [hp r hpick] at this
      exact nomatch this
    intro r hr
    simp only [hsplit] at hr
  · rcases Nat.le_total k q.records.length with h' | h'
    · rw [List.take_append_of_le_length (by simp [h'])] at hr
      exact hk1 r (List.mem_of_mem_take hr)
    · rw [List.drop_of_length_le h'] at hr
      simp only [List.eraseP_nil, List.append_nil] at hr
      exact hk1 r (List.mem_of_mem_take hr)
  · rcases Nat.le_total k q.records.length with h' | h'
    · rw [List.drop_append_of_le_length (by simp [h']), List.drop_of_length_le (by simp [h'])] at hr
      exact hk2 r (List.eraseP_sublist.subset (by simpa using hr))
    · rw [List.drop_of_length_le h'] at hr
      simp only [List.eraseP_nil, List.append_nil] at hr
      rw [List.drop_of_length_le (by simp)] at hr
      exact nomatch hr

/-! ### The class (R50, R148) -/

/-- The effective class is evaluated to the one of R50, and the shift keeps the worse of it and its own; nothing
else of DSC changes. -/
theorem State.evalClass_dsc (s : State) : s.evalClass.dsc = { s.dsc with effClass := s.dsc.classNow } := by
  simp only [State.evalClass]
  split_ifs with h
  · rw [h]
  · rfl

/-- The worst class after an evaluation. -/
theorem State.evalClass_worst (s : State) (h : s.dsc.effClass ≤ s.shu.current.worstClass) :
    s.evalClass.shu.current.worstClass = max s.shu.current.worstClass s.dsc.classNow := by
  simp only [State.evalClass]
  split_ifs with hc
  · omega
  · rfl

/-- The class that an evaluation finds is the one it leaves. -/
theorem Discipline.classNow_effClass (d : Discipline) (c : Nat) : ({ d with effClass := c }).classNow = d.classNow := rfl

/-! ### Tallies (R118, R120, R134) -/

/-- A booking keeps an accumulator in its ranges. -/
theorem Acc.book_inRange (a : Acc) (d : Nat) : (a.book d).inRange := by
  simp only [Acc.book, Acc.overflows, Acc.inRange, decide_eq_true_eq]
  split_ifs with h
  · exact ⟨Nat.le_refl _, Nat.le_refl _⟩
  · exact ⟨Nat.not_lt.mp h, by show (a.rem + d) % 1000000 ≤ 999999; omega⟩

/-- A booking adds its µs, or leaves the accumulator at its largest value. -/
theorem Acc.book_total (a : Acc) (d : Nat) :
    (a.book d).total = if a.overflows d then max32 * 1000000 + 999999 else a.total + d := by
  simp only [Acc.book]
  split_ifs with h
  · rfl
  · simp only [Acc.total]; omega

/-- A booking never lowers an accumulator in its ranges. -/
theorem Acc.le_book_total {a : Acc} (d : Nat) (h : a.inRange) : a.total ≤ (a.book d).total := by
  rw [Acc.book_total]
  obtain ⟨h1, h2⟩ := h
  split_ifs
  · simp only [Acc.total]; omega
  · omega

/-- A mode's accumulator set and read. -/
theorem Accs.get_set (a : Accs) (m m' : Mode) (x : Acc) (h : m ≠ .none) :
    (a.set m x).get m' = if m' = m then x else a.get m' := by
  cases m <;> cases m' <;> first | exact absurd rfl h | rfl

/-- What a checkpoint leaves of a unit: everything but its tallies, SAT and its checkpoint instant (R118). -/
theorem GenUnit.checkpoint_keeps (g : GenUnit) (t : Nat) :
    (g.checkpoint t).mode = g.mode ∧ (g.checkpoint t).entry = g.entry ∧ (g.checkpoint t).entryDate = g.entryDate
      ∧ (g.checkpoint t).timer = g.timer ∧ (g.checkpoint t).tally.starts = g.tally.starts
      ∧ (g.checkpoint t).tally.trips = g.tally.trips ∧ (g.checkpoint t).tally.baseline = g.tally.baseline
      ∧ (g.checkpoint t).tally.limit = g.tally.limit ∧ (g.checkpoint t).tally.due = g.tally.due := by
  simp only [GenUnit.checkpoint]; split_ifs <;> exact ⟨rfl, rfl, rfl, rfl, rfl, rfl, rfl, rfl, rfl⟩

/-- A checkpoint books to the accumulator of the mode the unit is in, and to no other (R118). -/
theorem GenUnit.checkpoint_accs (g : GenUnit) (t : Nat) (m : Mode) :
    (g.checkpoint t).tally.accs.get m =
      if m ≠ .none ∧ m = g.mode then (g.tally.accs.get m).book (g.open' t) else g.tally.accs.get m := by
  simp only [GenUnit.checkpoint]
  split_ifs with h1 h2 h2
  · exact absurd (h2.2.trans h1) h2.1
  · rfl
  · simp only [Accs.get_set _ _ _ _ h1, h2.2, if_true]
  · have : m ≠ g.mode ∨ m = .none := by
      rcases Classical.em (m = .none) with hn | hn
      · exact .inr hn
      · exact .inl (fun hm => h2 ⟨hn, hm⟩)
    rw [Accs.get_set _ _ _ _ h1]
    rcases this with h | h
    · rw [if_neg h]
    · subst h; rw [if_neg (Ne.symm h1)]

/-- A checkpoint of one unit (R118). -/
theorem State.checkpoint_unit (s : State) (u t v : Nat) (h : unitExists u = true) :
    (s.checkpoint u t).unit v = if v = u then (s.unit u).checkpoint t else s.unit v := by
  simp only [unitExists, decide_eq_true_eq] at h
  show nth (setNth s.tlu.units u _) v = _
  split_ifs with hv
  · subst hv; exact nth_setNth_self _ _ _ h
  · exact nth_setNth_other _ _ _ _ hv

/-- Placing a record changes no unit. -/
theorem State.place_tlu (s : State) (p : Placement) : (s.place p).tlu = s.tlu :=
  place_unchanged s (L := Part.recording) (List.Subset.refl _) p .tlu (by decide)

/-- An evaluation sets the unit's flag by R134, and nothing else of any unit. -/
theorem State.evalMaintenance_unit (s : State) (u v : Nat) (h : unitExists u = true) :
    (s.evalMaintenance u).unit v =
      if v = u then { s.unit u with tally := { (s.unit u).tally with due := decide ((s.unit u).tally.limit ≤ s.eoh u) } }
      else s.unit v := by
  simp only [unitExists, decide_eq_true_eq] at h
  have key : ∀ t : State, t.tlu = (s.setTally u { (s.unit u).tally with
      due := decide ((s.unit u).tally.limit ≤ s.eoh u) }).tlu → t.unit v =
      if v = u then { s.unit u with tally := { (s.unit u).tally with due := decide ((s.unit u).tally.limit ≤ s.eoh u) } }
      else s.unit v := by
    intro t ht
    show nth t.tlu.units v = _
    rw [ht]
    show nth (setNth s.tlu.units u _) v = _
    split_ifs with hv
    · subst hv; exact nth_setNth_self _ _ _ h
    · exact nth_setNth_other _ _ _ _ hv
  refine key _ ?_
  simp only [State.evalMaintenance]
  split_ifs <;> simp only [State.hand_tlu, State.place_tlu]

/-! ### Requests and saves (R173, R184, R185) -/

/-- What LKC can do with a request: OVERRUN, BUSY, or what the owning block answers. -/
theorem State.takeRequest_cases (s : State) (k : Kind) (tag : Byte) (serve : State → State × Answer) :
    (s.lkc.reply.isSome = true → s.takeRequest k tag serve = s.linkError .overrun)
      ∧ (s.lkc.reply = none → s.busy k = true → s.takeRequest k tag serve = s.answered k.code tag .busy [])
      ∧ (s.accepts k → s.takeRequest k tag serve =
          (serve s).1.answered k.code tag (serve s).2.result (serve s).2.body) := by
  refine ⟨fun h => ?_, fun h hb => ?_, fun h => ?_⟩
  · simp only [State.takeRequest, h, if_true]
  · simp [State.takeRequest, h, hb, State.answered]
  · obtain ⟨h1, h2⟩ := h
    simp [State.takeRequest, h1, h2, State.answered]

/-- What a save request can do: start a save, or be queued or absorbed behind the one in flight. -/
theorem State.requestSave_cases (s : State) (t : Trigger) :
    (s.stc.inFlight = none → s.requestSave t = s.startSave t)
      ∧ (s.stc.inFlight.isSome = true → s.requestSave t =
          { s with stc := { s.stc with queued := some (s.stc.queued.getD t) } }) := by
  refine ⟨fun h => ?_, fun h => ?_⟩
  · simp [State.requestSave, h]
  · simp only [State.requestSave, h, if_true]; rfl

/-- An image stored with its own format byte and check is VALID (R171). -/
@[simp] theorem Image.judge_stored (i : Image) : Store.judge (.holds i.stored) = .valid := by
  simp only [Store.judge, Image.stored, imageFormat, ne_eq, not_true_eq_false, or_self, if_false]

/-- It is loaded whole (R172). -/
@[simp] theorem Image.load_stored (i : Image) : Store.load (.holds i.stored) = some i := by
  rw [Store.load, Image.judge_stored, if_pos rfl, Image.stored]

/-! ### Candidates (R20, R21) -/

/-- What a character does to a candidate in hand: ends one whose time is over, is kept, or completes it (R20 to R22). -/
theorem State.appendChar_cases (s : State) (c : Candidate) (v : Byte) :
    (c.mark.e + candidateTime < s.tsc.e → s.appendChar c v = s.discard .mistimed c.mark.e)
      ∧ (s.tsc.e ≤ c.mark.e + candidateTime → c.bytes.length + 1 < candidateLength →
          s.appendChar c v = s.setRrx { s.rrx with candidate := some { c with bytes := c.bytes ++ [v] } })
      ∧ (s.tsc.e ≤ c.mark.e + candidateTime → candidateLength ≤ c.bytes.length + 1 → ∀ m check,
          StationMessage.ofBytes ((c.bytes ++ [v]).drop 2) = some (m, check) →
          s.appendChar c v = s.takeFrame c.mark m check) := by
  refine ⟨fun h => ?_, fun h hl => ?_, fun h hl m check hm => ?_⟩
  · simp [State.appendChar, State.isOver, h]
  · simp [State.appendChar, State.isOver, Nat.not_lt.mpr h, hl]
  · simp [State.appendChar, State.isOver, Nat.not_lt.mpr h, Nat.not_lt.mpr hl, hm]

/-- A sync pair opens a candidate or is MISTIMED: outside the window in SYNC, or on a mark 50 ms old (R2, R20, R21). -/
theorem State.openCandidate_cases (s : State) (mark : Latch) :
    (s.rrx.inWindow mark.e = true ∧ s.tsc.e < mark.e + candidateTime
        ∧ s.openCandidate mark = s.setRrx { s.rrx with candidate := some { mark := mark, bytes := [0xC3, 0x3C] } })
      ∨ ((s.rrx.inWindow mark.e = false ∨ mark.e + candidateTime ≤ s.tsc.e)
        ∧ s.openCandidate mark = s.discard .mistimed mark.e) := by
  unfold State.openCandidate State.inTime
  by_cases hw : s.rrx.inWindow mark.e = true
  · by_cases ht : s.tsc.e < mark.e + candidateTime
    · exact .inl ⟨hw, ht, by simp [hw, ht]⟩
    · exact .inr ⟨.inr (Nat.le_of_not_lt ht), by simp [ht]⟩
  · exact .inr ⟨.inl (by simpa using hw), by simp [hw]⟩

end Sys2Proof.Machine
end

