-- ==== Sys2Proof/Laws/Clock.lean ====
section
/-! SUPPORT. What the passage of time and a run of the part can do: the time it takes, a run whose end has been
reached, a run through a quiet stretch, and the induction over a run, said once. -/

namespace Sys2Proof.Machine

/-! ### Time passing -/

@[simp] theorem State.pass_elapsed (s : State) (ns : Nat) : (s.pass ns).tsc.elapsed = s.tsc.elapsed + ns := by simp

/-- Short of a boundary only the clock moves. -/
theorem State.passTime_of_lt {s : State} {ns : Nat} (h : s.tsc.n + ns < nsPerS) : s.passTime ns = s.pass ns := by
  simp only [State.passTime, h, if_true]

/-- A boundary reached is carried out there. -/
theorem State.passTime_toBoundary {s : State} (h : s.tsc.n < nsPerS) :
    s.passTime s.tsc.toBoundary = ((s.pass s.tsc.toBoundary).atBoundary).pass 0 := by
  have : ¬ s.tsc.n + s.tsc.toBoundary < nsPerS := by simp only [TimeScale.toBoundary]; omega
  simp only [State.passTime, this, if_false, Nat.sub_self]

/-- With no event at its instant a boundary is its work alone. -/
theorem State.atBoundary_of_nil {s : State} (h : s.dueEvents = []) : s.atBoundary = s.boundaryWork := by
  simp only [State.atBoundary, h, List.isEmpty_nil, if_true]

/-! ### A run -/

/-- A run whose end has been reached does nothing. -/
theorem State.runAux_of_le {s : State} {goal fuel : Nat} (h : goal ≤ s.tsc.elapsed) :
    State.runAux (fuel + 1) goal s = s := by simp only [State.runAux, h, if_true]

theorem State.runTo_of_le {s : State} {goal : Nat} (h : goal ≤ s.tsc.elapsed) : s.runTo goal = s :=
  State.runAux_of_le h

theorem State.runToE_of_le {s : State} {at' : Nat} (h : at' ≤ s.tsc.e) : s.runToE at' = s :=
  State.runTo_of_le (by simp only [TimeScale.elapsed]; omega)

/-- An event that is due has an instant that E has reached. -/
theorem State.isDue_iff (s : State) (ev : TimedEvent) :
    s.isDue ev = true ↔ ∃ x, ev.instant s = some x ∧ x ≤ s.tsc.e := by
  unfold State.isDue
  cases ev.instant s <;> simp

/-- In a quiet stretch that lies ahead nothing is due. -/
theorem State.dueEvents_of_quiet {s : State} {goal : Nat} (hq : s.quiet goal) (h : s.tsc.elapsed < goal) :
    s.dueEvents = [] := by
  rw [State.dueEvents, List.filter_eq_nil_iff]
  intro ev hev hdue
  obtain ⟨x, hx, hle⟩ := (s.isDue_iff ev).1 hdue
  have := hq ev hev x hx
  simp only [TimeScale.elapsed] at h
  omega

theorem State.pickDue_of_nil {s : State} (h : s.dueEvents = []) : s.pickDue = none := by
  rw [State.pickDue, h]; rfl

/-- A minimum over instants that all lie at or past the goal is the goal. -/
theorem foldl_min_eq {xs : List Nat} {goal : Nat} (h : ∀ x ∈ xs, goal ≤ x * 1000) :
    xs.foldl (fun m t => min m (t * 1000)) goal = goal := by
  induction xs with
  | nil => rfl
  | cons x xs ih =>
    rw [List.foldl_cons, Nat.min_eq_left (h x (by simp))]
    exact ih (fun y hy => h y (by simp [hy]))

/-- In a quiet stretch the goal comes before every event. -/
theorem State.nextInstant_of_quiet {s : State} {goal : Nat} (hq : s.quiet goal) : s.nextInstant goal = goal := by
  refine foldl_min_eq (fun x hx => ?_)
  obtain ⟨ev, hev, h⟩ := List.mem_filterMap.1 hx
  exact hq ev hev x h

/-- One pass of a run through a quiet stretch. -/
theorem State.runAux_quiet {s : State} {goal fuel : Nat} (hq : s.quiet goal) (h : s.tsc.elapsed < goal) :
    State.runAux (fuel + 1) goal s = State.runAux fuel goal (s.passTime (min (goal - s.tsc.elapsed) s.tsc.toBoundary)) := by
  have hn : ¬ goal ≤ s.tsc.elapsed := by omega
  simp only [State.runAux, hn, if_false, State.pickDue_of_nil (State.dueEvents_of_quiet hq h), State.stride,
    State.nextInstant_of_quiet hq]

/-- A run through a quiet stretch without a second boundary lets time pass and does nothing else. -/
theorem State.runTo_quiet {s : State} {goal : Nat} (hq : s.quiet goal) (h : s.tsc.elapsed < goal)
    (hn : s.tsc.n + (goal - s.tsc.elapsed) < nsPerS) : s.runTo goal = s.pass (goal - s.tsc.elapsed) := by
  have hmin : min (goal - s.tsc.elapsed) s.tsc.toBoundary = goal - s.tsc.elapsed := by
    simp only [TimeScale.toBoundary]; omega
  have hend : goal ≤ (s.pass (goal - s.tsc.elapsed)).tsc.elapsed := by rw [State.pass_elapsed]; omega
  rw [State.runTo, State.runAux_quiet hq h, hmin, State.passTime_of_lt hn, State.runAux_of_le hend]

/-- A wait through a quiet stretch moves the clock alone. -/
theorem State.runToE_quiet {s : State} {at' : Nat} (h : s.quietTo at') : s.runToE at' = s.setTsc (s.tsc.reach at') := by
  by_cases hle : at' * 1000 ≤ s.tsc.elapsed
  · rw [State.runToE, State.runTo_of_le hle]
    simp only [TimeScale.reach, hle, if_true]
    rfl
  · obtain ⟨hn, hq⟩ := h.resolve_left hle
    rw [State.runToE, State.runTo_quiet hq (by omega) hn]
    simp only [TimeScale.reach, hle, if_false, State.pass]

/-- Something that time, boundary, draws and events keep. -/
structure ClockKeeps (P : State → Prop) : Prop where
  pass : ∀ s ns, P s → P (s.pass ns)
  boundary : ∀ s, P s → P s.boundaryWork
  draw : ∀ s n, P s → P (s.setDraws n)
  event : ∀ s (ev : TimedEvent), P s → P (ev.happen s)

variable {P : State → Prop}

/-- The events taken at one instant keep it. -/
theorem ClockKeeps.takeEvents (k : ClockKeeps P) (evs : List TimedEvent) {s : State} (h : P s) : P (s.takeEvents evs) := by
  induction evs generalizing s with
  | nil => exact h
  | cons ev evs ih =>
    refine ih ?_
    dsimp only
    split
    · exact k.event _ _ h
    · exact h

/-- So does the passage of time, with the boundary in it. -/
theorem ClockKeeps.passTime (k : ClockKeeps P) {s : State} (ns : Nat) (h : P s) : P (s.passTime ns) := by
  simp only [State.passTime]
  split
  · exact k.pass _ _ h
  · refine k.pass _ _ ?_
    simp only [State.atBoundary]
    split
    · exact k.boundary _ (k.pass _ _ h)
    · exact k.boundary _ (k.takeEvents _ (k.draw _ _ (k.pass _ _ h)))

/-- So does a run. -/
theorem ClockKeeps.runTo (k : ClockKeeps P) (goal : Nat) {s : State} (h : P s) : P (s.runTo goal) := by
  have key : ∀ fuel s, P s → P (State.runAux fuel goal s) := by
    intro fuel
    induction fuel with
    | zero => intro s h; exact k.passTime _ h
    | succ n ih =>
      intro s h
      simp only [State.runAux]
      split
      · exact h
      · split
        · exact ih _ (k.event _ _ (k.draw _ _ h))
        · exact ih _ (k.passTime _ h)
  exact key _ s h

/-- So does a wait, with the event at its end. -/
theorem ClockKeeps.await (k : ClockKeeps P) (ev : TimedEvent) (at' : Option Nat) {s : State} (h : P s) :
    P (s.await ev at') := by
  cases at' with
  | none => exact h
  | some t =>
    have hr : P (s.runToE t) := k.runTo _ h
    simp only [State.await]
    split
    · exact k.event _ _ hr
    · exact hr

/-- So does a tick, when what waits does not matter. -/
theorem ClockKeeps.tick (k : ClockKeeps P) (hf : ∀ s, P s → P s.keepFrac) (hq : ∀ s, P s → P s.queueDue) {s : State}
    (h : P s) : P s.tick := by
  simp only [State.tick]
  split
  · exact k.passTime _ (hf _ h)
  · exact hq _ h

/-- An event awaited through a quiet stretch that does not move its instant happens there. -/
theorem State.await_quiet {s : State} {ev : TimedEvent} {t : Nat} (h : s.quietTo t)
    (hi : ev.instant (s.setTsc (s.tsc.reach t)) = some t) :
    s.await ev (some t) = ev.happen (s.setTsc (s.tsc.reach t)) := by
  simp only [State.await, State.runToE_quiet h, hi, if_true]

/-- An instant does not depend on the clock. -/
theorem TimedEvent.instant_setTsc (ev : TimedEvent) (s : State) (x : TimeScale) :
    ev.instant (s.setTsc x) = ev.instant s := by cases ev <;> rfl

end Sys2Proof.Machine
end

