-- ==== Sys2Proof/Laws/PerInstr.lean ====
section
/-! SUPPORT. The statements made per command. `Fields`: a request row's KIND byte is read back as its kind, and its
body is one that 12.4 gives for that kind and fits a frame, which a schedule of more than 61 entries does not. -/

namespace Sys2Proof.Laws

open Sys2Proof Sys2Proof.Machine

/-- What a request row carries is a frame that R185 takes past UNKNOWN and BADLEN, but for a schedule that no frame holds. -/
def Fields.Statement (i : Instr) : Prop :=
  ∀ k tag body, requestOf i = some (k, tag, body) →
    Kind.ofCode k.code = some k
      ∧ ((∀ tag' entries, i = .schw tag' entries → entries.length ≤ 61) →
          body.length ≤ 248 ∧ (k.serve body).isSome = true)

/-- A KIND byte is read back as its kind (R185 case 1). -/
theorem Kind.ofCode_code (k : Kind) : Kind.ofCode k.code = some k := by cases k <;> rfl

/-- Two bytes joined are the field they were cut from. -/
theorem joined16 (v : BitVec 16) : v.extractLsb' 8 8 ++ v.extractLsb' 0 8 = v := by
  ext i hi
  simp only [BitVec.getElem_append, BitVec.getElem_extractLsb']
  split <;> simp_all [BitVec.getLsbD_eq_getElem]

/-- The bytes of written entries are read back as those entries (12.4). -/
theorem schwEntries_bytes (xs : List ScheduleWrite) :
    schwEntries xs.length (xs.flatMap ScheduleWrite.bytes) = some xs := by
  induction xs with
  | nil => rfl
  | cons x xs ih =>
    simp only [List.length_cons, List.flatMap_cons, ScheduleWrite.bytes, List.cons_append, List.nil_append, schwEntries, ih,
      joined16, Option.map_some]

/-- Every entry takes four bytes (12.4). -/
theorem length_entryBytes (xs : List ScheduleWrite) : (xs.flatMap ScheduleWrite.bytes).length = 4 * xs.length := by
  induction xs with
  | nil => rfl
  | cons x xs ih => simp only [List.flatMap_cons, List.length_append, ih, ScheduleWrite.bytes, List.length_cons,
      List.length_nil]; omega

/-- A row that is no request carries none. -/
theorem Fields.of_none {i : Instr} (h : requestOf i = none) : Fields.Statement i := by
  intro k tag body hk
  rw [h] at hk
  exact nomatch hk

/-- A request row: it is enough that its body fits and that its kind serves it. -/
theorem Fields.of_request {i : Instr} {k : Kind} {tag : Byte} {body : List Byte} (h : requestOf i = some (k, tag, body))
    (hb : body.length ≤ 248) (hs : (k.serve body).isSome = true) : Fields.Statement i := by
  intro k' tag' body' hk
  rw [h] at hk
  obtain ⟨rfl, rfl, rfl⟩ : k = k' ∧ tag = tag' ∧ body = body' := by simpa using hk
  exact ⟨Kind.ofCode_code k, fun _ => ⟨hb, hs⟩⟩

theorem Fields.powerOnReset (straps : BitVec 2) (pins : BitVec 32) (holdup : Bool) : Fields.Statement (.powerOnReset straps pins holdup) :=
  Fields.of_none rfl

theorem Fields.rstrt (tag : Byte) : Fields.Statement (.rstrt tag) := Fields.of_request rfl (by simp) rfl

theorem Fields.holdupAssertion : Fields.Statement (.holdupAssertion) := Fields.of_none rfl

theorem Fields.holdupRelease : Fields.Statement (.holdupRelease) := Fields.of_none rfl

theorem Fields.secondBoundary : Fields.Statement (.secondBoundary) := Fields.of_none rfl

theorem Fields.feedTransmissionEnd : Fields.Statement (.feedTransmissionEnd) := Fields.of_none rfl

theorem Fields.trd (tag : Byte) : Fields.Statement (.trd tag) := Fields.of_request rfl (by simp) rfl

theorem Fields.refaFrame (message : StationMessage) (check : BitVec 16) :
    Fields.Statement (.refaFrame message check) := Fields.of_none rfl

theorem Fields.candidateTimeout : Fields.Statement (.candidateTimeout) := Fields.of_none rfl

theorem Fields.refaBreak : Fields.Statement (.refaBreak) := Fields.of_none rfl

theorem Fields.refbPulse : Fields.Statement (.refbPulse) := Fields.of_none rfl

theorem Fields.missingSample (source : Source) : Fields.Statement (.missingSample source) := Fields.of_none rfl

theorem Fields.sourceAbsent (source : Source) : Fields.Statement (.sourceAbsent source) := Fields.of_none rfl

theorem Fields.revertTimerExpiry : Fields.Statement (.revertTimerExpiry) := Fields.of_none rfl

theorem Fields.pinj (tag : Byte) (source : Byte) (value : BitVec 32) (count : Byte) : Fields.Statement (.pinj tag source value count) :=
  Fields.of_request rfl (by simp [bytes32]) rfl

theorem Fields.refs (tag : Byte) (selector : Byte) : Fields.Statement (.refs tag selector) :=
  Fields.of_request rfl (by simp) rfl

theorem Fields.tset (tag : Byte) (seconds : BitVec 40) (micros : BitVec 24) (uncertainty : BitVec 32) : Fields.Statement (.tset tag seconds micros uncertainty) :=
  Fields.of_request rfl (by simp [bytes32]) rfl

theorem Fields.tacq (tag : Byte) : Fields.Statement (.tacq tag) := Fields.of_request rfl (by simp) rfl

theorem Fields.disc (tag : Byte) : Fields.Statement (.disc tag) := Fields.of_request rfl (by simp) rfl

theorem Fields.rawEdge (line : Nat) (pinHigh : Bool) : Fields.Statement (.rawEdge line pinHigh) := Fields.of_none rfl

theorem Fields.filterExpiry (line : Nat) : Fields.Statement (.filterExpiry line) := Fields.of_none rfl

theorem Fields.quietTimerExpiry (line : Nat) : Fields.Statement (.quietTimerExpiry line) := Fields.of_none rfl

theorem Fields.einj (tag : Byte) (line : Byte) (level : Byte) : Fields.Statement (.einj tag line level) :=
  Fields.of_request rfl (by simp) rfl

theorem Fields.lnst (tag : Byte) (selector : Byte) : Fields.Statement (.lnst tag selector) :=
  Fields.of_request rfl (by simp) rfl

theorem Fields.efls (tag : Byte) : Fields.Statement (.efls tag) := Fields.of_request rfl (by simp) rfl

theorem Fields.efch (tag : Byte) (wanted : Byte) : Fields.Statement (.efch tag wanted) :=
  Fields.of_request rfl (by simp) rfl

theorem Fields.erel (tag : Byte) (seq : BitVec 32) : Fields.Statement (.erel tag seq) :=
  Fields.of_request rfl (by simp [bytes32]) rfl

theorem Fields.discrepancyTimerExpiry (unit : Nat) : Fields.Statement (.discrepancyTimerExpiry unit) :=
  Fields.of_none rfl

theorem Fields.tlrd (tag : Byte) (unit : Byte) : Fields.Statement (.tlrd tag unit) :=
  Fields.of_request rfl (by simp) rfl

theorem Fields.tlps (tag : Byte) (selector : Byte) (n : Byte) (field : Byte) (value : BitVec 32) : Fields.Statement (.tlps tag selector n field value) :=
  Fields.of_request rfl (by simp [bytes32]) rfl

theorem Fields.periodicEvaluation : Fields.Statement (.periodicEvaluation) := Fields.of_none rfl

theorem Fields.mset (tag : Byte) (selector : Byte) (n : Byte) (limit : BitVec 32) : Fields.Statement (.mset tag selector n limit) :=
  Fields.of_request rfl (by simp [bytes32]) rfl

theorem Fields.schw (tag : Byte) (entries : List ScheduleWrite) : Fields.Statement (.schw tag entries) := by
  intro k tag' body hk
  obtain ⟨rfl, rfl, rfl⟩ : Kind.schw = k ∧ tag = tag' ∧ schwBody entries = body := by simpa [requestOf] using hk
  refine ⟨Kind.ofCode_code _, fun few => ?_⟩
  have hn : entries.length ≤ 61 := few tag entries rfl
  have hb : (byteOf entries.length).toNat = entries.length := by
    simp only [byteOf, BitVec.toNat_ofNat]; omega
  have hl : (schwBody entries).length ≤ 248 := by
    rw [schwBody, List.length_cons, length_entryBytes]; omega
  have hs : (Kind.schw.serve (schwBody entries)).isSome = true := by
    change ((schwEntries (byteOf entries.length).toNat (entries.flatMap ScheduleWrite.bytes)).map serveSchw).isSome = true
    rw [hb, schwEntries_bytes]
    rfl
  exact ⟨hl, hs⟩

theorem Fields.schr (tag : Byte) : Fields.Statement (.schr tag) := Fields.of_request rfl (by simp) rfl

theorem Fields.hrel (tag : Byte) (crew : Byte) : Fields.Statement (.hrel tag crew) :=
  Fields.of_request rfl (by simp) rfl

theorem Fields.hacc (tag : Byte) (crew : Byte) : Fields.Statement (.hacc tag crew) :=
  Fields.of_request rfl (by simp) rfl

theorem Fields.windowTimerExpiry : Fields.Statement (.windowTimerExpiry) := Fields.of_none rfl

theorem Fields.hopn (tag : Byte) (crew : Byte) (window : Option Byte) : Fields.Statement (.hopn tag crew window) := by
  cases window <;> exact Fields.of_request rfl (by simp) rfl

theorem Fields.tack (tag : Byte) (crew : Byte) (seq : BitVec 32) : Fields.Statement (.tack tag crew seq) :=
  Fields.of_request rfl (by simp [bytes32]) rfl

theorem Fields.tackAll (tag : Byte) (crew : Byte) : Fields.Statement (.tackAll tag crew) :=
  Fields.of_request rfl (by simp [bytes32]) rfl

theorem Fields.shhs (tag : Byte) (index : Byte) : Fields.Statement (.shhs tag index) :=
  Fields.of_request rfl (by simp) rfl

theorem Fields.shst (tag : Byte) : Fields.Statement (.shst tag) := Fields.of_request rfl (by simp) rfl

theorem Fields.saveEnd (readBackEqual : Bool) : Fields.Statement (.saveEnd readBackEqual) := Fields.of_none rfl

theorem Fields.save (tag : Byte) : Fields.Statement (.save tag) := Fields.of_request rfl (by simp) rfl

theorem Fields.autosaveExpiry : Fields.Statement (.autosaveExpiry) := Fields.of_none rfl

theorem Fields.dflt (tag : Byte) : Fields.Statement (.dflt tag) := Fields.of_request rfl (by simp) rfl

theorem Fields.requestFrame (kind : Byte) (tag : Byte) (body : List Byte) (check : BitVec 16) : Fields.Statement (.requestFrame kind tag body check) :=
  Fields.of_none rfl

theorem Fields.gapExpiry : Fields.Statement (.gapExpiry) := Fields.of_none rfl

theorem Fields.replyEnd : Fields.Statement (.replyEnd) := Fields.of_none rfl

theorem Fields.stat (tag : Byte) : Fields.Statement (.stat tag) := Fields.of_request rfl (by simp) rfl

theorem Fields.lstat (tag : Byte) : Fields.Statement (.lstat tag) := Fields.of_request rfl (by simp) rfl

theorem Fields.idnt (tag : Byte) : Fields.Statement (.idnt tag) := Fields.of_request rfl (by simp) rfl

theorem Fields.cfgw (tag : Byte) (item : Byte) (index : Byte) (value : BitVec 32) : Fields.Statement (.cfgw tag item index value) :=
  Fields.of_request rfl (by simp [bytes32]) rfl

theorem Fields.cfgr (tag : Byte) (item : Byte) (index : Byte) : Fields.Statement (.cfgr tag item index) :=
  Fields.of_request rfl (by simp) rfl

theorem Fields.refaCharacter (moment : SerialMoment) (stopHigh : Bool) :
    Fields.Statement (.refaCharacter moment stopHigh) := Fields.of_none rfl

theorem Fields.linkByte (moment : SerialMoment) : Fields.Statement (.linkByte moment) := Fields.of_none rfl

theorem Fields.unusedLinePinChange (line : Nat) (pinHigh : Bool) : Fields.Statement (.unusedLinePinChange line pinHigh) :=
  Fields.of_none rfl

end Sys2Proof.Laws
end

