-- ==== Sys2Proof/Tests/Slice0.lean ====
section
/-! SUPPORT. Tests of single commands, their expected values from the tables and worked sequences of the spec, and
a witness for the hypotheses of each statement. -/

open Sys2Proof Sys2Proof.Machine

namespace Sys2Proof.Tests

set_option Elab.async false

/-! ### Helpers -/

/-- The command runs from `s`, and what it leaves is as `p` says. -/
def leaves (c : Instr) (s : State) (p : State → Bool) : Bool :=
  match exec c s with
  | .next t => p t
  | .fault _ | .refused _ => false

/-- The command faults with this fault. -/
def faults (c : Instr) (s : State) (f : Fault) : Bool :=
  match exec c s with
  | .fault g => decide (g = f)
  | .next _ | .refused _ => false

/-- The bytes of the reply in progress, from the RESULT on: RESULT, SUMMARY, the body, without the check. -/
def replied (t : State) : List Byte := (t.lkc.reply.map (fun r => (r.bytes.drop 5).dropLast.dropLast)).getD []

/-- The body of the reply in progress. -/
def bodyOf (t : State) : List Byte := (replied t).drop 2

/-- The RESULT of the reply in progress. -/
def resultOf (t : State) : Option Byte := (replied t).head?

/-- The newest record's detail. -/
def newest (t : State) : Option Detail := t.evq.records.getLast?.map (·.detail)

/-- The part right after the reset. -/
def base : State := State.reset

/-- A reply is on its way. -/
def answering : State := { base with lkc := { base.lkc with reply := some { bytes := [], endAt := 5 } } }

/-- HOLDUP is asserted. -/
def held : State := { base with stc := { base.stc with holdup := true } }

/-- A save is in flight. -/
def saving : State :=
  { base with stc := { base.stc with inFlight := some { trigger := .save, start := 0, snapshot := some base.snapshot.stored, draw := 0 } } }

/-- The discipline in a state, following REF-B with a small U. -/
def follows (x : DiscState) : State :=
  { base with
    dsc := { base.dsc with state := x, view := some .b, u := 800, effClass := 0 }
    rrx := { base.rrx with selection := some .b, srcB := { base.rrx.srcB with state := .usable } } }

/-- LOCKED on REF-B. -/
def locked : State := follows .locked

/-- A line configured and set. -/
def withLine (s : State) (i : Nat) (c : LineSettings) (x : Line) : State :=
  ({ s with cfg := s.cfg.setLine i c } : State).setLine i x

/-- A line that stands inactive and steady. -/
def quietLine : Line :=
  { pinHigh := false, filtered := false, effective := false, state := .steady, pending := none, lastRawEdge := none
    recent := [], quiet := none, bounce := 0 }

/-- The settings of a line of this kind and unit, but for the defaults. -/
def wired (k : LineKind) (u : Nat) : LineSettings := { LineSettings.dflt with kind := k, unit := u }

/-- A unit in a mode since an instant. -/
def inMode (s : State) (u : Nat) (m : Mode) (entry : Nat) (ecp : Option Nat) : State :=
  s.setUnit u { s.unit u with mode := m, entry := entry, ecp := ecp }

/-- A schedule and a shift on duty: the station of 9.7. -/
def station : State :=
  { base with
    shu := { base.shu with
      schedule := [⟨360, 2, 30⟩, ⟨840, 3, 30⟩, ⟨1320, 1, 30⟩]
      current := { base.shu.current with number := 70003, crew := 1 } } }

/-- The handover of 9.7, open since E = 0. -/
def handing : State :=
  { station with shu := { station.shu with
      state := .handover, expected := some 2, window := some { opening := 0, expiry := 1800000000 } } }

/-- A handover that waits for its trip alone. -/
def waiting : State :=
  { handing with
    tsc := { handing.tsc with e := 600000000 }
    shu := { handing.shu with release := true, accept := true, openTrips := [⟨88410, 3, Date.atReset⟩] } }

/-- What a free choice of order leaves, when each order leaves it. -/
theorem eitherOrder_all {P : State → Prop} (f g : State → State) (s : State)
    (h1 : P (g (f (s.setDraws (s.draws + 1))))) (h2 : P (f (g (s.setDraws (s.draws + 1))))) : P (eitherOrder f g s) := by
  unfold eitherOrder
  by_cases h : Config.firstActs s.draws = true
  · simpa [h] using h1
  · simpa [h] using h2

/-- Nothing comes before an instant, when no instant of an event does. -/
theorem quiet_of {s : State} {goal : Nat}
    (h : ∀ ev ∈ TimedEvent.all, ((ev.instant s).map (fun x => decide (goal ≤ x * 1000))).getD true = true) : s.quiet goal := by
  intro ev hev x hx
  simpa [hx] using h ev hev

/-- An instant ahead that time reaches by itself. -/
theorem quietTo_ahead {s : State} {at' : Nat} (hn : s.tsc.n + (at' * 1000 - s.tsc.elapsed) < nsPerS)
    (h : ∀ ev ∈ TimedEvent.all, ((ev.instant s).map (fun x => decide (at' * 1000 ≤ x * 1000))).getD true = true) :
    s.quietTo at' := Or.inr ⟨hn, quiet_of h⟩

/-! ### Commands that cannot be received (the smoke of WellFormed) -/

theorem test_line_0_is_refused : (Instr.rawEdge 0 true).wellFormed = false ∧ (Instr.filterExpiry 0).wellFormed = false
    ∧ (Instr.quietTimerExpiry 0).wellFormed = false ∧ (Instr.unusedLinePinChange 0 true).wellFormed = false := by decide

theorem test_line_33_is_refused : (Instr.rawEdge 33 true).wellFormed = false ∧ (Instr.filterExpiry 33).wellFormed = false
    ∧ (Instr.quietTimerExpiry 33).wellFormed = false ∧ (Instr.unusedLinePinChange 33 true).wellFormed = false := by decide

theorem test_line_33_faults : (faults (.rawEdge 33 true) base .noSuchLine && faults (.filterExpiry 33) base .noSuchLine
    && faults (.quietTimerExpiry 0) base .noSuchLine && faults (.unusedLinePinChange 0 true) base .noSuchLine) = true := by
  decide +kernel

theorem test_unit_0_and_9_are_refused : (Instr.discrepancyTimerExpiry 0).wellFormed = false
    ∧ (Instr.discrepancyTimerExpiry 9).wellFormed = false ∧ faults (.discrepancyTimerExpiry 9) base .noSuchUnit = true := by
  decide +kernel

/-! ### Frames of 2.7 -/

/-- A latch of the first mark of 2.7. -/
def firstMark : Latch := { s := 0, n := 412000000, epoch := 0, e := 412000, cls := 7 }

/-- The message of the fourth frame of 2.7: source id 5, class field 1, C 1,641,600,000, L 28, sequence 3. -/
def fourth : StationMessage :=
  { sourceId := 5, status := 1, civil := 1641600000, leap := 28, sequence := 3 }

/-- Its check. -/
def fourthCheck : BitVec 16 := crc16 fourth.covered

/-! ### Resets and the supply -/

/-- A store with the image of the station, a plain line on EV1 in it. -/
def stored : State :=
  let s := withLine station 1 (wired .plain 0) quietLine
  { s with stc := { s.stc with store := .holds s.snapshot.stored, state := .valid } }

/-- R168: the saved shift 70,003 is closed as INTERRUPTED and 70,004 opens with its crew. -/
theorem test_power_on_reopens_the_shift : leaves (.powerOnReset 2 0 false) stored (fun t =>
    decide (t.shu.current.number = 70004 ∧ t.shu.current.crew = 1 ∧ t.lkc.rate = 2)
      && decide (t.shu.history.map (fun r => (r.number, r.kind, r.nextCrew)) = [(70003, .interrupted, 1)])) = true := by
  have h : stored.stc.afterPowerLoss = .holds (withLine station 1 (wired .plain 0) quietLine).snapshot.stored := rfl
  simp only [leaves, exec, execPowerOnReset, State.powerOn, State.powerOnValues, h, Image.judge_stored, Image.load_stored]
  decide +kernel

/-- 10.8: a supply that fails in a save leaves CORRUPT, and STORE_FAIL and RESTARTED are raised together. -/
theorem test_power_loss_in_a_save : leaves (.powerOnReset 0 0 true)
    { stored with stc := { stored.stc with inFlight := saving.stc.inFlight } } (fun t =>
    decide (t.stc.store = .broken ∧ t.stc.state = .corrupt ∧ t.ntc.flags = 0x1180 ∧ t.shu.schedule = [] ∧ t.shu.current.number = 1)) = true := by
  decide +kernel

/-- R190: RSTRT is BUSY in a save, and nothing restarts. -/
theorem test_rstrt_in_a_save : leaves (.rstrt 9) saving (fun t =>
    decide (resultOf t = some 2 ∧ t.rrx = saving.rrx ∧ t.evq = saving.evq)) = true := by decide +kernel

/-- R62: a restart in LOCKED goes to HOLDOVER with a DISC record and DISCIPLINE_CHANGE. -/
theorem test_restart_leaves_locked : (decide ((locked.restartDsc).dsc.state = .holdover ∧ locked.restartDsc.dsc.view = none)
    && decide (newest locked.restartDsc = some (.disc .locked .holdover 0) ∧ locked.restartDsc.ntc.flags = 0x108)) = true := by
  decide +kernel

/-- R179: the assertion starts a save and SUPPLY_LOW. -/
theorem test_holdup_starts_a_save : leaves .holdupAssertion base (fun t =>
    decide (t.stc.inFlight.map (·.trigger) = some .holdup ∧ t.ntc.flags = 0x1100 ∧ t.ntc.conditions = 0x1000)) = true := by
  decide +kernel

theorem test_holdup_release_ends_the_condition : leaves .holdupRelease
    { held with ntc := { held.ntc with flags := 0x1000, conditions := 0x1000 } } (fun t =>
    decide (t.stc.holdup = false ∧ t.ntc.conditions = 0 ∧ t.ntc.flags = 0x1000)) = true := by decide +kernel

/-! ### The clock and the feed -/

/-- The middle boundary of 1.8, one second before it; the feed is off. -/
def midnight : State :=
  { locked with
    cfg := { locked.cfg with localOffset := 60, feedEnable := false }
    tsc := { locked.tsc with
      s := 1641600026, n := 0, leap := 27, pendingLeap := some { direction := .insert, target := 28 }
      tracker := some { day := 19000, minute := 59 } } }

/-- 1.8: at S = 1,641,600,027 L becomes 28 with a LEAP record, and the minute does not move. -/
theorem test_self_leap : leaves .secondBoundary midnight (fun t =>
    decide (t.tsc.s = 1641600027 ∧ t.tsc.leap = 28 ∧ t.tsc.pendingLeap = none ∧ newest t = some (.leap 27 28 true))
      && decide (t.tsc.tracker = some { day := 19000, minute := 59 })) = true := by decide +kernel

/-- One second before local 06:00, at the station of 9.7; the feed is off. -/
def dawn : State :=
  { station with
    cfg := { station.cfg with feedEnable := false }
    tsc := { station.tsc with s := 21599, tracker := some { day := 0, minute := 359 } } }

/-- R12, R151, 9.7: at the boundary of 06:00 the entry 360 opens the handover to crew 2. -/
theorem test_boundary_fires_the_entry : leaves .secondBoundary dawn (fun t =>
    decide (t.tsc.tracker = some { day := 0, minute := 360 } ∧ t.tsc.lastFired = [(360, 0)] ∧ t.shu.state = .handover)
      && decide (t.shu.expected = some 2 ∧ newest t = some (.shift .handoverDue 4467 2))) = true := by decide +kernel

/-- R2, R6: a timer that comes due within the second acts before its boundary does. -/
theorem test_timer_acts_before_the_boundary : leaves .secondBoundary
    { dawn with lkc := { dawn.lkc with receive := some [0xA7], gap := some 5000 } } (fun t =>
    decide (t.tsc.s = 21600 ∧ t.tsc.e = 1000000 ∧ t.lkc.gapErr = 1 ∧ t.lkc.receive = none)) = true := by decide +kernel

/-- 1.8, 4.7: the frame of the boundary before: civil second 1,641,599,999, L 27, pending INSERT, sequence 57. -/
theorem test_feed_frame : (match ({ midnight with
      cfg := { midnight.cfg with feedEnable := true }, ftx := { midnight.ftx with sequence := 57 } } : State).feedBoundary 0
    |>.ftx with
    | { enable := true, sequence := 58, transmission := some (.frame bytes 13542) } =>
        decide (bytes.take 11 = [0xC3, 0x3C, 1, 0x08, 0, 0x61, 0xD8, 0xD3, 0xFF, 27, 57])
    | _ => false) = true := by decide +kernel

theorem test_feed_ends : leaves .feedTransmissionEnd
    { base with ftx := { base.ftx with transmission := some (.brk 13542) } } (fun t =>
    decide (t.ftx.transmission = none ∧ t.tsc.e = 13542)) = true := by decide +kernel

/-- R16, 12.4: local day 19,000 and minute 60 at S = 1,641,600,028 with L = 28 and +60. -/
theorem test_trd : leaves (.trd 7)
    { midnight with tsc := { midnight.tsc with s := 1641600028, leap := 28, pendingLeap := none } } (fun t =>
    decide ((bodyOf t).length = 29 ∧ (bodyOf t).drop 18 = [28, 0, 0, 0, 60, 0, 0, 0x4A, 0x38, 0, 60])) = true := by
  decide +kernel

/-! ### The references -/

/-- 2.7: the sample of the fourth frame. -/
theorem test_sample_of_the_fourth_frame :
    sampleOfFrame { Settings.dflt with delayA := 2500 } { firstMark with s := 3 } fourth = -1641600024588002500 := by
  decide +kernel

/-- 2.7: that sample steps station time by its distance and takes the discipline out of FREE to ACQUIRE. -/
theorem test_first_sample_steps :
    (let s : State := { base with
      tsc := { base.tsc with s := 3, n := 412000000 }
      rrx := { base.rrx with srcA := { base.rrx.srcA with state := .qualifying, qualify := 3 } } }
     let t := s.takeRefEvent .a (.mark (some (-1641600024588002500)) 0 1)
     decide (t.rrx.srcA.state = .usable ∧ t.rrx.selection = some .a ∧ t.dsc.state = .acquire ∧ t.tsc.epoch = 1)
       && decide (t.tsc.s = 1641600028 ∧ t.tsc.n = 2500 ∧ t.dsc.u = 0)) = true := by decide +kernel

/-- R22: a frame with a wrong check is counted as CHECK and changes nothing of the source. -/
theorem test_frame_with_a_wrong_check : leaves (.refaFrame fourth 0) base (fun t =>
    decide (t.rrx.countA.check = 1 ∧ t.rrx.countA.accepted = 0 ∧ t.rrx.srcA = base.rrx.srcA)) = true := by decide +kernel

/-- R21: in SYNC a frame whose sync pair comes outside every window is MISTIMED, though it is good. -/
theorem test_frame_outside_the_window : leaves (.refaFrame fourth fourthCheck)
    { base with
      tsc := { base.tsc with e := 462001 }
      rrx := { base.rrx with state := .sync, srcA := { base.rrx.srcA with lastMark := some firstMark } } } (fun t =>
    decide (t.rrx.countA.mistimed = 1 ∧ t.rrx.countA.accepted = 0 ∧ t.rrx.discards = 1 ∧ t.rrx.candidate = none)) = true := by
  decide +kernel

/-- R19: the falling edge of the start bit latches S, N, the epoch, E and the class. -/
theorem test_start_bit_latches : leaves (.refaCharacter .begins true)
    { base with tsc := { base.tsc with n := 412000000, e := 412000 } } (fun t =>
    decide (t.rrx.begun = some firstMark ∧ t.rrx.prevChar = none)) = true := by decide +kernel

/-- R19, R20: 0x3C right after 0xC3, though its stop bit is low, opens a candidate whose mark is the latch of the 0xC3. -/
theorem test_sync_pair_opens_a_candidate : leaves (.refaCharacter (.completes 0x3C) false)
    { base with rrx := { base.rrx with begun := some { firstMark with e := 413000 }, prevChar := some (0xC3, firstMark) } } (fun t =>
    decide (t.rrx.candidate = some { mark := firstMark, bytes := [0xC3, 0x3C] } ∧ t.rrx.begun = none)
      && decide (t.rrx.prevChar = some (0x3C, { firstMark with e := 413000 }))) = true := by decide +kernel

/-- R2, R21: a 0x3C that comes 50 ms after the start bit of the 0xC3 opens a candidate that is MISTIMED at once. -/
theorem test_stale_sync_pair : leaves (.refaCharacter (.completes 0x3C) true)
    { base with
      tsc := { base.tsc with e := 462000 }
      rrx := { base.rrx with begun := some { firstMark with e := 461000 }, prevChar := some (0xC3, firstMark) } } (fun t =>
    decide (t.rrx.candidate = none ∧ t.rrx.countA.mistimed = 1 ∧ t.rrx.prevChar = none)) = true := by decide +kernel

/-- R21: 50 ms after its mark a candidate is MISTIMED. -/
theorem test_candidate_times_out :
    leaves .candidateTimeout { base with rrx := { base.rrx with candidate := some { mark := firstMark, bytes := [0xC3, 0x3C, 5] } } }
      (fun t => decide (t.tsc.e = 462000 ∧ t.rrx.countA.mistimed = 1 ∧ t.rrx.candidate = none)) = true := by decide +kernel

/-- R23, R24: a break is counted and goes to HUNT. -/
theorem test_break : leaves .refaBreak { base with rrx := { base.rrx with state := .sync, discards := 1 } } (fun t =>
    decide (t.rrx.countA.brk = 1 ∧ t.rrx.state = .hunt ∧ t.rrx.discards = 0)) = true := by decide +kernel

/-- The steering case of 3.9, on REF-B, before a sample of phase `n`. -/
def steering (n : Nat) (sum : Int) (count : Nat) (prev cPrev : Int) : State :=
  { locked with
    tsc := { locked.tsc with n := n, e := 10000000 }
    cfg := { locked.cfg with freqWindow := 2, phaseGain := 3, slewLimit := 20000 }
    dsc := { locked.dsc with f := 4700, sum := sum, count := count, prev := some { source := .b, e := prev, c := cPrev } } }

/-- 3.9, sample k: x is 4,730, c becomes -4,835, U 1,080 and the class 1. -/
theorem test_steering_sample : leaves .refbPulse (steering 1080 0 0 1200 (-4850)) (fun t =>
    decide (t.dsc.c = -4835 ∧ t.dsc.sum = 4730 ∧ t.dsc.count = 1 ∧ t.dsc.f = 4700 ∧ t.dsc.u = 1080 ∧ t.dsc.effClass = 1)) = true := by
  decide +kernel

/-- 3.9, sample k+3: the window ends, F becomes 4,730 and c -4,830. -/
theorem test_window_ends : leaves .refbPulse (steering 803 14190 3 883 (-4810)) (fun t =>
    decide (t.dsc.c = -4830 ∧ t.dsc.sum = 0 ∧ t.dsc.count = 0 ∧ t.dsc.f = 4730 ∧ t.dsc.u = 803)) = true := by
  decide +kernel

/-- 3.9: the third missing sample faults the source, and with no other the discipline goes to HOLDOVER. -/
theorem test_third_missing_sample :
    leaves (.missingSample .b)
      { locked with
        tsc := { locked.tsc with e := 3499999 }
        dsc := { locked.dsc with f := 4730 }
        rrx := { locked.rrx with srcB := { locked.rrx.srcB with out := 2, nextMissing := some 3500000, absentAt := some 8000000 } } }
      (fun t => decide (t.rrx.srcB.state = .faulted ∧ t.rrx.selection = none ∧ t.dsc.state = .holdover ∧ t.dsc.c = -4730)
        && decide (t.rrx.countB.missing = 1 ∧ t.tsc.e = 3500000 ∧ t.rrx.srcB.nextMissing = some 4500000)
        && decide (newest t = some (.disc .locked .holdover 0))) = true := by decide +kernel

/-- R31: eight seconds after its mark a source is ABSENT. -/
theorem test_source_goes_absent :
    leaves (.sourceAbsent .a)
      { base with tsc := { base.tsc with e := 8411999 }, rrx := { base.rrx with
          state := .sync, srcA := { base.rrx.srcA with state := .qualifying, qualify := 2, absentAt := some 8412000 } } }
      (fun t => decide (t.rrx.srcA = SourceData.reset ∧ t.rrx.state = .hunt)
        && decide (newest t = some (.ref .a .qualifying .absent none))) = true := by decide +kernel

/-- 2.7: at the revert timer's expiry the selection goes back to REF-A with REF (A, USABLE, USABLE, A). -/
theorem test_revert : leaves .revertTimerExpiry
    { locked with tsc := { locked.tsc with e := 59999999 }, rrx := { locked.rrx with
        srcA := { locked.rrx.srcA with state := .usable }, revert := some { start := 0, expiry := 60000000 } } }
    (fun t => decide (t.rrx.selection = some .a ∧ t.dsc.view = some .a ∧ t.rrx.revert = none ∧ t.dsc.state = .locked)
      && decide (newest t = some (.ref .a .usable .usable (some .a)) ∧ t.ntc.flags = 0x104)) = true := by decide +kernel

/-- R35: PINJ is refused with STATE in FREE. -/
theorem test_pinj_in_free : leaves (.pinj 1 1 5 2) base (fun t =>
    decide (resultOf t = some 3 ∧ t.rrx = base.rrx)) = true := by decide +kernel

/-- R40: body 1 shows the counters and clears them. -/
theorem test_refs_clears : leaves (.refs 1 1)
    { base with rrx := { base.rrx with countA := { base.rrx.countA with accepted := 258 } } } (fun t =>
    decide (((bodyOf t).drop 70).take 4 = [1, 2, 0, 0] ∧ t.rrx.countA.accepted = 0 ∧ (bodyOf t).length = 92)) = true := by
  decide +kernel

/-- 1.8: a TSET 9,000 s ahead in HOLDOVER: epoch 42, a JUMP to minute 630 and a STEP record of 9,000,000,000 µs. -/
theorem test_tset : leaves (.tset 1 1641637800 0 5000)
    { midnight with
      tsc := { midnight.tsc with
        s := 1641628800, leap := 0, pendingLeap := none, epoch := 41, tracker := some { day := 19000, minute := 480 } }
      cfg := { midnight.cfg with localOffset := 0 }
      dsc := { midnight.dsc with state := .holdover } }
    (fun t => decide (t.tsc.s = 1641637800 ∧ t.tsc.epoch = 42 ∧ t.tsc.tracker = some { day := 19000, minute := 630 } ∧ t.dsc.u = 5000)
      && decide ((t.evq.records.map (·.detail)).contains (.step 9000000000 .hostSet))) = true := by decide +kernel

/-- R13: a step within the minute is no move, even with the minute held after an adopted leap. -/
theorem test_step_within_the_minute_moves_nothing : leaves (.tset 1 1641628801 0 5000)
    { midnight with
      tsc := { midnight.tsc with s := 1641628800, leap := 0, pendingLeap := none, tracker := some { day := 19000, minute := 481 } }
      cfg := { midnight.cfg with localOffset := 0 }
      dsc := { midnight.dsc with state := .holdover } }
    (fun t => decide (t.tsc.s = 1641628801 ∧ t.tsc.tracker = some { day := 19000, minute := 481 })) = true := by decide +kernel

/-- R58: TACQ takes LOCKED to ACQUIRE with its one step permitted. -/
theorem test_tacq : leaves (.tacq 1) locked (fun t =>
    decide (t.dsc.state = .acquire ∧ t.dsc.oneShot = true ∧ resultOf t = some 0)) = true := by decide +kernel

/-- R59, R61, 12.4: the reading of a part after its reset. -/
theorem test_disc : leaves (.disc 1) base (fun t =>
    decide (bodyOf t = [0, 0, 0, 0, 0, 0, 0, 0, 0, 0, 0xFF, 0xFF, 0xFF, 0xFF, 6, 6, 7, 0, 16] ++ List.replicate 8 0
      ++ List.replicate 14 0 ++ [0, 0])) = true := by decide +kernel

/-! ### The lines -/

/-- The line of 5.7: the BREAKER line of unit 2 on EV5. -/
def breaker5 : State :=
  withLine { locked with tsc := { locked.tsc with s := 1641620000, n := 483750000, e := 50000000, epoch := 3 } } 5
    { wired .breaker 2 with comp := 1200 } quietLine

/-- 5.7: the first rise starts a pending change with its compensated date. -/
theorem test_rise : leaves (.rawEdge 5 true) breaker5 (fun t =>
    decide ((t.line 5).state = .pending ∧ (t.line 5).pinHigh = true
      ∧ (t.line 5).pending = some { level := true, raw := ⟨1641620000, 482550000, 3, 49998800, 0⟩, expiry := 50010000 })) = true := by
  decide +kernel

/-- The second rise of 5.7, pending. -/
def risen : State :=
  withLine { breaker5 with tsc := { breaker5.tsc with n := 497250000, e := 50013500 } } 5 (breaker5.lineCfg 5)
    { quietLine with
      pinHigh := true, state := .pending, bounce := 1
      pending := some { level := true, raw := ⟨1641620000, 486050000, 3, 50002300, 0⟩, expiry := 50013500 } }

/-- 5.7: the fall within the filter is a bounce. -/
theorem test_bounce : leaves (.rawEdge 5 false) risen (fun t =>
    decide ((t.line 5).state = .steady ∧ (t.line 5).pending = none ∧ (t.line 5).bounce = 2)) = true := by decide +kernel

/-- 5.7: the expiry delivers the change with an EDGE record of the raw date. -/
theorem test_qualified : leaves (.filterExpiry 5) risen (fun t =>
    decide ((t.line 5).effective = true ∧ (t.line 5).recent = [50013500] ∧ (t.line 5).state = .steady)
      && decide ((t.evq.records[1]?).map (fun r => (r.detail, r.source, r.date)) =
          some (.edge true .breaker 2, 5, { epoch := 3, cls := 0, s := 1641620000, us := 486050 }))) = true := by decide +kernel

/-- The TRIP line of 5.7 on EV12 at 101.3 s, its fall pending. -/
def tripping : State :=
  withLine { locked with
      tsc := { locked.tsc with e := 101300000 }, cfg := { locked.cfg with chatterCount := 3, chatterWindow := 10 } } 12
    { wired .trip 4 with filter := 0 }
    { quietLine with
      filtered := true, effective := true, state := .pending, lastRawEdge := some 101300000
      recent := [100000000, 100400000, 101000000]
      pending := some { level := false, raw := ⟨0, 0, 0, 101300000, 0⟩, expiry := 101300000 } }

/-- 5.7: the fourth change within 10 s enters CHATTER with the effective level frozen. -/
theorem test_chatter_entered : leaves (.filterExpiry 12) tripping (fun t =>
    decide ((t.line 12).state = .chatter ∧ (t.line 12).effective = true ∧ (t.line 12).quiet = some 111300000 ∧ (t.line 12).recent = [])
      && decide (newest t = some (.chatter true true) ∧ t.ntc.flags = 0x140)) = true := by decide +kernel

/-- 5.7: at 112.2 s the line leaves CHATTER and delivers its level: CHATTER (left), then TRIPCLR. -/
theorem test_chatter_left : leaves (.quietTimerExpiry 12)
    (tripping.setLine 12 { quietLine with state := .chatter, effective := true, quiet := some 112200000 }) (fun t =>
    decide ((t.line 12).state = .steady ∧ (t.line 12).effective = false ∧ (t.line 12).recent = [112200000])
      && decide ((t.evq.records.drop 1).map (·.detail) = [.chatter false false, .tripclr 4])) = true := by decide +kernel

theorem test_unused_line_moves_its_pin : leaves (.unusedLinePinChange 32 true) base (fun t =>
    decide ((t.line 32).pinHigh = true ∧ (t.line 32).pending = none ∧ t.evq = base.evq)) = true := by decide +kernel

/-- R89: a line of kind UNUSED is refused with STATE. -/
theorem test_einj_on_an_unused_line : leaves (.einj 1 12 1) base (fun t => decide (resultOf t = some 3 ∧ t.evq = base.evq)) = true := by
  decide +kernel

/-- R89, R97: an injected trip is marked, raises TRIP, and counts and lists nothing. -/
theorem test_injected_trip : leaves (.einj 1 12 1) tripping (fun t =>
    decide (t.evq.records.getLast?.map (·.injected) = some true ∧ t.ntc.flags = 0x101)
      && decide (t.shu = tripping.shu ∧ t.tlu = tripping.tlu)) = true := by decide +kernel

/-- R90: LNST shows the bounce count and clears it. -/
theorem test_lnst : leaves (.lnst 1 5) risen (fun t =>
    decide ((t.line 5).bounce = 0 ∧ (bodyOf t).getLast? = some 1 ∧ (bodyOf t).take 5 = [5, 3, 2, 0, 10])) = true := by decide +kernel

/-! ### The queue -/

/-- A record of this number and kind. -/
def recordOf (seq : Nat) (d : Detail) (delivered : Bool) : Record :=
  { seq := seq, detail := d, injected := false, delivered := delivered, station := false, source := 0, date := Date.atReset }

/-- A queue of these records. -/
def queued (rs : List Record) (next : Option Nat) : State :=
  { base with evq := { base.evq with records := rs, nextSeq := next } }

/-- 319 records with a TRIP as the newest. -/
def nearlyFull : State :=
  queued (List.replicate 318 (recordOf 7 (.flushed 0) false) ++ [recordOf 5319 (.trip 1 .gen 0 1) false]) (some 5320)

/-- 6.9: the third trip finds 319 records: it is lost and an OVERFLOW marker takes seq 5,320. -/
theorem test_overflow_marker :
    (let t := nearlyFull.place { detail := .trip 3 .gen 0 1 }
     decide (t.evq.records.length = 320 ∧ t.evq.lostTotal = 1 ∧ t.evq.lostTrips = 1 ∧ t.shu.current.loss = true)
       && decide (t.evq.records.getLast?.map (fun r => (r.seq, r.detail)) = some (5320, .overflow 1 1))) = true := by
  decide +kernel

/-- 6.9: the marker absorbs the next trip. -/
theorem test_marker_absorbs :
    (let t := (nearlyFull.place { detail := .trip 3 .gen 0 1 }).place { detail := .trip 5 .gen 0 1 }
     decide (t.evq.records.length = 320 ∧ t.evq.lostTotal = 2 ∧ newest t = some (.overflow 2 2))) = true := by decide +kernel

/-- R106: the FLUSHED record alone is left, and the exhausted state ends. -/
theorem test_efls : leaves (.efls 1) (queued [recordOf 3 (.flushed 0) false, recordOf 9 (.flushed 0) true] none) (fun t =>
    decide (t.evq.records.map (fun r => (r.seq, r.detail)) = [(0, .flushed 2)] ∧ t.evq.nextSeq = some 1)
      && decide (bodyOf t = [0, 2, 0, 0, 0, 0])) = true := by decide +kernel

/-- R107, 12.3: the RESTART record of the reset as it travels, and its mark. -/
theorem test_efch : leaves (.efch 1 8) base (fun t =>
    decide (bodyOf t = [0, 1, 1, 0, 0, 0, 0, 0, 0, 0, 0, 0, 0, 1] ++ [0, 0, 0, 0, 17, 0, 0] ++ [0, 7, 0, 0, 0, 0, 0, 0, 0, 0]
        ++ [1, 1, 0, 0, 0, 0, 0])
      && decide (t.evq.records.map (·.delivered) = [true])) = true := by decide +kernel

/-- R108: a release takes the delivered record and every older one. -/
theorem test_erel : leaves (.erel 1 8)
    (queued [recordOf 7 (.flushed 0) true, recordOf 8 (.flushed 0) true, recordOf 9 (.flushed 0) false] (some 10)) (fun t =>
    decide (t.evq.records.map (·.seq) = [9] ∧ bodyOf t = [0, 2, 0, 1])) = true := by decide +kernel

/-- R108: a record that is not delivered is not released. -/
theorem test_erel_of_an_undelivered_record : leaves (.erel 1 0) base (fun t =>
    decide (resultOf t = some 4 ∧ t.evq = base.evq)) = true := by decide +kernel

/-! ### The tallies -/

/-- Unit 2 of 8.6 at the periodic evaluation at P = 300,000,000, with `gen` seconds of generation booked. -/
def pumped (gen limit : Nat) : State :=
  let s : State := { base with
    tsc := { base.tsc with e := 300000000 }
    cfg := base.cfg.setUnit 2 { UnitSettings.dflt with wPump := 320, startWeight := 50, tripWeight := 300 }
    tlu := { base.tlu with nextEval := 300000000 } }
  s.setUnit 2 { s.unit 2 with
    mode := .still, ecp := some 300000000
    tally := { (s.unit 2).tally with
      accs := { Tally.zero.accs with
        spin := ⟨20000, 0⟩, gen := ⟨gen, 0⟩, pump := ⟨400000, 0⟩, cond := ⟨50000, 0⟩ }
      starts := 1200, trips := 7, baseline := 1500000, limit := limit } }

/-- 8.6: EOH is 1,604,391 ch. -/
theorem test_eoh : (pumped 1000000 0).eoh 2 = 1604391 := by decide +kernel

/-- 8.6: a limit of 1,604,400 is not yet met. -/
theorem test_mset : leaves (.mset 1 1 2 1604400) (pumped 1000000 0) (fun t =>
    decide ((t.unit 2).tally.limit = 1604400 ∧ (t.unit 2).tally.due = false ∧ replied t = [0, 0x25, 1])) = true := by decide +kernel

/-- 8.6: 300 s later the EOH meets the limit: MAINT (2, 1,604,400). -/
theorem test_periodic_evaluation : leaves .periodicEvaluation (pumped 1000300 1604400) (fun t =>
    decide ((t.unit 2).tally.due = true ∧ newest t = some (.maint 2 1604400) ∧ t.ntc.flags = 0x500)
      && decide (t.tlu.nextEval = 360000000)) = true := by decide +kernel

/-- 7.9: at its expiry the timer of unit 6 is EXPIRED, with a DISCREP record of its contacts. -/
theorem test_discrepancy : leaves (.discrepancyTimerExpiry 6)
    (let s := withLine { base with tsc := { base.tsc with e := 2005000000 } } 21 (wired .breaker 6) { quietLine with pinHigh := true, filtered := true, effective := true }
     s.setUnit 6 { s.unit 6 with mode := .indet, entry := 2000000000, timer := .running 2005000000 }) (fun t =>
    decide ((t.unit 6).timer = .expired ∧ newest t = some (.discrep 6 true false false false) ∧ t.tsc.e = 2005000000)
      && decide (t.ntc.conditions = 0x800)) = true := by decide +kernel

/-- 7.9: the speed relay of unit 3 takes it from STILL to SPIN with start 121, 100 s booked to STILL. -/
theorem test_start :
    (let s : State := withLine (withLine { base with tsc := { base.tsc with e := 1000020000 } } 9 (wired .breaker 3) quietLine)
        10 (wired .speed 3) { quietLine with effective := true }
     let s := s.setUnit 3 { s.unit 3 with
      mode := .still, entry := 400000000, ecp := some 900000000
      tally := { Tally.zero with accs := { Tally.zero.accs with still := ⟨86000, 250000⟩ }, starts := 120 } }
     let t := s.statusChange 3 ⟨0, 0, 0, 1000000000, 0⟩
     decide ((t.unit 3).mode = .spin ∧ (t.unit 3).tally.starts = 121 ∧ (t.unit 3).ecp = some 1000000000)
       && decide ((t.unit 3).tally.accs.still = ⟨86100, 250000⟩ ∧ newest t = some (.mode 3 .still .spin 121))) = true := by
  decide +kernel

/-- R128: there is no unit 9. -/
theorem test_tlrd_of_no_unit : leaves (.tlrd 1 9) base (fun t => decide (replied t = [4, 0x25])) = true := by decide +kernel

/-- R128, 12.4: the reading of unit 2 carries its mode, its tallies and its EOH. -/
theorem test_tlrd : leaves (.tlrd 1 2) (pumped 1000000 1604400) (fun t =>
    decide ((bodyOf t).length = 79 ∧ (bodyOf t).take 2 = [2, 1] ∧ (bodyOf t).drop 66 =
      [0, 0x16, 0xE3, 0x60, 0, 0x18, 0x7B, 0x27, 0, 0x18, 0x7B, 0x30, 0])) = true := by decide +kernel

/-- 7.9: STARTS of group 2, units 1 and 4, set to 0, with a PRESET record each. -/
theorem test_tlps : leaves (.tlps 1 2 2 7 0)
    (let grouped : UnitSettings := { UnitSettings.dflt with group := 2 }
     let s : State := { base with cfg := (base.cfg.setUnit 1 grouped).setUnit 4 grouped }
     s.setTally 1 { Tally.zero with starts := 412 }) (fun t =>
    decide ((t.unit 1).tally.starts = 0 ∧ bodyOf t = [2])
      && decide ((t.evq.records.drop 1).map (·.detail) = [.preset 1 .starts 0, .preset 4 .starts 0])) = true := by
  decide +kernel

/-- 7.9: GROUP 5 has no unit: OK with 0. -/
theorem test_tlps_of_an_empty_group : leaves (.tlps 1 2 5 7 0) base (fun t =>
    decide (replied t = [0, 0x25, 0] ∧ t.tlu = base.tlu)) = true := by decide +kernel

/-! ### The shifts -/

/-- R143, R144: entries are sorted, and windows clamped to 120 and to the gap to the next start. -/
theorem test_schw : leaves (.schw 1 [⟨10, 2, 3⟩, ⟨0, 1, 200⟩]) base (fun t =>
    decide (t.shu.schedule = [⟨0, 1, 10⟩, ⟨10, 2, 5⟩] ∧ resultOf t = some 1)) = true := by decide +kernel

theorem test_schw_with_one_start_twice : leaves (.schw 1 [⟨10, 2, 30⟩, ⟨10, 1, 30⟩]) station (fun t =>
    decide (t.shu.schedule = station.shu.schedule ∧ resultOf t = some 4)) = true := by decide +kernel

/-- R145, 12.4: the schedule of 9.7 as it is read. -/
theorem test_schr : leaves (.schr 1) station (fun t =>
    decide (bodyOf t = [3, 1, 0x68, 2, 30, 3, 0x48, 3, 30, 5, 0x28, 1, 30])) = true := by decide +kernel

/-- 9.7: entry 360 opens a handover to crew 2 with SHIFT (HANDOVER_DUE, 4,467, 2). -/
theorem test_entry_fires :
    (let t := station.minuteReport { day := 5, minute := 360 }
     decide (t.shu.state = .handover ∧ t.shu.expected = some 2 ∧ t.shu.window = some { opening := 0, expiry := 1800000000 })
       && decide (newest t = some (.shift .handoverDue 4467 2) ∧ t.tsc.lastFired = [(360, 5)] ∧ t.ntc.flags = 0x110)) = true := by
  decide +kernel

/-- 9.7: HACC 3 is refused with CREW. -/
theorem test_hacc_of_another_crew : leaves (.hacc 1 3) handing (fun t =>
    decide (resultOf t = some 6 ∧ t.shu = handing.shu)) = true := by decide +kernel

/-- 9.7: HREL 1 is taken, and completes nothing while a trip is open. -/
theorem test_hrel : leaves (.hrel 1 1) { waiting with shu := { waiting.shu with release := false } } (fun t =>
    decide (resultOf t = some 0 ∧ t.shu = waiting.shu)) = true := by decide +kernel

/-- 9.7: the TACK of crew 2 completes the handover after 600 s; 70,004 opens with crew 2, and a save starts. -/
theorem test_tack_completes : leaves (.tack 1 2 88410) waiting (fun t =>
    decide (t.shu.state = .onShift ∧ t.shu.current.number = 70004 ∧ t.shu.current.crew = 2 ∧ bodyOf t = [1, 0])
      && decide (t.shu.history.map (fun r => (r.number, r.kind, r.nextCrew, r.duration)) = [(70003, .completed, 2, 600)])
      && decide (t.stc.inFlight.map (·.trigger) = some .shift ∧ newest t = some (.shift .completed 4467 2))) = true := by
  decide +kernel

/-- 9.7: the TACK of crew 3 is refused with CREW. -/
theorem test_tack_of_another_crew : leaves (.tack 1 3 88410) waiting (fun t =>
    decide (resultOf t = some 6 ∧ t.shu = waiting.shu)) = true := by decide +kernel

/-- R163: TACK ALL clears the list and its overflow flag. -/
theorem test_tack_all : leaves (.tackAll 1 1)
    { waiting with shu := { waiting.shu with release := false, overflow := true } } (fun t =>
    decide (t.shu.openTrips = [] ∧ t.shu.overflow = false ∧ bodyOf t = [1, 0] ∧ t.shu.state = .handover)) = true := by
  decide +kernel

/-- 9.7: at 1,800 s the handover is OVERDUE. -/
theorem test_overdue : leaves .windowTimerExpiry { handing with tsc := { handing.tsc with e := 1800000000 } } (fun t =>
    decide (t.shu.state = .overdue ∧ t.tsc.e = 1800000000 ∧ t.shu.current.overdue = true)
      && decide (newest t = some (.shift .overdue 4467 2) ∧ t.ntc.conditions = 0x2000)) = true := by decide +kernel

/-- R161: a window of 200 minutes is clamped to 120. -/
theorem test_hopn : leaves (.hopn 1 2 (some 200)) station (fun t =>
    decide (resultOf t = some 1 ∧ bodyOf t = [120] ∧ t.shu.expected = some 2)
      && decide (t.shu.window = some { opening := 0, expiry := 7200000000 })) = true := by decide +kernel

theorem test_hopn_in_a_handover : leaves (.hopn 1 3 none) handing (fun t => decide (resultOf t = some 3)) = true := by
  decide +kernel

/-- R165: there is no record 0 in an empty history. -/
theorem test_shhs_of_no_record : leaves (.shhs 1 0) base (fun t => decide (resultOf t = some 4)) = true := by decide +kernel

/-- R166, 12.4: a handover with its window, its shift and one open trip. -/
theorem test_shst : leaves (.shst 1) waiting (fun t =>
    decide ((bodyOf t).take 12 = [1, 2, 1, 1, 0x04, 0xB0, 0, 1, 0x11, 0x73, 1, 0] ∧ (bodyOf t).length = 6 + 122 + 2 + 15)) = true := by
  decide +kernel

/-! ### The store -/

/-- 10.8: SAVE is answered OK at once, with the save in flight in its summary. -/
theorem test_save : leaves (.save 1) base (fun t =>
    decide (replied t = [0, 0x35] ∧ t.stc.inFlight.map (·.trigger) = some .save)) = true := by decide +kernel

/-- The save of `saving` after its 30 ms. -/
def savedLate (queued : Option Trigger) : State :=
  { saving with tsc := { saving.tsc with e := 30000 }, stc := { saving.stc with queued := queued } }

/-- R175: after 30 ms the end of the save of `saving` is taken. -/
theorem saveEnd_savedLate (queued : Option Trigger) (ok : Bool) : exec (.saveEnd ok) (savedLate queued) = .next
    ((savedLate queued).endSave { trigger := .save, start := 0, snapshot := some base.snapshot.stored, draw := 0 } ok) := by
  have h : (savedLate queued).stc.inFlight
    = some { trigger := .save, start := 0, snapshot := some base.snapshot.stored, draw := 0 } := rfl
  simp only [exec, execSaveEnd, h]
  rw [State.runToE_of_le (by simp [savedLate, saveShortest]), if_pos h]

/-- 10.8: a failed read-back leaves CORRUPT, STORE (FAIL, SAVE) and STORE_FAIL. -/
theorem test_save_fails : leaves (.saveEnd false) (savedLate none) (fun t =>
    decide (t.stc.state = .corrupt ∧ newest t = some (.store false .save) ∧ t.ntc.flags = 0x180 ∧ t.stc.inFlight.isNone)) = true := by
  rw [leaves, saveEnd_savedLate]; decide +kernel

/-- 10.8: a save ends OK, and the queued HOLDUP save starts. -/
theorem test_save_ends_and_the_next_starts : leaves (.saveEnd true) (savedLate (some .holdup)) (fun t =>
    decide (t.stc.state = .valid ∧ t.stc.inFlight.map (·.trigger) = some .holdup ∧ t.stc.queued = none)
      && decide (t.stc.autosave = some (t.tsc.e + 14400000000) ∧ newest t = some (.store true .save))) = true := by
  rw [leaves, saveEnd_savedLate]; decide +kernel

/-- R178: an autosave falls due after 4 hours. -/
theorem test_autosave : leaves .autosaveExpiry
    { base with tsc := { base.tsc with e := 14399999999 }, tlu := { base.tlu with nextEval := 14400000000 } } (fun t =>
    decide (t.stc.inFlight.map (·.trigger) = some .autosave ∧ t.stc.autosave = none ∧ t.tsc.e = 14400000000)) = true := by
  decide +kernel

/-- R180: DFLT of a part that holds the defaults saves them. -/
theorem test_dflt : leaves (.dflt 1) base (fun t =>
    decide (resultOf t = some 0 ∧ t.cfg = Settings.dflt ∧ t.stc.inFlight.map (·.trigger) = some .dflt)) = true := by
  decide +kernel

/-! ### The link and the notices -/

/-- R199: the check of "123456789". -/
theorem test_crc : crc16 [0x31, 0x32, 0x33, 0x34, 0x35, 0x36, 0x37, 0x38, 0x39] = 0x29B1 := by decide +kernel

/-- R183: a schedule of 61 entries fits a frame, one of 62 makes a LEN of 251. -/
theorem test_long_schedule : (schwBody (List.replicate 61 ⟨0, 1, 30⟩)).length + 2 ≤ maxRequestLen
    ∧ (schwBody (List.replicate 62 ⟨0, 1, 30⟩)).length + 2 = 251 := by decide +kernel

/-- R183: a frame that its LEN ended counts LENGTH, and a whole request among the bytes after LEN is found in HUNT. -/
theorem test_request_inside_a_long_frame :
    (let t := base.takeLongFrame 0 0 ([0xA7, 2, 0x10, 7] ++ checkBytes [2, 0x10, 7] ++ [0, 0, 0]) 0
     decide (t.lkc.length = 1 ∧ t.lkc.linkErr = true ∧ t.lkc.noise = 7 ∧ t.lkc.reply.isSome = true)) = true := by decide +kernel

/-- R185: a KIND that is no request kind is UNKNOWN. -/
theorem test_unknown_kind : leaves (.requestFrame 0x48 7 [] (crc16 [2, 0x48, 7])) base (fun t =>
    decide (t.lkc.reply.map (·.bytes.take 7) = some [0xA7, 0, 4, 0xC8, 7, 8, 0x25])) = true := by decide +kernel

/-- 11.7: a damaged TLRD is counted as CHECK and gets no reply. -/
theorem test_damaged_frame : leaves (.requestFrame 0x30 0x41 [7] (crc16 [3, 0x30, 0x41, 3])) base (fun t =>
    decide (t.lkc.check = 1 ∧ t.lkc.linkErr = true ∧ t.lkc.reply = none)) = true := by decide +kernel

/-- 11.7: a stray byte is NOISE, and SOF starts a frame. -/
theorem test_bytes_in_hunt :
    (let s : State := { base with lkc := { base.lkc with begun := true } }
     leaves (.linkByte (.completes 0x3C)) s (fun t => decide (t.lkc.noise = 1 ∧ t.lkc.receive = none))
      && leaves (.linkByte (.completes 0xA7)) s (fun t => decide (t.lkc.receive = some [0xA7] ∧ t.lkc.gap = some 5000))) = true := by
  decide +kernel

/-- R183: a byte that begins within the gap stops its timer, and the frame stays in assembly. -/
theorem test_start_bit_stops_the_gap : leaves (.linkByte .begins)
    { base with lkc := { base.lkc with receive := some [0xA7], gap := some 5000 } } (fun t =>
    decide (t.lkc.gap = none ∧ t.lkc.begun = true ∧ t.lkc.receive = some [0xA7])) = true := by decide +kernel

/-- R183: a byte that follows too late ends the frame with GAP. -/
theorem test_gap : leaves .gapExpiry { base with lkc := { base.lkc with receive := some [0xA7], gap := some 5000 } } (fun t =>
    decide (t.lkc.gapErr = 1 ∧ t.lkc.receive = none ∧ t.lkc.linkErr = true ∧ t.tsc.e = 5000)) = true := by decide +kernel

theorem test_reply_ends : leaves .replyEnd answering (fun t => decide (t.lkc.reply = none ∧ t.tsc.e = 5)) = true := by
  decide +kernel

/-- 11.7: STAT shows a flag whose condition holds, and sets it again. -/
theorem test_stat : leaves (.stat 1) { base with ntc := { base.ntc with flags := 0x440, conditions := 0x400 } } (fun t =>
    decide (bodyOf t = [4, 0x40, 4, 0, 0, 0] ∧ t.ntc.flags = 0x400 ∧ t.ntc.attn = true)) = true := by decide +kernel

/-- 11.7: LSTAT shows the counters and clears them; its summary shows LINK_ERR clear. -/
theorem test_lstat : leaves (.lstat 0x43) { base with lkc := { base.lkc with noise := 2, check := 1, linkErr := true } } (fun t =>
    decide (replied t = [0, 0x25] ++ [0, 2, 0, 0, 0, 0, 0, 1, 0, 0, 1] ∧ t.lkc.noise = 0 ∧ t.lkc.linkErr = false)) = true := by
  decide +kernel

/-- R189: the part's identity. -/
theorem test_idnt : leaves (.idnt 1) base (fun t =>
    decide (bodyOf t = [0x08, 0x32, 1, 8, 32, 1, 0x40, 8, 16, 16, 6, 0, 1])) = true := by decide +kernel

/-- R191: LOCAL_OFFSET is clamped to +840. -/
theorem test_cfgw_clamps : leaves (.cfgw 1 1 0 2000) base (fun t =>
    decide (t.cfg.localOffset = 840 ∧ replied t = [1, 0x25] ++ [1, 0, 0, 0, 3, 0x48])) = true := by decide +kernel

/-- R73: a second BREAKER line of one unit is a CONFLICT. -/
theorem test_cfgw_conflict : leaves (.cfgw 1 32 6 3)
    (withLine breaker5 6 (wired .plain 2) quietLine) (fun t => decide (resultOf t = some 5 ∧ (t.lineCfg 6).kind = .plain)) = true := by
  decide +kernel

/-- R192: the default of MANUAL_WINDOW. -/
theorem test_cfgr : leaves (.cfgr 1 69 0) base (fun t => decide (bodyOf t = [69, 0, 0, 0, 0, 15])) = true := by decide +kernel

/-! ### The machine -/

theorem test_step_takes_the_front : (match step { base with pending := [.tacq 1, .efls 2] } with
    | .next t => decide (t.pending = [.efls 2] ∧ resultOf t = some 3)
    | .fault _ | .refused _ => false) = true := by decide +kernel

/-- R3: at c = 0 a cycle is 100 ns. -/
theorem test_idle_cycle : (match step base with
    | .next t => decide (t.tsc.n = 100 ∧ t.tsc.eSub = 100 ∧ t.tsc.e = 0)
    | .fault _ | .refused _ => false) = true := by decide +kernel

/-! ### Witnesses: the machine, the resets, the supply, the clock -/

/-- One ns short of the second at the end of the cycle. -/
def lateInSecond : State := { base with tsc := { base.tsc with n := 999999899 } }

/-- An autosave has come due, and nothing else. -/
def autosaveDue : State := { base with stc := { base.stc with autosave := some 0 } }

/-- The end of the second falls within the next cycle. -/
def atSecondEnd : State := { base with tsc := { base.tsc with n := 999999950 } }

/-- A line in CHATTER with a change pending: the quiet timer comes first, and drops it. -/
def outrun : State :=
  withLine base 1 (wired .plain 0)
    { quietLine with
      pinHigh := true, state := .chatter, quiet := some 10
      pending := some { level := true, raw := ⟨0, 0, 0, 0, 0⟩, expiry := 20 } }

theorem witness_EmptyQueueLetsOneCyclePass : lateInSecond.pending = [] ∧ lateInSecond.due = []
    ∧ lateInSecond.tsc.s < 2 ^ 40 ∧ autosaveDue.pending = [] ∧ autosaveDue.due ≠ []
    ∧ lateInSecond.tsc.n + (lateInSecond.tsc.frac + (100 * (1000000000 + lateInSecond.dsc.c)).toNat) / 1000000000 = 999999999
    ∧ (atSecondEnd.pending = [] ∧ atSecondEnd.quiet (atSecondEnd.tsc.elapsed + (1000000000 - atSecondEnd.tsc.n) + 1)
      ∧ 1000000000 ≤ atSecondEnd.tsc.n + (atSecondEnd.tsc.frac + (100 * (1000000000 + atSecondEnd.dsc.c)).toNat) / 1000000000)
    ∧ (answering.lkc.reply.map (·.endAt) = some 5 ∧ (answering.runToE 5).lkc.reply.map (·.endAt) = some 5)
    ∧ ((outrun.line 1).pending.map (·.expiry) = some 20 ∧ ((outrun.runToE 20).line 1).pending.map (·.expiry) ≠ some 20)
    ∧ (saving.stc.inFlight = some { trigger := .save, start := 0, snapshot := some base.snapshot.stored, draw := 0 }) :=
  ⟨rfl, by decide +kernel, by decide +kernel, rfl, by decide +kernel, by decide +kernel,
    ⟨rfl, quiet_of (by decide +kernel), by decide +kernel⟩, by decide +kernel, by decide +kernel, rfl⟩

/-- R2: a filter expiry that the quiet timer overtakes does nothing more (entry 3). -/
theorem test_overtaken_expiry_does_nothing : leaves (.filterExpiry 1) outrun (fun t =>
    decide ((t.line 1).state = .steady ∧ (t.line 1).filtered = true ∧ (t.line 1).recent = [10] ∧ t.tsc.e = 20)) = true := by
  decide +kernel

/-- R178, R2: an expiry that has been reached is taken before time passes on (entry 2). -/
theorem test_due_command_comes_first : autosaveDue.tick.pending = [.autosaveExpiry]
    ∧ autosaveDue.tick.tsc = autosaveDue.tsc := by decide +kernel

theorem witness_WellFormedCommandsRun : (Instr.rawEdge 1 true).wellFormed = true ∧ (Instr.rawEdge 32 true).wellFormed = true
    ∧ (Instr.discrepancyTimerExpiry 8).wellFormed = true ∧ (Instr.schw 0 (List.replicate 62 ⟨0, 1, 30⟩)).wellFormed = true
    ∧ (Instr.requestFrame 0 0 (List.replicate 254 0) 0).wellFormed = true
    ∧ (Instr.refaFrame fourth fourthCheck).wellFormed = true
    ∧ (Instr.rawEdge 33 true).wellFormed = false := by decide +kernel

theorem witness_ResetIsThePowerOnOfAnErasedPart : base.stc.store = .erased ∧ base.stc.inFlight = none ∧ base.draws = 0
    ∧ base.pending = [] := by decide +kernel

theorem witness_PowerOnRestartsThePart : (stored.stc.inFlight = none ∧ ∃ x, stored.stc.store = .holds x ∧ x.format = 0x32
      ∧ x.check = crc16 (x.format :: Config.imageBytes x.image) ∧ x.image.current.number < 4294967295)
    ∧ (base.stc.inFlight = none ∧ base.stc.store = .erased) ∧ (base.lineCfg 1).kind = .unused
    ∧ saving.stc.inFlight.isSome = true :=
  ⟨⟨rfl, _, rfl, rfl, rfl, by decide +kernel⟩, ⟨rfl, rfl⟩, by decide +kernel, rfl⟩

/-- A GEN unit without a BREAKER line, its mode to be derived again, and a unit in STILL whose BREAKER line is closed. -/
def rederiving : State :=
  inMode (inMode (breaker5.setLine 5 { quietLine with pinHigh := true }) 2 .still 0 (some 0)) 3 .gen 0 (some 0)

/-- The tallies are in range where each mode of each unit is, which can be decided. -/
theorem talliesInRange_of_numbers (s : State)
    (h : ∀ u ∈ numbers 8, (∀ m ∈ [Mode.none, .still, .spin, .gen, .pump, .cond, .indet],
      ((s.unit u).tally.accs.get m).secs ≤ max32 ∧ ((s.unit u).tally.accs.get m).rem ≤ 999999)
      ∧ (s.unit u).tally.starts ≤ max16 ∧ (s.unit u).tally.trips ≤ max16) : s.talliesInRange := fun u hu =>
  have ⟨h1, h2⟩ := h u ((mem_numbers 8 u).mpr (by simpa [unitExists] using hu))
  ⟨fun m => h1 m (by cases m <;> simp), h2⟩

theorem rederiving_talliesInRange : rederiving.talliesInRange := talliesInRange_of_numbers _ (by decide +kernel)

theorem rederiving_spacious : rederiving.spacious := ⟨by decide +kernel, 1, by decide +kernel, by decide⟩

/-- R126, R131: a restart takes unit 2 from STILL to INDET with no start counted, and unit 3 to NONE. -/
theorem test_restart_derives_modes : (let t := rederiving.restartLines
    decide ((t.unit 2).mode = .indet ∧ (t.unit 2).tally.starts = 0 ∧ (t.unit 2).entry = 50000000 ∧ (t.unit 3).mode = .none
      ∧ (t.unit 3).ecp = none)) = true := by decide +kernel

theorem witness_RestartKeepsTimeAndDropsTheSources : locked.accepts .rstrt ∧ base.accepts .rstrt
    ∧ (rederiving.accepts .rstrt ∧ rederiving.spacious ∧ rederiving.talliesInRange ∧ rederiving.evq.nextSeq = some 1
      ∧ (rederiving.unit 2).mode = .still ∧ (rederiving.unit 3).mode = .gen) :=
  ⟨⟨rfl, by decide +kernel⟩, ⟨rfl, by decide +kernel⟩, ⟨rfl, by decide +kernel⟩, rederiving_spacious, rederiving_talliesInRange,
    by decide +kernel⟩

theorem witness_HoldupChangesOfLevel : (base.stc.holdup = false ∧ base.ntc.conditions.getLsbD 12 = false ∧ base.stc.inFlight = none)
    ∧ (saving.stc.holdup = false ∧ saving.stc.inFlight.isSome = true) ∧ held.stc.holdup = true := by decide +kernel

/-- The last second of the time scale. -/
def lastSecond : State := { midnight with tsc := { midnight.tsc with s := 2 ^ 40 - 1, n := 999999999 } }

theorem witness_SecondBoundaryAdvancesOneSecond : (midnight.tsc.inRange ∧ lastSecond.tsc.inRange)
    ∧ (midnight.quiet (midnight.tsc.elapsed + (1000000000 - midnight.tsc.n) + 1) ∧ base.tsc.tracker = none)
    ∧ (dawn.tsc.inRange ∧ dawn.quiet (dawn.tsc.elapsed + (1000000000 - dawn.tsc.n) + 1)
      ∧ dawn.tsc.tracker = some { day := 0, minute := 359 } ∧ dawn.tsc.s - dawn.tsc.leap + 1 = (21600 : Int)
      ∧ dawn.shu.schedule = [] ++ ⟨360, 2, 30⟩ :: [⟨840, 3, 30⟩, ⟨1320, 1, 30⟩] ∧ (360, (0 : Int)) ∉ dawn.tsc.lastFired)
    ∧ ({ dawn with shu := { dawn.shu with current := { dawn.shu.current with crew := 2 } } } : State).shu.current.crew = 2
    ∧ dawn.roomy := by
  refine ⟨?_, ⟨quiet_of (by decide +kernel), rfl⟩, ⟨?_, quiet_of (by decide +kernel), rfl, by decide +kernel, rfl, by decide +kernel⟩,
    rfl, by decide +kernel, 1, rfl, by decide⟩
  all_goals unfold TimeScale.inRange; decide +kernel

theorem witness_BoundaryFeedFollowsTheActionLevel : (locked.tsc.inRange ∧ base.tsc.inRange ∧ (follows .holdover).tsc.inRange)
    ∧ (∀ s ∈ [locked, base, follows .holdover], s.quiet (s.tsc.elapsed + (1000000000 - s.tsc.n) + 1))
    ∧ (let s : State := { locked with ftx := { locked.ftx with transmission := some (.brk 1000001) } }
       s.ftx.transmission.isSome = true ∧ s.tsc.elapsed + (1000000000 - s.tsc.n) + 1 ≤ 1000001 * 1000) := by
  refine ⟨by unfold TimeScale.inRange; decide +kernel, ?_, by decide +kernel⟩
  intro s hs
  simp only [List.mem_cons, List.not_mem_nil, or_false] at hs
  rcases hs with rfl | rfl | rfl <;> exact quiet_of (by decide +kernel)

/-- A frame on FEED, a reply and a gap that end one after another. -/
def active : State :=
  { answering with
    ftx := { base.ftx with transmission := some (.brk 5) }, lkc := { answering.lkc with receive := some [0xA7], gap := some 5 } }

theorem witness_LineActivityEnds :
    (active.ftx.transmission = some (.brk 5) ∧ active.lkc.reply = some { bytes := [], endAt := 5 } ∧ active.lkc.gap = some 5
      ∧ active.quietTo 5)
    ∧ (base.ftx.transmission = none ∧ base.lkc.reply = none ∧ base.lkc.gap = none)
    ∧ base.tsc.s < secondsModulus ∧ base.tsc.n < nsPerS ∧ base.tsc.epoch < 256 ∧ base.tsc.eSub < 1000 ∧ base.tsc.frac < fracModulus
    ∧ (0 : Nat) ≤ base.tsc.e :=
  ⟨⟨rfl, rfl, rfl, quietTo_ahead (by decide +kernel) (by decide +kernel)⟩, by decide +kernel⟩

/-! ### Witnesses: readings -/

/-- No reply is on its way: what the readings ask. -/
theorem witness_TrdReadsTheTimeScale : midnight.lkc.reply = none ∧ held.lkc.reply = none ∧ saving.lkc.reply = none := by
  decide +kernel

theorem witness_TlrdReadsTheTallies : base.lkc.reply = none ∧ (1 ≤ (1 : Byte).toNat ∧ (1 : Byte).toNat ≤ 8)
    ∧ (1 ≤ (8 : Byte).toNat ∧ (8 : Byte).toNat ≤ 8) ∧ ¬(1 ≤ (0 : Byte).toNat ∧ (0 : Byte).toNat ≤ 8)
    ∧ ¬(1 ≤ (9 : Byte).toNat ∧ (9 : Byte).toNat ≤ 8) := by decide +kernel

/-- A station with one closed shift. -/
def closedOne : State := { station with shu := { station.shu with history := [{ station.shu.current with number := 70002, kind := .completed }] } }

theorem witness_ShiftUnitIsRead : (held.lkc.reply = none ∧ held.stc.holdup = true)
    ∧ (closedOne.lkc.reply = none ∧ closedOne.stc.holdup = false ∧ closedOne.shu.history.length ≤ (1 : Byte).toNat
      ∧ (closedOne.shu.history[(0 : Byte).toNat]?).isSome = true) := by decide +kernel

theorem witness_DiscReadsTheDiscipline : (locked.lkc.reply = none ∧ locked.stc.holdup = false)
    ∧ (held.lkc.reply = none ∧ held.stc.holdup = true) := by decide +kernel

theorem witness_PartAndEntriesAreRead : (base.lkc.reply = none ∧ base.stc.holdup = false) ∧ (held.lkc.reply = none ∧ held.stc.holdup = true)
    ∧ ((.localOffset, 0) ∈ entries ∧ Item.localOffset.number = (1 : Byte).toNat)
    ∧ ((.lineNotify, 32) ∈ entries ∧ Item.lineNotify.number = (38 : Byte).toNat)
    ∧ ((.manualWindow, 0) ∈ entries ∧ Item.manualWindow.number = (69 : Byte).toNat)
    ∧ (∀ p ∈ entries, ¬(p.1.number = (38 : Byte).toNat ∧ p.2 = (33 : Byte).toNat))
    ∧ ∀ p ∈ entries, ¬(p.1.number = (70 : Byte).toNat ∧ p.2 = (0 : Byte).toNat) := by decide +kernel

/-! ### Witnesses: requests to the receiver and the discipline -/

theorem witness_PinjSetsOneInjection : (base.lkc.reply = none ∧ base.stc.holdup = false ∧ base.dsc.state = .free)
    ∧ (locked.lkc.reply = none ∧ locked.stc.holdup = false ∧ locked.dsc.state ≠ .free)
    ∧ ((3 : Byte) ≠ 1 ∧ (3 : Byte) ≠ 2) ∧ ((0 : Byte) ≠ 1 ∧ (0 : Byte) ≠ 2) := by decide +kernel

theorem witness_RefsReadsAndMayClear : base.lkc.reply = none ∧ base.stc.holdup = false ∧ ((2 : Byte) ≠ 0 ∧ (2 : Byte) ≠ 1) := by
  decide +kernel

/-- FREE with REF-A in the view, selected and usable. -/
def freeOnA : State :=
  { base with
    dsc := { base.dsc with view := some .a }
    rrx := { base.rrx with selection := some .a, srcA := { base.rrx.srcA with state := .usable } } }

theorem witness_TsetStepsToTheHostsTime :
    (base.lkc.reply = none ∧ base.stc.holdup = false ∧ base.dsc.state = .free ∧ base.dsc.view = none ∧ base.rrx.selection = none
      ∧ base.rrx.srcA.state ≠ .usable ∧ base.rrx.srcB.state ≠ .usable)
    ∧ (locked.lkc.reply = none ∧ locked.stc.holdup = false ∧ locked.dsc.state = .locked)
    ∧ ((follows .holdover).lkc.reply = none ∧ (follows .holdover).stc.holdup = false ∧ (follows .holdover).dsc.state = .holdover)
    ∧ (freeOnA.lkc.reply = none ∧ freeOnA.stc.holdup = false ∧ freeOnA.dsc.state = .free ∧ freeOnA.dsc.view = some .a
      ∧ freeOnA.rrx.selection = some .a ∧ freeOnA.rrx.srcA.state = .usable ∧ freeOnA.cfg.prefSource = .a)
    ∧ (let s : State := { station with
          tsc := { station.tsc with s := 21600, tracker := some { day := 0, minute := 360 } }, dsc := { station.dsc with state := .holdover } }
       s.roomy ∧ s.dsc.state = .holdover ∧ ⟨840, 3, 30⟩ ∈ s.shu.schedule ∧ (54000 : BitVec 40).toNat / 60 = 900
        ∧ (360 + 1 + ((840 : Int) - (360 + 1)) % 1440) ≤ 900 ∧ (840, (360 + 1 + ((840 : Int) - (360 + 1)) % 1440) / 1440) ∉ s.tsc.lastFired)
    ∧ (999999 : BitVec 24).toNat ≤ 999999 ∧ 999999 < (1000000 : BitVec 24).toNat := by
  refine ⟨by decide +kernel, by decide +kernel, by decide +kernel, by decide +kernel, ⟨⟨by decide +kernel, 1, rfl, by decide⟩, ?_⟩,
    by decide +kernel⟩
  decide +kernel

theorem witness_TacqAsksForAFreshAcquisition :
    (locked.lkc.reply = none ∧ locked.stc.holdup = false ∧ locked.dsc.state = .locked)
    ∧ ((follows .holdover).lkc.reply = none ∧ (follows .holdover).stc.holdup = false ∧ (follows .holdover).dsc.state = .holdover
      ∧ (follows .holdover).dsc.view.isSome = true)
    ∧ (base.lkc.reply = none ∧ base.stc.holdup = false ∧ ¬(base.dsc.state = .locked ∨ base.dsc.state = .holdover)) := by
  decide +kernel

/-! ### Witnesses: requests to the lines and the queue -/

theorem witness_LnstReadsAndClearsTheBounces : (held.lkc.reply = none ∧ held.stc.holdup = true)
    ∧ (risen.lkc.reply = none ∧ risen.stc.holdup = false) ∧ (32 < (33 : Byte).toNat) ∧ (1 ≤ (32 : Byte).toNat ∧ (32 : Byte).toNat ≤ 32)
    ∧ (0 : Byte).toNat = 0 := by decide +kernel

theorem witness_EinjPlacesOneInjectedRecord : (tripping.lkc.reply = none ∧ tripping.stc.holdup = false)
    ∧ (tripping.lineCfg (12 : Byte).toNat).kind = .trip ∧ (tripping.lineCfg (32 : Byte).toNat).kind = .unused
    ∧ ¬(1 ≤ (33 : Byte).toNat ∧ (33 : Byte).toNat ≤ 32) ∧ ((2 : Byte) ≠ 0 ∧ (2 : Byte) ≠ 1) := by decide +kernel

theorem witness_EflsLeavesOneRecord : (base.lkc.reply = none ∧ base.stc.holdup = false) ∧ (held.lkc.reply = none ∧ held.stc.holdup = true) := by
  decide +kernel

theorem witness_EfchHandsAndMarksTheOldest : base.lkc.reply = none ∧ (1 ≤ (8 : Byte).toNat ∧ (8 : Byte).toNat ≤ 8)
    ∧ (1 ≤ (1 : Byte).toNat ∧ (1 : Byte).toNat ≤ 8) ∧ ¬(1 ≤ (9 : Byte).toNat ∧ (9 : Byte).toNat ≤ 8)
    ∧ ¬(1 ≤ (0 : Byte).toNat ∧ (0 : Byte).toNat ≤ 8) := by decide +kernel

/-- Two delivered records and one that is not. -/
def fetched : State := queued [recordOf 7 (.flushed 0) true, recordOf 8 (.flushed 0) true, recordOf 9 (.flushed 0) false] (some 10)

theorem witness_ErelReleasesUpToADeliveredRecord : fetched.lkc.reply = none
    ∧ (∀ r ∈ fetched.evq.records, ¬(r.seq = (9 : BitVec 32).toNat ∧ r.delivered = true))
    ∧ (fetched.evq.records = [recordOf 7 (.flushed 0) true] ++ recordOf 8 (.flushed 0) true :: [recordOf 9 (.flushed 0) false]
      ∧ (recordOf 8 (.flushed 0) true).seq = (8 : BitVec 32).toNat
      ∧ ∀ r' ∈ [recordOf 7 (.flushed 0) true], r'.seq ≠ (8 : BitVec 32).toNat) := by decide +kernel

/-- A queue of this many records under a policy, the newest with this detail. -/
def filled (k : Nat) (policy : QueuePolicy) (d : Detail) (delivered : Bool) : State :=
  let s := queued (List.replicate k (recordOf 7 (.trip 1 .gen 0 1) delivered) ++ [recordOf 8 d delivered]) (some 4294967295)
  { s with cfg := { s.cfg with queuePolicy := policy } }

theorem witness_PlacingOrLosingIsCounted :
    ((filled 317 .stop (.flushed 0) false).evq.records.length = 318 ∧ (filled 317 .stop (.flushed 0) false).cfg.queuePolicy = .stop)
    ∧ ((filled 318 .stop (.flushed 0) false).evq.records.length = 319
      ∧ ((filled 318 .stop (.flushed 0) false).evq.records.getLast?.map (·.detail.isMarker)).getD false = false)
    ∧ (319 ≤ (filled 318 .stop (.overflow 65535 0) false).evq.records.length
      ∧ (filled 318 .stop (.overflow 65535 0) false).evq.records = List.replicate 318 (recordOf 7 (.trip 1 .gen 0 1) false)
          ++ [recordOf 8 (.overflow 65535 0) false])
    ∧ ((filled 319 .stop (.flushed 0) false).evq.records.length = 320
      ∧ ((filled 319 .stop (.flushed 0) false).evq.records.getLast?.map (·.detail.isMarker)).getD false = false)
    ∧ ((filled 319 .overwrite (.flushed 0) false).evq.records.length = 320
      ∧ (∃ r ∈ (filled 319 .overwrite (.flushed 0) false).evq.records, r.delivered = false ∧ r.detail.isTrip = false))
    ∧ (∃ r ∈ (filled 319 .overwrite (.trip 1 .gen 0 1) false).evq.records, r.delivered = false ∧ r.detail.isTrip = true)
    ∧ (∀ r ∈ (filled 319 .overwrite (.flushed 0) true).evq.records, r.delivered = true)
    ∧ ((filled 319 .overwrite (.flushed 0) false).evq.records
        = List.replicate 319 (recordOf 7 (.trip 1 .gen 0 1) false) ++ recordOf 8 (.flushed 0) false :: []
      ∧ ∀ y ∈ List.replicate 319 (recordOf 7 (.trip 1 .gen 0 1) false), y.delivered = true ∨ y.detail.isTrip = true)
    ∧ ((filled 319 .overwrite (.trip 1 .gen 0 1) false).evq.records = [] ++ recordOf 7 (.trip 1 .gen 0 1) false
          :: (List.replicate 318 (recordOf 7 (.trip 1 .gen 0 1) false) ++ [recordOf 8 (.trip 1 .gen 0 1) false])
      ∧ ∀ y ∈ (filled 319 .overwrite (.trip 1 .gen 0 1) false).evq.records, y.delivered = true ∨ y.detail.isTrip = true)
    ∧ (queued [] none).evq.nextSeq = none ∧ (Detail.trip 1 .gen 0 1).isTrip = true := by decide +kernel

/-! ### Witnesses: requests to the tallies and the shifts -/

theorem witness_TlpsPresetsOneField : base.accepts .tlps ∧ (1 ≤ (8 : Byte).toNat ∧ (8 : Byte).toNat ≤ 8)
    ∧ (1 ≤ (7 : Byte).toNat ∧ (7 : Byte).toNat ≤ 7) ∧ ¬(1 ≤ (8 : Byte).toNat ∧ (8 : Byte).toNat ≤ 7) ∧ 9 < (10 : Byte).toNat
    ∧ (65535 < (65536 : BitVec 32).toNat ∧ (65535 : BitVec 32).toNat ≤ 65535) :=
  ⟨⟨rfl, by decide +kernel⟩, by decide +kernel⟩

theorem witness_MsetSetsTheLimit : base.accepts .mset ∧ ((4 : Byte) ≠ 1 ∧ (4 : Byte) ≠ 2 ∧ (4 : Byte) ≠ 3)
    ∧ (1 ≤ (1 : Byte).toNat ∧ (1 : Byte).toNat ≤ 8) ∧ ¬(1 ≤ (9 : Byte).toNat ∧ (9 : Byte).toNat ≤ 8) :=
  ⟨⟨rfl, by decide +kernel⟩, by decide +kernel⟩

theorem witness_TallyTimersAct :
    (let s := base.setUnit 8 { base.unit 8 with timer := .running 5 }
     (s.unit 8).timer = .running 5 ∧ s.quietTo 5 ∧ s.evq.records.length ≤ 318 ∧ s.evq.nextSeq = some 1)
    ∧ (pumped 1000300 1604400).quietTo (pumped 1000300 1604400).tlu.nextEval
    ∧ ∀ at', (base.unit 1).timer ≠ .running at' :=
  ⟨⟨by decide +kernel, quietTo_ahead (by decide +kernel) (by decide +kernel), by decide +kernel⟩, Or.inl (by decide +kernel),
    fun _ h => nomatch h⟩

theorem witness_SchwSortsAndClampsTheSchedule : base.accepts .schw
    ∧ (let xs : List ScheduleWrite := [⟨1439, 15, 4⟩, ⟨0, 1, 121⟩, ⟨1, 2, 5⟩, ⟨2, 3, 6⟩, ⟨3, 4, 7⟩, ⟨4, 5, 8⟩]
       xs.length ≤ 6 ∧ (∀ x ∈ xs, x.start.toNat ≤ 1439 ∧ 1 ≤ x.crew.toNat ∧ x.crew.toNat ≤ 15)
        ∧ xs.Pairwise (fun x y => x.start ≠ y.start))
    ∧ ([⟨1440, 1, 30⟩] : List ScheduleWrite).length ≤ 61 ∧ ¬((1440 : BitVec 16).toNat ≤ 1439) :=
  ⟨⟨rfl, by decide +kernel⟩, by decide +kernel⟩

theorem witness_HandoverRequestsAreJudged : (waiting.lkc.reply = none ∧ waiting.stc.holdup = false ∧ 15 < (16 : Byte).toNat)
    ∧ ((15 : Byte).toNat ≤ 15 ∧ base.lkc.reply = none ∧ base.stc.holdup = false ∧ base.shu.state = .onShift)
    ∧ (waiting.shu.state ≠ .onShift ∧ (15 : Byte).toNat ≠ waiting.shu.current.crew ∧ waiting.shu.expected ≠ some (15 : Byte).toNat)
    ∧ (handing.shu.state ≠ .onShift ∧ (1 : Byte).toNat = handing.shu.current.crew ∧ handing.shu.accept = false)
    ∧ (handing.shu.expected = some (2 : Byte).toNat ∧ handing.shu.release = false)
    ∧ (¬ ((15 : Byte).toNat = waiting.shu.current.crew ∨ waiting.shu.expected = some (15 : Byte).toNat))
    ∧ (∀ x ∈ waiting.shu.openTrips, x.seq ≠ (5 : BitVec 32).toNat)
    ∧ (let s : State := { waiting with shu := { waiting.shu with release := false } }
       s.shu.openTrips = [] ++ ⟨88410, 3, Date.atReset⟩ :: [] ∧ (88410 : BitVec 32).toNat = 88410 ∧ s.shu.release = false) := by
  decide +kernel

/-- A handover that waits for the release or for the accept alone. -/
def almost (release accept : Bool) : State := { handing with shu := { handing.shu with release := release, accept := accept } }

theorem witness_LastRequestCompletesTheHandover :
    ((almost false true).lkc.reply = none ∧ (almost false true).stc.holdup = false ∧ (almost false true).shu.state ≠ .onShift
      ∧ (almost false true).shu.current.number < 4294967295 ∧ (1 : Byte).toNat = (almost false true).shu.current.crew
      ∧ (almost false true).shu.release = false ∧ (almost false true).shu.accept = true
      ∧ (almost false true).shu.openTrips = [] ∧ (almost false true).shu.overflow = false)
    ∧ ((almost true false).shu.expected = some (2 : Byte).toNat ∧ (almost true false).shu.accept = false
      ∧ (almost true false).shu.release = true ∧ (almost true false).shu.openTrips = [])
    ∧ (waiting.lkc.reply = none ∧ waiting.stc.holdup = false ∧ waiting.shu.state ≠ .onShift ∧ waiting.shu.current.number < 4294967295
      ∧ waiting.shu.expected = some (2 : Byte).toNat ∧ waiting.shu.release = true ∧ waiting.shu.accept = true
      ∧ waiting.shu.overflow = false ∧ waiting.shu.openTrips = [⟨88410, 3, Date.atReset⟩] ∧ (88410 : BitVec 32).toNat = 88410)
    ∧ (waiting.cfg.saveAtShift = true ∧ waiting.stc.inFlight = none) := by decide +kernel

theorem witness_HandoversOpenAndGoOverdue : (station.lkc.reply = none ∧ station.stc.holdup = false ∧ station.shu.state = .onShift
      ∧ ¬((15 : Byte) = 0 ∨ 15 < (15 : Byte).toNat ∨ (15 : Byte).toNat = station.shu.current.crew))
    ∧ (15 < (16 : Byte).toNat) ∧ (handing.lkc.reply = none ∧ handing.stc.holdup = false ∧ handing.shu.state ≠ .onShift)
    ∧ (let s : State := { handing with tsc := { handing.tsc with e := 1800000000 } }
       s.shu.state = .handover ∧ s.shu.window = some { opening := 0, expiry := 1800000000 } ∧ s.quietTo 1800000000)
    ∧ base.shu.window = none ∧ (base.evq.records.length ≤ 318 ∧ base.evq.nextSeq = some 1) := by
  refine ⟨by decide +kernel, by decide, by decide +kernel, ⟨rfl, rfl, Or.inl (by decide +kernel)⟩, by decide +kernel⟩

/-! ### Witnesses: the store and the configuration -/

theorem witness_SaveStartsQueuesOrIsAbsorbed : (held.lkc.reply = none ∧ held.stc.holdup = true)
    ∧ (saving.lkc.reply = none ∧ saving.stc.holdup = false ∧ saving.stc.inFlight.isSome = true ∧ saving.stc.queued = none)
    ∧ (let s : State := { saving with stc := { saving.stc with queued := some .holdup } }
       s.lkc.reply = none ∧ s.stc.holdup = false ∧ s.stc.inFlight.isSome = true ∧ s.stc.queued.isSome = true)
    ∧ (base.lkc.reply = none ∧ base.stc.holdup = false ∧ base.stc.inFlight = none) := by decide +kernel

theorem witness_SavesEndAndFallDue : base.stc.inFlight = none
    ∧ (let s : State := { saving with tsc := { saving.tsc with e := 30000 } }
       s.stc.inFlight = some { trigger := .save, start := 0, snapshot := some base.snapshot.stored, draw := 0 } ∧ s.stc.queued = none
        ∧ s.evq.records.length ≤ 318 ∧ s.evq.nextSeq = some 1 ∧ s.quietTo (0 + 30000))
    ∧ (let s : State := { base with tsc := { base.tsc with e := 14400000000 } }
       s.stc.autosave = some 14400000000 ∧ s.quietTo 14400000000 ∧ s.stc.inFlight = none)
    ∧ ({ base.stc with autosave := none } : StoreController).autosave = none :=
  ⟨rfl, ⟨rfl, rfl, by decide +kernel, rfl, Or.inl (by decide +kernel)⟩, ⟨rfl, Or.inl (by decide +kernel), rfl⟩, rfl⟩

theorem witness_DfltRestoresTheDefaults : breaker5.accepts .dflt ∧ (breaker5.lineCfg 5).kind ≠ .unused :=
  ⟨⟨rfl, by decide +kernel⟩, by decide +kernel⟩

theorem witness_CfgwStoresOneEntry : breaker5.accepts .cfgw ∧ rederiving.talliesInRange
    ∧ ((.lineKind, 32) ∈ entries ∧ Item.lineKind.number = (32 : Byte).toNat ∧ (3 : BitVec 32).toInt ≤ 6)
    ∧ ((.refaId, 0) ∈ entries ∧ (Item.refaId.range base.cfg).1 = 1 ∧ (0 : BitVec 32).toInt < 1)
    ∧ ((.noticeMask, 0) ∈ entries ∧ Item.noticeMask.refuses = true ∧ 16383 < (16384 : BitVec 32).toInt)
    ∧ ((.phaseLimit, 0) ∈ entries ∧ (100 : BitVec 32).toInt = (Item.phaseLimit.range base.cfg).1
      ∧ Item.phaseLimit.read base.cfg 0 ≠ 100)
    ∧ (let s := withLine breaker5 6 (wired .plain 2) quietLine
       let x := nth (Item.lineKind.write s.cfg 6 3).lines 6
       x.kind.isStatus = true ∧ 1 ≤ x.unit ∧ (s.lineCfg 5).kind = x.kind ∧ (s.lineCfg 5).unit = x.unit)
    ∧ (let s : State := { locked with
          tsc := { locked.tsc with e := 10000000 }, rrx := { locked.rrx with revert := some { start := 0, expiry := 60000000 } } }
       Item.revertDelay.read s.cfg 0 ≠ (10 : BitVec 32).toInt ∧ 0 + 10 * 1000000 ≤ s.tsc.e ∧ s.rrx.revert = some { start := 0, expiry := 60000000 }
        ∧ (10 : BitVec 32).toInt = (Item.revertDelay.range s.cfg).1)
    ∧ (Item.prefSource.read locked.cfg 0 ≠ 1 ∧ locked.rrx.selection = some .b)
    ∧ (Item.slewLimit.read locked.cfg 0 ≠ 1000 ∧ Item.freqWindow.read locked.cfg 0 ≠ 2 ∧ Item.watermark.read base.cfg 0 ≠ 1
      ∧ base.ntc.conditions.getLsbD 9 = false ∧ (1 : Int) ≤ base.evq.records.length ∧ Item.noticeMask.read base.cfg 0 ≠ 1)
    ∧ (Item.autosaveHours.read base.cfg 0 ≠ 0 ∧ Item.localOffset.read dawn.cfg 0 ≠ 60 ∧ Item.discrepDelay.read base.cfg 8 ≠ 1
      ∧ Item.lineKind.read breaker5.cfg 5 ≠ 1 ∧ Item.holdDrift.read base.cfg 0 ≠ 0)
    ∧ (Item.linePolarity.read rederiving.cfg 5 ≠ 1 ∧ (rederiving.lineCfg 5).kind.isStatus = true ∧ (rederiving.lineCfg 5).unit = 2
      ∧ (rederiving.unit 2).mode = .still)
    ∧ ∀ p ∈ entries, ¬(p.1.number = (24 : Byte).toNat ∧ p.2 = (0 : Byte).toNat) :=
  ⟨⟨rfl, by decide +kernel⟩, rederiving_talliesInRange, by decide +kernel⟩

/-! ### Witnesses: the link -/

theorem witness_StatAndLstatReadAndClear : base.lkc.reply = none ∧ held.lkc.reply = none := by decide +kernel

theorem witness_RequestsTurnedAwayChangeNothing :
    (requestOf (.tacq 5) = some (.tacq, 5, []) ∧ ([] : List Byte).length ≤ 248 ∧ answering.lkc.reply.isSome = true)
    ∧ (requestOf (.dflt 5) = some (.dflt, 5, []) ∧ saving.lkc.reply = none ∧ saving.stc.inFlight.isSome = true
      ∧ Kind.dflt ∈ [Kind.cfgw, .tlps, .mset, .schw, .dflt, .rstrt])
    ∧ (held.lkc.reply = none ∧ held.stc.holdup = true
      ∧ Kind.tacq ∉ [Kind.stat, .lstat, .idnt, .trd, .tlrd, .shst, .efch, .erel]) := by decide +kernel

theorem witness_FramesAreJudgedInOrder : (List.replicate 248 (0 : Byte)).length ≤ 248
    ∧ (0x1234 : BitVec 16) ≠ crc16 ([byteOf 2, 1, 7] ++ [])
    ∧ (base.lkc.reply = none ∧ answering.lkc.reply.isSome = true)
    ∧ ((0x48 : Byte) ∉ ([0x47, 0x46] : List Byte) ∧ (0x42 : Byte) ∈ ([0x41, 0x42] : List Byte) ∧ ([0] : List Byte) ≠ []) := by
  decide +kernel

theorem witness_FramesCarryTheRequests :
    (requestOf (.schw 5 (List.replicate 62 ⟨0, 1, 30⟩))).isSome = true
    ∧ requestOf (.hopn 5 3 (some 7)) = some (.hopn, 5, [3, 7]) := by decide +kernel

theorem witness_BytesCarryTheFrame : (List.replicate 253 (0 : Byte)).length ≤ 253 ∧ base.lkc.receive = none ∧ base.lkc.gap = none
    ∧ base.lkc.begun = false ∧ 248 < (List.replicate 249 (0 : Byte)).length := by
  decide +kernel

theorem witness_HuntAndLengthAreJudged : (base.lkc.begun = false ∧ base.lkc.receive = none)
    ∧ (let l : LinkController := { base.lkc with begun := true }
       l.begun = true ∧ l.receive = none ∧ (0xA6 : Byte) ≠ 0xA7)
    ∧ (let l : LinkController := { base.lkc with begun := true, receive := some [0xA7] }
       l.begun = true ∧ l.receive = some [0xA7] ∧ (1 : Byte).toNat < 2 ∧ 250 < (251 : Byte).toNat ∧ 2 ≤ (2 : Byte).toNat
        ∧ (250 : Byte).toNat ≤ 250)
    ∧ (let l : LinkController := { base.lkc with begun := true, receive := some [0xA7, 2, 0x10, 7] }
       l.begun = true ∧ l.receive = some (0xA7 :: 2 :: [0x10, 7]) ∧ ([0x10, 7] : List Byte).length + 1 < (2 : Byte).toNat + 2) := by
  decide +kernel

/-! ### Witnesses: the receiver -/

/-- In SYNC since the first mark. -/
def synced : State :=
  { base with rrx := { base.rrx with
      state := .sync, srcA := { base.rrx.srcA with state := .qualifying, qualify := 3, lastMark := some firstMark } } }

/-- The last instant of the last window of R21, 7.05 s after the first mark, at which a frame arrives. -/
def atEdge : State := { synced with tsc := { synced.tsc with s := 7, n := 462000000, e := 7462000 } }

/-- The candidate of a frame with its last character begun; its mark is the instant of that state. -/
def lastCharacter (s : State) (m : StationMessage) (check : BitVec 16) : State :=
  { s with rrx := { s.rrx with
      begun := some s.latchNow
      candidate := some { mark := s.latchNow, bytes := (m.characters check).dropLast } } }

/-- The last instant of the last window is expected. -/
theorem atEdge_expects : atEdge.expects atEdge.latchNow := ⟨firstMark, 7, rfl, by decide, by decide, by decide +kernel⟩

theorem witness_CharactersCarryTheFrame : base.rrx.begun = none
    ∧ (let r : Receiver := { base.rrx with begun := some firstMark, prevChar := some (0xC3, firstMark) }
       r.begun = some firstMark ∧ r.candidate = none ∧ r.prevChar = some (0xC3, firstMark) ∧ r.state = .hunt
        ∧ 461999 < firstMark.e + 50000 ∧ (0x3B : Byte) ≠ 0x3C)
    ∧ (let s : State := { atEdge with rrx := { atEdge.rrx with begun := some firstMark, prevChar := some (0xC3, atEdge.latchNow) } }
       s.rrx.state = .sync ∧ s.rrx.begun = some firstMark ∧ s.tsc.e < atEdge.latchNow.e + 50000 ∧ s.expects atEdge.latchNow)
    ∧ (let r : Receiver := { base.rrx with
          begun := some firstMark, candidate := some { mark := firstMark, bytes := List.replicate 11 0 } }
       r.begun = some firstMark ∧ r.candidate = some { mark := firstMark, bytes := List.replicate 11 0 }
        ∧ (List.replicate 11 (0 : Byte)).length < 12 ∧ 462000 ≤ firstMark.e + 50000) :=
  ⟨rfl, by decide +kernel, ⟨rfl, rfl, by decide +kernel, atEdge_expects⟩, by decide +kernel⟩

theorem witness_AcceptedFramesAreTaken :
    (fourthCheck = crc16 ([fourth.sourceId, fourth.status] ++ beBytes 5 fourth.civil.toNat ++ [fourth.leap, fourth.sequence])
      ∧ fourth.sourceId ≠ 0 ∧ base.cfg.refaId = 255 ∧ base.rrx.lastSeq ≠ some fourth.sequence)
    ∧ (FrameArrives base.latchNow fourth fourthCheck (.refaFrame fourth fourthCheck) base ∧ base.tsc.epoch = base.latchNow.epoch ∧ base.rrx.srcA.state = .absent)
    ∧ (FrameArrives atEdge.latchNow fourth fourthCheck (.refaFrame fourth fourthCheck) atEdge ∧ atEdge.rrx.lastSeq ≠ some fourth.sequence
      ∧ atEdge.tsc.epoch = atEdge.latchNow.epoch ∧ atEdge.dsc.state = .free ∧ atEdge.rrx.srcA.state = .qualifying
      ∧ 3 ≤ atEdge.rrx.srcA.qualify ∧ atEdge.rrx.selection = none)
    ∧ (FrameArrives base.latchNow fourth fourthCheck (.refaCharacter (.completes (byteOf fourthCheck.toNat)) true) (lastCharacter base fourth fourthCheck)
      ∧ (lastCharacter base fourth fourthCheck).tsc.epoch = base.latchNow.epoch)
    ∧ (let s : State := { follows .acquire with
          rrx := { (follows .acquire).rrx with selection := some .a, srcA := { base.rrx.srcA with state := .usable } } }
       FrameArrives s.latchNow fourth fourthCheck (.refaFrame fourth fourthCheck) s ∧ s.dsc.state ≠ .free ∧ s.rrx.selection = some .a
        ∧ s.rrx.srcA.state = .usable ∧ ¬(s.dsc.state = .locked ∨ s.dsc.state = .holdover))
    ∧ (let s : State := { atEdge with tsc := { atEdge.tsc with leap := 28 } }
       fourth.leap.toInt = s.tsc.leap ∧ FrameArrives s.latchNow fourth fourthCheck (.refaFrame fourth fourthCheck) s ∧ s.roomy)
    ∧ (let s : State := { freeOnA with tsc := { freeOnA.tsc with leap := 28 } }
       fourth.leap.toInt = s.tsc.leap ∧ FrameArrives s.latchNow fourth fourthCheck (.refaFrame fourth fourthCheck) s
        ∧ s.dsc.state = .free ∧ s.rrx.srcA.state = .usable ∧ s.rrx.selection = some .a ∧ s.dsc.view = some .a)
    ∧ (let s : State := { locked with rrx := { locked.rrx with srcA := { locked.rrx.srcA with state := .faulted, release := 4 } } }
       FrameArrives s.latchNow fourth fourthCheck (.refaFrame fourth fourthCheck) s ∧ s.dsc.state = .locked
        ∧ s.rrx.srcA.state = .faulted)
    ∧ (let c : Settings := { base.cfg with refaId := 5 }; c.refaId ≠ 255 ∧ c.refaMatchHigh = false ∧ fourth.sourceId.toNat = c.refaId)
    ∧ (let c : Settings := { base.cfg with refaId := 15, refaMatchHigh := true }
       c.refaId ≠ 255 ∧ c.refaMatchHigh = true ∧ fourth.sourceId.toNat / 16 = c.refaId / 16) :=
  ⟨by decide +kernel, ⟨Or.inl ⟨rfl, rfl, rfl, rfl, fun h => nomatch h⟩, rfl, rfl⟩,
    ⟨Or.inl ⟨rfl, rfl, rfl, rfl, fun _ => atEdge_expects⟩, by decide +kernel⟩,
    ⟨Or.inr ⟨_, _, _, rfl, rfl, by decide +kernel, rfl, by decide +kernel⟩, rfl⟩,
    ⟨Or.inl ⟨rfl, rfl, rfl, rfl, fun h => nomatch h⟩, by decide +kernel⟩,
    ⟨by decide +kernel, Or.inl ⟨rfl, rfl, rfl, rfl, fun _ => atEdge_expects⟩, by decide +kernel, 1, rfl, by decide⟩,
    ⟨by decide +kernel, Or.inl ⟨rfl, rfl, rfl, rfl, fun h => nomatch h⟩, by decide +kernel⟩,
    ⟨Or.inl ⟨rfl, rfl, rfl, rfl, fun h => nomatch h⟩, by decide +kernel⟩, by decide +kernel, by decide +kernel⟩

/-- R52: the first acquisition steps with STEP_ALLOW = 0, and its STEP record has the reason ACQUIRE. -/
theorem test_first_acquisition_steps :
    (let s : State := { freeOnA with cfg := { freeOnA.cfg with stepAllow := false }, dsc := { freeOnA.dsc with lock := 3 } }
     let t := s.discSample .a (-2000000) 0 1
     decide (t.dsc.state = .acquire ∧ t.tsc.s = 0 ∧ t.tsc.n = 2000000 ∧ t.tsc.epoch = 1 ∧ t.dsc.lock = 0 ∧ t.dsc.prev = none)
       && t.evq.records.any (fun r => decide (r.detail = .step 2000 .acquire))) = true := by decide +kernel

theorem witness_DiscardedCandidatesAreCounted :
    (FrameArrives base.latchNow fourth 0 (.refaFrame fourth 0) base
      ∧ (0 : BitVec 16) ≠ crc16 fourth.covered ∧ ({ fourth with sourceId := 0 } : StationMessage).sourceId = 0)
    ∧ (let s := lastCharacter { base with rrx := { base.rrx with lastSeq := some 3 } } fourth fourthCheck
       FrameArrives s.latchNow fourth fourthCheck (.refaCharacter (.completes (byteOf fourthCheck.toNat)) false) s ∧ s.rrx.lastSeq = some fourth.sequence)
    ∧ (let s : State := { lastCharacter base fourth fourthCheck with tsc := { base.tsc with epoch := 1 } }
       FrameArrives base.latchNow fourth fourthCheck (.refaCharacter (.completes (byteOf fourthCheck.toNat)) true) s ∧ s.tsc.epoch ≠ base.latchNow.epoch)
    ∧ (let s : State := { synced with tsc := { base.tsc with n := 912000000, e := 912000 } }
       s.rrx.state = .sync ∧ ¬ s.expects s.latchNow ∧ s.rrx.candidate = none ∧ s.rrx.begun = none
        ∧ ({ s.rrx with begun := some s.latchNow, prevChar := some (0xC3, s.latchNow) } : Receiver).prevChar = some (0xC3, s.latchNow))
    ∧ (let c : Candidate := { mark := { firstMark with e := 0 }, bytes := [0xC3, 0x3C] }
       let s : State := { base with rrx := { base.rrx with candidate := some c } }
       s.rrx.candidate = some c ∧ s.quietTo (c.mark.e + 50000))
    ∧ (let s : State := { base with
          tsc := { base.tsc with e := 50000 }
          rrx := { base.rrx with
            candidate := some { mark := { firstMark with e := 0 }, bytes := [0xC3, 0x3C] }
            srcA := { base.rrx.srcA with nextMissing := some 40000, absentAt := some 45000 } } }
       s.rrx.candidate.isSome = true ∧ Deferred 0 s s.rrx.srcA.nextMissing ∧ Deferred 0 s s.rrx.srcA.absentAt)
    ∧ base.rrx.candidate = none
    ∧ (let c : Candidate := { mark := { firstMark with e := 0 }, bytes := [0xC3, 0x3C] }
       let s : State := { base with
          tsc := { base.tsc with e := 50001 }, rrx := { base.rrx with begun := some firstMark, candidate := some c } }
       s.rrx.candidate = some c ∧ s.rrx.begun.isSome = true ∧ c.mark.e + 50000 < s.tsc.e)
    ∧ (let s : State := { base with tsc := { base.tsc with e := 462000 } }
       firstMark.e + 50000 ≤ s.tsc.e ∧ s.rrx.candidate = none) := by
  refine ⟨⟨Or.inl ⟨rfl, rfl, rfl, rfl, fun h => nomatch h⟩, by decide +kernel, rfl⟩,
    ⟨Or.inr ⟨_, _, _, rfl, rfl, by decide +kernel, rfl, by decide +kernel⟩, rfl⟩, ⟨Or.inr ⟨_, _, _, rfl, rfl, by decide +kernel, rfl, by decide +kernel⟩, by decide +kernel⟩,
    ⟨rfl, ?_, rfl, rfl, rfl⟩, ⟨rfl, quietTo_ahead (by decide +kernel) (by decide +kernel)⟩,
    ⟨rfl, ⟨_, rfl, by decide +kernel, by decide⟩, _, rfl, by decide +kernel, by decide⟩, rfl, by decide +kernel, by decide +kernel⟩
  rintro ⟨l, k, hl, h1, h7, h⟩
  obtain rfl : firstMark = l := Option.some.inj hl
  have : ∀ k ∈ numbers 7, ¬(((912000 : Nat) : Int) - firstMark.e - (k * 1000000 : Nat)).natAbs ≤ 50000 := by decide
  exact this k ((mem_numbers 7 k).mpr ⟨h1, h7⟩) h

theorem witness_PulsesAreAcceptedOrSpurious :
    (let s : State := { base with
        tsc := { base.tsc with e := 1311999 }, rrx := { base.rrx with srcB := { base.rrx.srcB with lastMark := some firstMark } } }
     s.rrx.srcB.lastMark = some firstMark ∧ s.tsc.e < firstMark.e + 900000)
    ∧ base.rrx.srcB.lastMark = none ∧ base.dsc.state = .free ∧ locked.dsc.state = .locked ∧ locked.rrx.srcB.lastMark = none
    ∧ locked.rrx.srcB.state = .usable
    ∧ (let s : State := { locked with rrx := { locked.rrx with srcB := { locked.rrx.srcB with state := .faulted, out := 2, release := 4 } } }
       s.dsc.state = .locked ∧ s.rrx.srcB.state = .faulted ∧ s.rrx.srcB.lastMark = none) := by decide +kernel

/-- ACQUIRE on REF-B with a phase of half a second. -/
def stepping : State :=
  { follows .acquire with tsc := { base.tsc with s := 5, n := 499999999 } }

theorem witness_SamplesSteerThePart :
    ((steering 803 14190 3 883 (-4810)).dsc.state = .locked ∧ (steering 803 14190 3 883 (-4810)).rrx.selection = some .b
      ∧ (steering 803 14190 3 883 (-4810)).rrx.srcB.state = .usable ∧ (steering 803 14190 3 883 (-4810)).rrx.srcB.lastMark = none
      ∧ (steering 803 14190 3 883 (-4810)).rrx.srcB.injection = none
      ∧ ((803 : Int).natAbs ≤ (steering 803 14190 3 883 (-4810)).cfg.phaseLimit))
    ∧ (let s : State := { follows .holdover with tsc := { base.tsc with n := 999000 } }
       s.dsc.state = .holdover ∧ s.rrx.selection = some .b ∧ s.rrx.srcB.state = .usable ∧ s.rrx.srcB.injection = none
        ∧ (999000 : Int).natAbs < s.cfg.stepLimit ∧ ({ s.cfg with phaseLimit := 999000 } : Settings).phaseLimit = 999000)
    ∧ (let s : State := { follows .holdover with
          tsc := { base.tsc with n := 1000000 }, cfg := { base.cfg with phaseLimit := 1000000 } }
       s.dsc.state = .holdover ∧ s.cfg.stepLimit ≤ (1000000 : Int).natAbs ∧ (1000000 : Int).natAbs ≤ s.cfg.phaseLimit)
    ∧ (stepping.dsc.state = .acquire ∧ stepping.rrx.selection = some .b ∧ stepping.rrx.srcB.state = .usable
      ∧ stepping.rrx.srcB.lastMark = none ∧ stepping.cfg.stepLimit ≤ (499999999 : Int).natAbs ∧ stepping.cfg.stepAllow = true) := by
  decide +kernel

/-- REF-A selected in LOCKED, silent for 1.5 s, with a candidate in hand or none. -/
def silent (c : Option Candidate) : State :=
  { locked with
    tsc := { locked.tsc with e := 1912000 }
    rrx := { locked.rrx with
      candidate := c, selection := some .a, revert := some { start := 0, expiry := 60000000 }
      srcA := { locked.rrx.srcA with state := .usable, lastMark := some firstMark, nextMissing := some 1912000, absentAt := some 8412000 } } }

theorem witness_SourceInstantsAreTaken :
    ((silent none).rrx.srcA.nextMissing = some 1912000 ∧ (silent none).quietTo 1912000
      ∧ (silent none).rrx.candidate = none ∧ (silent none).dsc.state = .locked ∧ (silent none).rrx.srcA.state = .usable
      ∧ (silent none).rrx.srcA.out < (silent none).cfg.faultCount ∧ (silent none).rrx.selection = some .a)
    ∧ (let c : Candidate := { mark := { firstMark with e := 1911999 }, bytes := [0xC3, 0x3C] }
       (silent (some c)).rrx.candidate = some c ∧ c.mark.e < 1912000 ∧ c.mark.e < 8412000)
    ∧ (let s : State := { silent none with tsc := { base.tsc with e := 60000000 }, rrx := { (silent none).rrx with srcB := base.rrx.srcB } }
       s.rrx.revert = some { start := 0, expiry := 60000000 } ∧ s.quietTo 60000000 ∧ s.rrx.srcA.absentAt = some 8412000
        ∧ s.quietTo 8412000 ∧ s.rrx.srcA.state ≠ .absent ∧ s.rrx.selection = some .a ∧ s.rrx.srcB.state ≠ .usable)
    ∧ (base.rrx.srcA.nextMissing = none ∧ base.rrx.srcA.absentAt = none ∧ base.rrx.revert = none) :=
  ⟨⟨rfl, Or.inl (by decide +kernel), by decide +kernel⟩, by decide +kernel,
    ⟨rfl, Or.inl (by decide +kernel), rfl, Or.inl (by decide +kernel), by decide +kernel⟩, by decide +kernel⟩

/-! ### Witnesses: the lines -/

theorem witness_PinChangesStartOrReturn :
    ((base.line 32).pinHigh = false ∧ (base.lineCfg 32).kind = .unused)
    ∧ ((breaker5.lineCfg 5).kind ≠ .unused ∧ (breaker5.line 5).pinHigh ≠ true ∧ (breaker5.line 5).pending = none
      ∧ (breaker5.lineCfg 5).filter ≠ 0)
    ∧ ((risen.lineCfg 5).kind ≠ .unused ∧ (risen.line 5).pinHigh ≠ false ∧ (risen.line 5).pending.isSome = true)
    ∧ (let s := withLine base 1 { wired .trip 4 with filter := 0 } quietLine
       (s.lineCfg 1).kind ≠ .unused ∧ (s.line 1).pinHigh ≠ true ∧ (s.line 1).pending = none ∧ (s.lineCfg 1).filter = 0
        ∧ s.tsc.s < secondsModulus ∧ s.tsc.n < nsPerS ∧ s.tsc.epoch < 256 ∧ s.tsc.eSub < 1000 ∧ s.tsc.frac < fracModulus) := by
  decide +kernel

/-- The trip line in CHATTER. -/
def chattering : State :=
  ({ tripping with tsc := { tripping.tsc with e := 111300000 } } : State).setLine 12 { tripping.line 12 with state := .chatter, recent := [], quiet := some 111300000 }

/-- The pending change of EV12 is the line's rise. -/
def tripsAgain (s : State) : State :=
  s.setLine 12 { s.line 12 with
    pinHigh := true, filtered := false, effective := false
    pending := (s.line 12).pending.map (fun p => { p with level := true }) }

theorem witness_ChangesQualify :
    ((risen.line 5).pending.isSome = true ∧ (risen.line 5).state ≠ .chatter ∧ (risen.line 5).recent.length < risen.cfg.chatterCount)
    ∧ ((tripping.line 12).pending.isSome = true ∧ (tripping.line 12).state ≠ .chatter
      ∧ tripping.cfg.chatterCount ≤ ((tripping.line 12).recent.filter (fun at' =>
          decide (tripping.tsc.e < at' + tripping.cfg.chatterWindow * 1000000))).length)
    ∧ ((chattering.line 12).pending.isSome = true ∧ (chattering.line 12).state = .chatter ∧ (chattering.line 12).quiet = some 111300000
      ∧ ¬((chattering.lineCfg 12).kind = .trip ∧ (chattering.line 12).pending.map (·.level) = some true)
      ∧ chattering.evq.records.length ≤ 315 ∧ chattering.evq.nextSeq = some 1)
    ∧ ((chattering.lineCfg 12).unit ≤ 8 ∧ chattering.lineLevel 12 = false ∧ (chattering.line 12).effective = true)
    ∧ (let s : State := chattering.setLine 12 { chattering.line 12 with pinHigh := true }
       s.lineLevel 12 = (s.line 12).effective ∧ s.quietTo 111300000)
    ∧ (let s := tripsAgain chattering
       (s.line 12).pending.map (·.level) = some true ∧ (s.line 12).state = .chatter ∧ (s.lineCfg 12).kind = .trip
        ∧ 1 ≤ (s.lineCfg 12).unit ∧ (s.lineCfg 12).unit ≤ 8 ∧ s.quietTo 101300000)
    ∧ (let s := tripsAgain tripping
       (s.line 12).pending.map (·.level) = some true ∧ (s.line 12).state ≠ .chatter ∧ (s.lineCfg 12).kind = .trip
        ∧ s.cfg.chatterCount ≤ (s.line 12).recent.length ∧ s.quietTo 101300000)
    ∧ ((base.line 1).pending = none ∧ (base.line 1).quiet = none) ∧ risen.quietTo 50013500
    ∧ tripping.quietTo 101300000 ∧ chattering.quietTo 101300000 ∧ chattering.quietTo 111300000 :=
  ⟨by decide +kernel, by decide +kernel, by decide +kernel, by decide +kernel, ⟨by decide +kernel, Or.inl (by decide +kernel)⟩,
    ⟨by decide +kernel, by decide +kernel, by decide +kernel, by decide +kernel, by decide +kernel, Or.inl (by decide +kernel)⟩,
    ⟨by decide +kernel, by decide +kernel, by decide +kernel, by decide +kernel, Or.inl (by decide +kernel)⟩, by decide +kernel,
    Or.inl (by decide +kernel), Or.inl (by decide +kernel), Or.inl (by decide +kernel), Or.inl (by decide +kernel)⟩

/-- R80, R84: the rise in CHATTER is recorded, counted by the unit and the shift, listed and notified. -/
theorem test_trip_in_chatter : leaves (.filterExpiry 12) (tripsAgain chattering) (fun t =>
    decide ((t.line 12).state = .chatter ∧ (t.line 12).effective = true ∧ (t.unit 4).tally.trips = 1 ∧ t.shu.openTrips.length = 1)
      && decide (newest t = some (.trip 4 .none 0 1) ∧ t.ntc.flags.getLsbD 0 = true)) = true := by decide +kernel

/-- The trip line of 5.7 with its rise pending, and the breaker line of a unit that is in STILL. -/
def rising : State :=
  withLine { locked with tsc := { locked.tsc with e := 100000000 } } 12 { wired .trip 4 with filter := 0 }
    { quietLine with
      pinHigh := true, state := .pending, lastRawEdge := some 100000000
      pending := some { level := true, raw := ⟨0, 0, 0, 100000000, 0⟩, expiry := 100000000 } }

theorem witness_DeliveredChangesAreHandedOn :
    ((risen.line 5).pending.isSome = true ∧ (risen.line 5).state ≠ .chatter ∧ (risen.line 5).recent.length < risen.cfg.chatterCount
      ∧ (risen.lineCfg 5).unit ≤ 8 ∧ (risen.lineCfg 5).kind = .breaker ∧ 1 ≤ (risen.lineCfg 5).unit ∧ (risen.lineCfg 5).record = true
      ∧ risen.evq.records.length ≤ 315 ∧ risen.evq.nextSeq = some 1
      ∧ ((inMode risen 2 .still 0 (some 0)).unit (risen.lineCfg 5).unit).mode = .still)
    ∧ ((rising.line 12).pending.map (·.level) = some true ∧ (rising.line 12).state ≠ .chatter
      ∧ (rising.line 12).recent.length < rising.cfg.chatterCount ∧ (rising.lineCfg 12).kind = .trip ∧ 1 ≤ (rising.lineCfg 12).unit
      ∧ (rising.lineCfg 12).notify = true ∧ rising.evq.records.length ≤ 318 ∧ rising.shu.openTrips.length < 16)
    ∧ (let s := withLine risen 5 (wired .plain 0) (risen.line 5)
       (s.lineCfg 5).kind = .plain ∧ (s.line 5).pending.isSome = true ∧ (s.lineCfg 5).unit = 0)
    ∧ (let s : State := { tripping with cfg := { tripping.cfg with chatterCount := 4 } }
       (s.line 12).pending.map (·.level) = some false ∧ (s.lineCfg 12).kind = .trip ∧ (s.lineCfg 12).record = true
        ∧ (s.line 12).recent.length < s.cfg.chatterCount ∧ s.quietTo 101300000)
    ∧ risen.quietTo 50013500 ∧ rising.quietTo 100000000 :=
  ⟨by decide +kernel, by decide +kernel, by decide +kernel,
    ⟨by decide +kernel, by decide +kernel, by decide +kernel, by decide +kernel, Or.inl (by decide +kernel)⟩,
    Or.inl (by decide +kernel), Or.inl (by decide +kernel)⟩

/-! ### Witnesses: what every step keeps -/

theorem witness_QueueStaysInOrder : fetched.evq.consistent ∧ ∃ t, step fetched = .next t := by
  refine ⟨⟨by decide +kernel, by decide +kernel, ?_, 2, by decide, by decide +kernel, by decide +kernel⟩, _, rfl⟩
  intro n hn
  obtain rfl : 10 = n := by simpa [fetched, queued] using hn
  exact ⟨by decide, by decide +kernel⟩

/-- A flag that holds, and one that has passed. -/
def told : State := { base with ntc := { flags := 0x440, conditions := 0x400, attn := true } }

theorem witness_NoticesStayConsistent : told.noticesConsistent ∧ ∃ t, step told = .next t :=
  ⟨⟨by decide +kernel, by decide +kernel⟩, _, rfl⟩

theorem witness_TimeAndDisciplineStayInRange : locked.disciplineConsistent ∧ lastSecond.tsc.inRange ∧ (∃ t, step locked = .next t)
    ∧ ∃ t, step lastSecond = .next t :=
  ⟨⟨by decide +kernel, by decide +kernel, by decide +kernel⟩, by unfold TimeScale.inRange; decide +kernel, ⟨_, rfl⟩, _, rfl⟩

theorem witness_ShiftListsStayConsistent :
    (historyConsistent closedOne.shu.current closedOne.shu.history ∧ tripsConsistent waiting.shu.openTrips)
    ∧ waiting.shiftsConsistent ∧ ∃ t, step waiting = .next t := by
  refine ⟨⟨?_, ?_⟩, ⟨?_, ?_, ?_, ?_⟩, _, rfl⟩
  · unfold historyConsistent; decide +kernel
  · unfold tripsConsistent; decide +kernel
  · unfold historyConsistent; decide +kernel
  · unfold tripsConsistent; decide +kernel
  · intro i h; exact nomatch h
  · intro f i h; exact nomatch h

theorem witness_LinesStayConsistent : risen.linesConsistent ∧ ∃ t, step risen = .next t := by
  refine ⟨?_, _, rfl⟩
  have h : ∀ i ∈ numbers 32, ((risen.line i).state = .unused ↔ (risen.lineCfg i).kind = .unused)
      ∧ ((risen.line i).quiet.isSome = true ↔ (risen.line i).state = .chatter)
      ∧ ((risen.line i).state ≠ .chatter → (risen.line i).effective = (risen.line i).filtered)
      ∧ ((risen.line i).state = .unused ∨ (risen.line i).state = .steady → (risen.line i).pending = none)
      ∧ ((risen.line i).state = .pending → (risen.line i).pending.isSome = true)
      ∧ ((risen.line i).state ≠ .unused → (risen.line i).pending = none → risen.lineLevel i = (risen.line i).filtered)
      ∧ ∀ p ∈ (risen.line i).pending.toList, p.level = risen.lineLevel i ∧ risen.lineLevel i ≠ (risen.line i).filtered := by
    decide +kernel
  intro i hi
  obtain ⟨h1, h2, h3, h4, h5, h6, h7⟩ := h i ((mem_numbers 32 i).mpr (by simpa [lineExists] using hi))
  exact ⟨h1, h2, h3, h4, h5, h6, fun p hp => h7 p (by simp [hp])⟩

theorem witness_LockedTimeIsNeverStepped : locked.dsc.state = .locked ∧ (∃ t, exec (.tacq 1) locked = .next t)
    ∧ ∀ straps pins holdup, Instr.tacq 1 ≠ .powerOnReset straps pins holdup :=
  ⟨rfl, ⟨_, rfl⟩, fun _ _ _ h => nomatch h⟩

theorem witness_TalliesOnlyGrow : mayPreset .periodicEvaluation = false ∧ (pumped 1000000 5).talliesInRange
    ∧ ∃ t, exec .periodicEvaluation (pumped 1000000 5) = .next t := by
  exact ⟨rfl, talliesInRange_of_numbers _ (by decide +kernel), _, rfl⟩

end Sys2Proof.Tests
end

/-! PROOFS. DISC: when it is refused, its body field by field as 12.4 lays it out, and O14. -/

namespace Sys2Proof.Machine

/-! ### When DISC is refused, and its fields -/

/-- A save refuses no DISC; HOLDUP alone does (R59, R176, R179). -/
theorem State.busy_disc (s : State) : s.busy .disc = s.stc.holdup := by
  simp [State.busy, Kind.refusedInSave, Kind.servedInHoldup]

/-- A held value as `max` and `min` write its bounds. -/
theorem holdAt_eq (x : Int) (hi : Nat) : holdAt x hi = max (-(hi : Int)) (min x hi) :=
  clampInt_eq x (by omega)

/-- The sum in the reply is held at the bounds of its eight-byte field (R59). -/
theorem holdAt_max63 (x : Int) : holdAt x max63 = max (-(2 ^ 63 - 1)) (min x (2 ^ 63 - 1)) :=
  holdAt_eq x max63

/-- LKC passes DISC to DSC, but for a reply in progress or HOLDUP; what DSC answers changes no state (R59, R185). -/
theorem exec_disc (tag : Byte) (s : State) (hr : s.lkc.reply = none) :
    (s.stc.holdup = true → exec (.disc tag) s = .next (s.answered 0x14 tag .busy []))
      ∧ (s.stc.holdup = false → exec (.disc tag) s = .next (s.answered 0x14 tag .ok s.discBody)) := by
  obtain ⟨-, refused, served⟩ := s.takeRequest_cases .disc tag serveDisc
  constructor
  · intro held
    exact congrArg _ (refused hr (s.busy_disc.trans held))
  · intro free
    exact congrArg _ (served ⟨hr, s.busy_disc.trans free⟩)

/-- Settles O14: `exec_disc` judges the request, and the body it answers agrees with 12.4 field by field; only the state,
the view, the previous sample and the sum are spelled in another way. -/
theorem discReadsTheDiscipline : Obligations.DiscReadsTheDiscipline := by
  intro tag s hr d state view prev sum body
  have hstate : byteOf d.state.code = state := by
    simp only [state]; cases d.state <;> rfl
  have hview : byteOf (selectionCode d.view) = view := by
    simp only [view]; rcases d.view with _ | _ | _ <;> rfl
  have hprev : prevBytes d.prev = prev := by
    simp only [prev]; rcases d.prev with _ | ⟨_ | _, e, c⟩ <;> rfl
  have hsum : holdAt d.sum max63 = sum := holdAt_max63 d.sum
  have hbody : s.discBody = body := by
    simp only [body, ← hstate, ← hview, ← hprev, ← hsum]; rfl
  rw [← hbody]
  exact exec_disc tag s hr

end Sys2Proof.Machine

/-! PROOFS. LNST: when it is refused, what it clears, its body field by field as 12.4 lays it out, and O20. -/

namespace Sys2Proof.Machine

/-! ### What LNST clears -/

/-- Line `i` after line `j` was written. -/
theorem State.line_setLine (s : State) (i j : Nat) (x : Line) (h : 1 ≤ i ∧ i ≤ 32) :
    (s.setLine j x).line i = if i = j then x else s.line i := by
  split_ifs with hij
  · subst hij; exact nth_setNth_self _ _ _ h
  · exact nth_setNth_other _ _ _ _ hij

/-- A line after the bounce counts of several lines were cleared, none of which touches another line. -/
theorem line_forAll_clearBounce (xs : List Nat) (s : State) (i : Nat) (h : 1 ≤ i ∧ i ≤ 32) :
    (forAll xs State.clearBounce s).line i = if i ∈ xs then { s.line i with bounce := 0 } else s.line i := by
  induction xs generalizing s with
  | nil => simp
  | cons x xs ih =>
    rw [forAll_cons, ih, State.clearBounce, s.line_setLine i x _ h]
    by_cases hx : i = x
    · subst hx; simp
    · simp [hx]

/-- Clearing bounce counts changes the lines alone. -/
theorem forAll_clearBounce_unchanged (xs : List Nat) (s : State) :
    Unchanged [.lqu] s (forAll xs State.clearBounce s) :=
  forAll_unchanged xs _ (fun _ _ t => setLine_unchanged t (by decide) _ _) s

/-! ### When LNST is refused, and what it reads -/

/-- A save refuses no LNST; HOLDUP alone does (R90, R176, R179). -/
theorem State.busy_lnst (s : State) : s.busy .lnst = s.stc.holdup := by
  simp [State.busy, Kind.refusedInSave, Kind.servedInHoldup]

/-- LKC passes LNST to LQU, but for a reply in progress or HOLDUP (R90, R185). -/
theorem exec_lnst (tag selector : Byte) (s : State) (hr : s.lkc.reply = none) :
    (s.stc.holdup = true → exec (.lnst tag selector) s = .next (s.answered 0x23 tag .busy []))
      ∧ (s.stc.holdup = false → exec (.lnst tag selector) s = .next ((serveLnst selector s).1.answered 0x23 tag
          (serveLnst selector s).2.result (serveLnst selector s).2.body)) := by
  obtain ⟨-, refused, served⟩ := s.takeRequest_cases .lnst tag (serveLnst selector)
  constructor
  · intro held
    exact congrArg _ (refused hr (s.busy_lnst.trans held))
  · intro free
    exact congrArg _ (served ⟨hr, s.busy_lnst.trans free⟩)

/-- LQU judges the selector: past the last line, one line, or all of them (R90). -/
theorem serveLnst_cases (selector : Byte) (s : State) :
    (32 < selector.toNat → serveLnst selector s = (s, { result := .param }))
      ∧ (1 ≤ selector.toNat → selector.toNat ≤ 32 → serveLnst selector s =
          (s.clearBounce selector.toNat, { result := .ok, body := s.lineBody selector.toNat }))
      ∧ (selector.toNat = 0 → serveLnst selector s =
          (forAll (numbers 32) State.clearBounce s, { result := .ok, body := (numbers 32).flatMap s.lineBrief })) := by
  have hzero : selector = 0 ↔ selector.toNat = 0 := BitVec.toNat_inj.symm
  simp only [serveLnst, lineExists, hzero, decide_eq_true_eq]
  refine ⟨fun h => ?_, fun h1 h32 => ?_, fun h => ?_⟩
  · rw [if_neg (by omega), if_neg (by omega)]
  · rw [if_neg (by omega), if_pos ⟨h1, h32⟩]
  · rw [if_pos h]

/-- The time left on a running timer, in ms rounded up and at least 1 (R198). -/
theorem remaining_some (now t : Nat) : remaining now 1000 (some t) = max ((t - now + 999) / 1000) 1 := by
  rw [remaining, ceilDiv, Nat.add_sub_assoc (by decide)]

/-- Settles O20: `exec_lnst` and `serveLnst_cases` judge the request, and each body agrees with 12.4 field by field; only
the selector, the pending change and the quiet timer are spelled in another way. -/
theorem lnstReadsAndClearsTheBounces : Obligations.LnstReadsAndClearsTheBounces := by
  intro tag selector s hr
  obtain ⟨refused, served⟩ := exec_lnst tag selector s hr
  obtain ⟨outside, one, all⟩ := serveLnst_cases selector s
  refine ⟨refused, fun free => ?_⟩
  intro i levels
  rw [served free]
  refine ⟨fun h => ?_, fun h1 h32 => ?_, fun h => ?_⟩
  · rw [outside h]
  · intro c x pending quiet recent body
    have hselector : byteOf i = selector := BitVec.ofNat_toNat ..
    have hpending : pendingBytes s.tsc.e x.pending = pending := by
      simp only [pending]
      rcases x.pending with _ | p
      · rfl
      · rw [pendingBytes, remaining_some]; rfl
    have hquiet : remaining s.tsc.e 1000 x.quiet = quiet := by
      simp only [quiet]
      rcases x.quiet with _ | t
      · rfl
      · exact remaining_some _ _
    have hbody : s.lineBody i = body := by
      simp only [body, ← hpending, ← hquiet]
      rw [State.lineBody, hselector]; rfl
    rw [one h1 h32, ← hbody]; rfl
  · refine ⟨forAll (numbers 32) State.clearBounce s, forAll_clearBounce_unchanged _ s, fun j h1 h32 => ?_, ?_⟩
    · rw [line_forAll_clearBounce _ s j ⟨h1, h32⟩, if_pos ((mem_numbers 32 j).mpr ⟨h1, h32⟩)]
    · rw [all h, numbers, List.flatMap_map]; rfl

end Sys2Proof.Machine

/-! PROOFS. EFLS: placing into a queue with room, when EFLS is refused, what it leaves, and O22. -/

namespace Sys2Proof.Machine

/-! ### Placing while there is room -/

/-- Below 319 records and with a number left, either policy places the arriving record (R98, R100 case 1, R102). -/
theorem EventQueue.place_of_room {q : EventQueue} {seq : Nat} (policy : QueuePolicy) (r marker : Record)
    (hn : q.nextSeq = some seq) (room : q.records.length ≤ 318) :
    q.place policy r marker = (q.append seq r, .placed seq) := by
  rw [EventQueue.place, hn]
  cases policy with
  | stop => exact if_pos room
  | overwrite =>
    have below : q.records.length < queueCapacity := by unfold queueCapacity; omega
    exact if_pos below

/-- A placement that meets room evaluates the watermark, reports no loss and hands back its number (R99, R105). -/
theorem State.placeSeq_of_room {s : State} {seq : Nat} (p : Placement) (hn : s.evq.nextSeq = some seq)
    (room : s.evq.records.length ≤ 318) :
    s.placeSeq p = ((s.setEvq (s.evq.append seq (s.recordOf p))).evalWatermark, some seq) := by
  rw [State.placeSeq, EventQueue.place_of_room _ _ _ hn room]

/-! ### When EFLS is refused, and what it leaves -/

/-- A save refuses no EFLS; HOLDUP alone does (R106, R176, R179). -/
theorem State.busy_efls (s : State) : s.busy .efls = s.stc.holdup := by
  simp [State.busy, Kind.refusedInSave, Kind.servedInHoldup]

/-- LKC passes EFLS to EVQ, but for a reply in progress or HOLDUP (R106, R185). -/
theorem exec_efls (tag : Byte) (s : State) (hr : s.lkc.reply = none) :
    (s.stc.holdup = true → exec (.efls tag) s = .next (s.answered 0x22 tag .busy []))
      ∧ (s.stc.holdup = false → exec (.efls tag) s = .next ((serveEfls s).1.answered 0x22 tag
          (serveEfls s).2.result (serveEfls s).2.body)) := by
  obtain ⟨-, refused, served⟩ := s.takeRequest_cases .efls tag serveEfls
  constructor
  · intro held
    exact congrArg _ (refused hr (s.busy_efls.trans held))
  · intro free
    exact congrArg _ (served ⟨hr, s.busy_efls.trans free⟩)

/-- The queue after an EFLS: the flushed queue with the FLUSHED record appended (R106). -/
def State.flushedQueue (s : State) : EventQueue :=
  s.evq.flush.append (s.evq.nextSeq.getD 0) (s.recordOf { detail := .flushed s.evq.records.length })

/-- EVQ serves EFLS: a flushed queue is empty and has a number to give, so the FLUSHED record finds room (R106). -/
theorem serveEfls_eq (s : State) :
    serveEfls s = ((s.setEvq s.flushedQueue).evalWatermark,
      { result := .ok, body := beBytes 2 s.evq.records.length ++ beBytes 4 (s.evq.nextSeq.getD 0) }) := by
  have number : (s.setEvq s.evq.flush).evq.nextSeq = some (s.evq.nextSeq.getD 0) := rfl
  have room : (s.setEvq s.evq.flush).evq.records.length ≤ 318 := Nat.zero_le _
  rw [serveEfls, State.placeSeq_of_room _ number room]
  rfl

/-- Settles O22: `exec_efls` judges the request, and `serveEfls_eq` gives the queue and the answer; past the queue, only the
watermark is evaluated, at the depth of 1. -/
theorem eflsLeavesOneRecord : Obligations.EflsLeavesOneRecord := by
  intro tag s hr
  obtain ⟨refused, served⟩ := exec_efls tag s hr
  refine ⟨refused, fun free => ?_⟩
  rw [served free, serveEfls_eq]
  have unchanged : Unchanged [.evq, .ntc] s (s.setEvq s.flushedQueue).evalWatermark :=
    (setEvq_unchanged s (by decide) _).trans (evalWatermark_unchanged _ (by decide))
  exact ⟨_, rfl, rfl, rfl, unchanged⟩

end Sys2Proof.Machine

/-! PROOFS. SHST, SCHR and SHHS: when each is refused, their bodies field by field as 12.4 lays them out, and O13. -/

namespace Sys2Proof.Machine

/-! ### When the readings of SHU are refused -/

/-- SHST is served during a save and while HOLDUP is asserted (R166, R176, R179). -/
theorem State.busy_shst (s : State) : s.busy .shst = false := by
  simp [State.busy, Kind.refusedInSave, Kind.servedInHoldup]

/-- A save refuses no SCHR; HOLDUP alone does (R145, R176, R179). -/
theorem State.busy_schr (s : State) : s.busy .schr = s.stc.holdup := by
  simp [State.busy, Kind.refusedInSave, Kind.servedInHoldup]

/-- A save refuses no SHHS; HOLDUP alone does (R165, R176, R179). -/
theorem State.busy_shhs (s : State) : s.busy .shhs = s.stc.holdup := by
  simp [State.busy, Kind.refusedInSave, Kind.servedInHoldup]

/-- A request that HOLDUP alone refuses is handed on or answered BUSY, but for a reply in progress (R185). -/
theorem State.takeRequest_of_busy_holdup {s : State} {k : Kind} (hk : s.busy k = s.stc.holdup) (hr : s.lkc.reply = none)
    (tag : Byte) (serve : State → State × Answer) :
    (s.stc.holdup = true → s.takeRequest k tag serve = s.answered k.code tag .busy [])
      ∧ (s.stc.holdup = false → s.takeRequest k tag serve =
          (serve s).1.answered k.code tag (serve s).2.result (serve s).2.body) := by
  obtain ⟨-, refused, served⟩ := s.takeRequest_cases k tag serve
  exact ⟨fun held => refused hr (hk.trans held), fun free => served ⟨hr, hk.trans free⟩⟩

/-- LKC passes every SHST to SHU, but for a reply in progress; what SHU answers changes no state (R166, R185). -/
theorem exec_shst (tag : Byte) (s : State) (hr : s.lkc.reply = none) :
    exec (.shst tag) s = .next (s.answered 0x42 tag .ok s.shstBody) := by
  obtain ⟨-, -, served⟩ := s.takeRequest_cases .shst tag serveShst
  exact congrArg _ (served ⟨hr, s.busy_shst⟩)

/-- LKC passes SCHR to SHU, but for a reply in progress or HOLDUP; what SHU answers changes no state (R145, R185). -/
theorem exec_schr (tag : Byte) (s : State) (hr : s.lkc.reply = none) :
    (s.stc.holdup = true → exec (.schr tag) s = .next (s.answered 0x41 tag .busy []))
      ∧ (s.stc.holdup = false → exec (.schr tag) s = .next (s.answered 0x41 tag .ok
          (byteOf s.shu.schedule.length :: s.shu.schedule.flatMap ScheduleEntry.bytes))) := by
  obtain ⟨refused, served⟩ := State.takeRequest_of_busy_holdup s.busy_schr hr tag serveSchr
  exact ⟨fun held => congrArg _ (refused held), fun free => congrArg _ (served free)⟩

/-- LKC passes SHHS to SHU, but for a reply in progress or HOLDUP (R165, R185). -/
theorem exec_shhs (tag index : Byte) (s : State) (hr : s.lkc.reply = none) :
    (s.stc.holdup = true → exec (.shhs tag index) s = .next (s.answered 0x47 tag .busy []))
      ∧ (s.stc.holdup = false → exec (.shhs tag index) s = .next ((serveShhs index s).1.answered 0x47 tag
          (serveShhs index s).2.result (serveShhs index s).2.body)) := by
  obtain ⟨refused, served⟩ := State.takeRequest_of_busy_holdup s.busy_shhs hr tag (serveShhs index)
  exact ⟨fun held => congrArg _ (refused held), fun free => congrArg _ (served free)⟩

/-! ### What SHU reads -/

/-- SHU judges the index: at or past the records held, or one of them; neither changes any state (R165). -/
theorem serveShhs_cases (index : Byte) (s : State) :
    (s.shu.history.length ≤ index.toNat → serveShhs index s = (s, { result := .param }))
      ∧ ∀ r, s.shu.history[index.toNat]? = some r →
          serveShhs index s = (s, { result := .ok, body := byteOf s.shu.history.length :: r.bytes }) := by
  constructor
  · intro outside
    rw [serveShhs, List.getElem?_eq_none outside]
  · intro r held
    rw [serveShhs, held]

/-- The time left on a running timer, in seconds rounded up and at least 1 (R198). -/
theorem remaining_some_seconds (now t : Nat) :
    remaining now 1000000 (some t) = max ((t - now + 999999) / 1000000) 1 := by
  rw [remaining, ceilDiv, Nat.add_sub_assoc (by decide)]

/-- Outside HANDOVER no window runs (R166). -/
theorem State.windowRemaining_of_ne_handover {s : State} (h : s.shu.state ≠ .handover) : s.windowRemaining = 0 :=
  if_neg h

/-- In HANDOVER the reply carries what is left of the window timer, and 0 without one (R166). -/
theorem State.windowRemaining_of_handover {s : State} (h : s.shu.state = .handover) :
    s.windowRemaining = remaining s.tsc.e 1000000 (s.shu.window.map (·.expiry)) :=
  if_pos h

/-- Settles O13: `exec_shst`, `exec_schr`, `exec_shhs` and `serveShhs_cases` judge the requests, and the bodies agree with
12.4 field by field; only the shift state and the window's remainder are spelled in another way. -/
theorem shiftUnitIsRead : Obligations.ShiftUnitIsRead := by
  refine ⟨fun tag s hr => ?_, fun tag s hr => exec_schr tag s hr, fun tag index s hr => ?_⟩
  · intro state left body
    have hstate : byteOf s.shu.state.code = state := by
      simp only [state]; cases s.shu.state <;> rfl
    have hleft : s.windowRemaining = left := by
      simp only [left]
      cases h : s.shu.state with
      | onShift => exact State.windowRemaining_of_ne_handover (by simp [h])
      | overdue => exact State.windowRemaining_of_ne_handover (by simp [h])
      | handover =>
        rw [State.windowRemaining_of_handover h]
        rcases s.shu.window with _ | w
        · rfl
        · exact remaining_some_seconds _ _
    have hbody : s.shstBody = body := by
      simp only [body, ← hstate, ← hleft]; rfl
    rw [← hbody]
    exact exec_shst tag s hr
  · intro body
    obtain ⟨refused, served⟩ := exec_shhs tag index s hr
    obtain ⟨outside, held⟩ := serveShhs_cases index s
    refine ⟨refused, fun free h => ?_, fun r free h => ?_⟩
    · rw [served free, outside h]
    · have hbody : byteOf s.shu.history.length :: r.bytes = body r := rfl
      rw [served free, held r h, hbody]

end Sys2Proof.Machine

/-! PROOFS. IDNT and CFGR: when each is refused, which entry an item number and an index name, and O15. -/

namespace Sys2Proof.Machine

/-! ### When IDNT and CFGR are refused -/

/-- IDNT is served during a save and while HOLDUP is asserted (R176, R179, R189). -/
theorem State.busy_idnt (s : State) : s.busy .idnt = false := by
  simp [State.busy, Kind.refusedInSave, Kind.servedInHoldup]

/-- A save refuses no CFGR; HOLDUP alone does (R176, R179, R192). -/
theorem State.busy_cfgr (s : State) : s.busy .cfgr = s.stc.holdup := by
  simp [State.busy, Kind.refusedInSave, Kind.servedInHoldup]

/-- LKC answers every IDNT, but for a reply in progress, and changes no state by it (R185, R189). -/
theorem exec_idnt (tag : Byte) (s : State) (hr : s.lkc.reply = none) :
    exec (.idnt tag) s = .next (s.answered 0x03 tag .ok s.identity) := by
  obtain ⟨-, -, served⟩ := s.takeRequest_cases .idnt tag serveIdnt
  exact congrArg _ (served ⟨hr, s.busy_idnt⟩)

/-- LKC hands CFGR on, but for a reply in progress or HOLDUP (R185, R192). -/
theorem exec_cfgr (tag item index : Byte) (s : State) (hr : s.lkc.reply = none) :
    (s.stc.holdup = true → exec (.cfgr tag item index) s = .next (s.answered 0x06 tag .busy []))
      ∧ (s.stc.holdup = false → exec (.cfgr tag item index) s = .next ((serveCfgr item index s).1.answered 0x06 tag
          (serveCfgr item index s).2.result (serveCfgr item index s).2.body)) := by
  obtain ⟨refused, served⟩ := State.takeRequest_of_busy_holdup s.busy_cfgr hr tag (serveCfgr item index)
  exact ⟨fun held => congrArg _ (refused held), fun free => congrArg _ (served free)⟩

/-! ### Which entry an item number and an index name (R191 steps 1 and 2) -/

/-- The table leaves no item out. -/
@[simp] theorem Item.mem_all (it : Item) : it ∈ Item.all := by
  cases it <;> decide

/-- No two items share a number (11.4). -/
theorem Item.number_injective : Function.Injective Item.number := by
  have distinct : (Item.all.map Item.number).Nodup := by decide
  exact fun a b => List.inj_on_of_nodup_map distinct a.mem_all b.mem_all

/-- An entry is an item with an index of its scope (11.4). -/
@[simp] theorem mem_entries (it : Item) (i : Nat) : (it, i) ∈ entries ↔ i ∈ it.scope.indices := by
  simp [entries]

/-- The item of a number is the one that has it (R191 step 1). -/
theorem Item.ofNumber_eq_some (b : Byte) (it : Item) : Item.ofNumber b = some it ↔ it.number = b.toNat := by
  have number_of_found (jt : Item) (found : Item.ofNumber b = some jt) : jt.number = b.toNat := by
    simpa using List.find?_some found
  constructor
  · exact number_of_found it
  · intro number
    obtain ⟨jt, found⟩ : ∃ jt, Item.ofNumber b = some jt := by
      rw [← Option.isSome_iff_exists, Item.ofNumber, List.find?_isSome]
      exact ⟨it, it.mem_all, by simpa using number⟩
    rw [found, Item.number_injective ((number_of_found jt found).trans number.symm)]

/-- R191 steps 1 and 2 let an item number and an index pass when they name an entry of the table, and yield its item. -/
theorem itemAt_eq_some (item index : Byte) (it : Item) :
    itemAt item index = some it ↔ (it, index.toNat) ∈ entries ∧ it.number = item.toNat := by
  rw [itemAt, Option.filter_eq_some_iff, Item.ofNumber_eq_some, mem_entries, List.contains_iff_mem, and_comm]

/-- Numbers that name no entry do not pass (R191 steps 1 and 2). -/
theorem itemAt_eq_none (item index : Byte) :
    itemAt item index = none ↔ ∀ it, (it, index.toNat) ∈ entries → it.number ≠ item.toNat := by
  simp only [Option.eq_none_iff_forall_ne_some, ne_eq, itemAt_eq_some, not_and]

/-! ### What IDNT and CFGR read -/

/-- CFGR reads the value in force of a named entry, and is PARAM for any other; neither changes any state (R192). -/
theorem serveCfgr_cases (item index : Byte) (s : State) :
    (∀ it, (it, index.toNat) ∈ entries → it.number = item.toNat →
        serveCfgr item index s = (s, { result := .ok, body := entryBody item index (it.read s.cfg index.toNat) }))
      ∧ ((∀ it, (it, index.toNat) ∈ entries → it.number ≠ item.toNat) →
          serveCfgr item index s = (s, { result := .param })) := by
  constructor
  · intro it entry number
    rw [serveCfgr, (itemAt_eq_some item index it).mpr ⟨entry, number⟩]
  · intro absent
    rw [serveCfgr, (itemAt_eq_none item index).mpr absent]

/-- Settles O15: `exec_idnt` and `exec_cfgr` judge the requests, and `serveCfgr_cases` tells an entry of the table from any
other pair of numbers; in the identity only the link rate and the store state are spelled in another way. -/
theorem partAndEntriesAreRead : Obligations.PartAndEntriesAreRead := by
  constructor
  · intro tag s hr store
    have hstore : byteOf s.stc.state.code = store := by
      simp only [store]; cases s.stc.state <;> rfl
    have hrate : byteOf s.lkc.rate.toNat = s.lkc.rate.setWidth 8 := BitVec.ofNat_toNat 8 s.lkc.rate
    rw [← hstore, ← hrate]
    exact exec_idnt tag s hr
  · intro tag item index s hr
    obtain ⟨refused, served⟩ := exec_cfgr tag item index s hr
    obtain ⟨present, absent⟩ := serveCfgr_cases item index s
    refine ⟨refused, fun free => ⟨?_, fun unnamed => ?_⟩⟩
    · rintro it i entry number rfl
      rw [served free, present it entry number, entryBody]
    · rw [served free, absent fun it entry number => unnamed it _ entry ⟨number, rfl⟩]

end Sys2Proof.Machine

/-! PROOFS. What an arriving record leaves of the queue's order, and what a tally that only grows is. -/

namespace Sys2Proof.Machine

/-! ### Placing keeps the queue in order (R98 to R102, R107) -/

/-- Changing the newest record keeps how many there are. -/
theorem length_mapNewest (f : Record → Record) (rs : List Record) : (mapNewest f rs).length = rs.length := by
  induction rs with
  | nil => rfl
  | cons r rs ih =>
    cases rs with
    | nil => rfl
    | cons r' rs => simpa [mapNewest] using ih

/-- A newest record that keeps its number and its delivered flag leaves those of the whole list (R101). -/
theorem map_mapNewest {α : Type} (g : Record → α) (f : Record → Record) (hf : ∀ r, g (f r) = g r) (rs : List Record) :
    (mapNewest f rs).map g = rs.map g := by
  induction rs with
  | nil => rfl
  | cons r rs ih =>
    cases rs with
    | nil => simp [mapNewest, hf]
    | cons r' rs => simpa [mapNewest] using ih

/-- The order of a queue rests on its numbers and delivered flags alone. -/
theorem EventQueue.consistent_of_map_eq {q q' : EventQueue}
    (hr : q'.records.map (fun r => (r.seq, r.delivered)) = q.records.map (fun r => (r.seq, r.delivered)))
    (hn : q'.nextSeq = q.nextSeq) (h : q.consistent) : q'.consistent := by
  obtain ⟨hl, hp, hs, k, hk, ht, hd⟩ := h
  have seqs : q'.records.map (·.seq) = q.records.map (·.seq) := by
    simpa [List.map_map, Function.comp_def] using congrArg (List.map Prod.fst) hr
  have flags : q'.records.map (·.delivered) = q.records.map (·.delivered) := by
    simpa [List.map_map, Function.comp_def] using congrArg (List.map Prod.snd) hr
  have all_flags (xs ys : List Record) (b : Bool) (he : xs.map (·.delivered) = ys.map (·.delivered))
      (hy : ∀ r ∈ ys, r.delivered = b) : ∀ r ∈ xs, r.delivered = b := by
    intro r hr
    have : r.delivered ∈ ys.map (·.delivered) := he ▸ List.mem_map_of_mem hr
    obtain ⟨y, hy', e⟩ := List.mem_map.1 this
    exact e ▸ hy y hy'
  refine ⟨?_, ?_, fun n e => ⟨(hs n (hn ▸ e)).1, fun r hr => ?_⟩, k, hk, ?_, ?_⟩
  · simpa using (congrArg List.length seqs).trans_le (by simpa using hl)
  · rw [← List.pairwise_map (f := Record.seq) (R := (· < ·))] at hp ⊢
    rwa [seqs]
  · have : r.seq ∈ q.records.map (·.seq) := seqs ▸ List.mem_map_of_mem hr
    obtain ⟨y, hy, e'⟩ := List.mem_map.1 this
    exact e' ▸ (hs n (hn ▸ e)).2 y hy
  · exact all_flags _ _ true (by simpa [List.map_take] using congrArg (List.take k) flags) ht
  · exact all_flags _ _ false (by simpa [List.map_drop] using congrArg (List.drop k) flags) hd

/-- Under STOP an arriving record keeps the queue in order (R100, R101). -/
theorem EventQueue.placeStop_consistent {q : EventQueue} {n : Nat} {r marker : Record} (h : q.consistent)
    (hn : q.nextSeq = some n) (hr : r.delivered = false) (hm : marker.delivered = false) :
    (q.placeStop n r marker).1.consistent := by
  unfold EventQueue.placeStop
  split_ifs with room newest one
  · exact EventQueue.append_consistent h hn (by unfold queueCapacity; omega) hr
  · refine EventQueue.consistent_of_map_eq (q := q) ?_ rfl h
    exact map_mapNewest (fun r => (r.seq, r.delivered)) (fun m => { m with detail := m.detail.absorb r.detail.isTrip })
      (fun _ => rfl) _
  · refine EventQueue.append_consistent (EventQueue.countLoss_consistent _ h) hn ?_ hm
    show q.records.length < queueCapacity
    unfold queueCapacity; omega
  · exact EventQueue.countLoss_consistent _ h

/-- A removal that found its record leaves room for one more. -/
theorem length_eraseP_lt {q : EventQueue} {pick : Record → Bool} (h : q.consistent) (hany : q.records.any pick = true) :
    (q.records.eraseP pick).length < queueCapacity := by
  obtain ⟨x, hx, hpx⟩ := List.any_eq_true.1 hany
  have := List.length_eraseP_of_mem hx hpx
  have := List.length_pos_of_mem hx
  have := h.1
  omega

/-- Under OVERWRITE an arriving record keeps the queue in order (R102). -/
theorem EventQueue.placeOverwrite_consistent {q : EventQueue} {n : Nat} {r : Record} (h : q.consistent)
    (hn : q.nextSeq = some n) (hr : r.delivered = false) : (q.placeOverwrite n r).1.consistent := by
  have removing (pick : Record → Bool) (c : Nat) (hp : ∀ y, pick y = true → y.delivered = false)
      (hany : q.records.any pick = true) :
      (({ q with records := q.records.eraseP pick, overwritten := c } : EventQueue).append n r).consistent :=
    EventQueue.append_consistent (EventQueue.eraseP_consistent pick c h hp) hn (length_eraseP_lt h hany) hr
  simp only [EventQueue.placeOverwrite]
  split_ifs with room plain trip
  · exact EventQueue.append_consistent h hn room hr
  · exact removing _ _ (fun y hy => by simp [Record.yields] at hy; exact hy.1) plain
  · rw [Bool.and_eq_true] at trip
    exact removing _ _ (fun y hy => by simp [Record.yieldsToTrip] at hy; exact hy.1) trip.2
  · exact EventQueue.countLoss_consistent _ h

/-- An arriving record keeps the queue in order, whether it is placed, makes another yield or is lost (R98 to R102). -/
theorem EventQueue.place_consistent {q : EventQueue} (policy : QueuePolicy) {r marker : Record} (h : q.consistent)
    (hr : r.delivered = false) (hm : marker.delivered = false) : (q.place policy r marker).1.consistent := by
  unfold EventQueue.place
  split
  · exact EventQueue.countLoss_consistent _ h
  · rename_i n hn
    cases policy with
    | stop => exact EventQueue.placeStop_consistent h hn hr hm
    | overwrite => exact EventQueue.placeOverwrite_consistent h hn hr

/-- A record as it would be placed is not delivered (R99). -/
@[simp] theorem State.recordOf_delivered (s : State) (p : Placement) : (s.recordOf p).delivered = false := rfl

/-! ### The other changes of the queue (R106 to R108, R113) -/

/-- A flushed queue is in order (R106). -/
theorem EventQueue.flush_consistent {q : EventQueue} (h : q.consistent) : q.flush.consistent := by
  refine ⟨Nat.zero_le _, List.Pairwise.nil, fun n e => ⟨?_, fun r hr => nomatch hr⟩, 0, by omega,
    fun r hr => ?_, fun r hr => ?_⟩
  · obtain rfl : q.nextSeq.getD 0 = n := by simpa [EventQueue.flush] using e
    cases hq : q.nextSeq with
    | none => exact Nat.zero_le _
    | some m => exact (h.2.2.1 m hq).1
  · simp [EventQueue.flush] at hr
  · simp [EventQueue.flush] at hr

/-- Removing the oldest records keeps the queue in order (R108). -/
theorem EventQueue.release_consistent {q : EventQueue} (k : Nat) (h : q.consistent) : (q.release k).consistent := by
  obtain ⟨hl, hp, hs, j, hj, ht, hd⟩ := h
  refine ⟨?_, hp.sublist (List.drop_sublist _ _), fun n e => ⟨(hs n e).1, fun r hr => (hs n e).2 r (List.mem_of_mem_drop hr)⟩,
    j - k, by omega, fun r hr => ?_, fun r hr => ?_⟩
  · simp only [EventQueue.release, List.length_drop]; omega
  · simp only [EventQueue.release, List.take_drop] at hr
    refine ht r (List.mem_of_mem_drop (i := k) ?_)
    rcases Nat.le_total k j with hkj | hjk
    · rwa [Nat.add_sub_cancel' hkj] at hr
    · rw [Nat.sub_eq_zero_of_le hjk, Nat.add_zero, List.drop_of_length_le (by simp)] at hr
      exact nomatch hr
  · simp only [EventQueue.release, List.drop_drop] at hr
    rcases Nat.le_total k j with hkj | hjk
    · rw [Nat.add_sub_cancel' hkj] at hr; exact hd r hr
    · refine hd r ((List.drop_sublist_drop_left _ ?_).subset hr); omega

/-- Marking the oldest records, at most 8, keeps the queue in order (R107). -/
theorem EventQueue.deliver_consistent {q : EventQueue} {k : Nat} (hk : k ≤ 8) (h : q.consistent) :
    (q.deliver k).consistent := by
  obtain ⟨hl, hp, hs, j, hj, ht, hd⟩ := h
  have seqs : (q.deliver k).records.map (·.seq) = q.records.map (·.seq) := by
    simp only [EventQueue.deliver, List.map_append, List.map_map, Function.comp_def]
    rw [← List.map_append, List.take_append_drop]
  have marked (r : Record) (hr : r ∈ (q.records.take k).map (fun r => { r with delivered := true })) :
      r.delivered = true := by
    obtain ⟨y, -, rfl⟩ := List.mem_map.1 hr; rfl
  refine ⟨?_, ?_, fun n e => ⟨(hs n e).1, fun r hr => ?_⟩, max j k, by omega, fun r hr => ?_, fun r hr => ?_⟩
  · simpa using (congrArg List.length seqs).trans_le (by simpa using hl)
  · rw [← List.pairwise_map (f := Record.seq) (R := (· < ·))] at hp ⊢
    rwa [seqs]
  · have : r.seq ∈ q.records.map (·.seq) := seqs ▸ List.mem_map_of_mem hr
    obtain ⟨y, hy, e'⟩ := List.mem_map.1 this
    exact e' ▸ (hs n e).2 y hy
  · simp only [EventQueue.deliver, List.take_append, List.mem_append] at hr
    rcases hr with hr | hr
    · exact marked r (List.mem_of_mem_take hr)
    · refine ht r ?_
      simp only [List.length_map, List.length_take, List.take_drop] at hr
      rcases Nat.le_total q.records.length k with hlk | hkl
      · rw [List.drop_of_length_le (by simp; omega)] at hr; exact nomatch hr
      · rw [Nat.min_eq_left hkl, Nat.add_sub_cancel' (Nat.le_max_right j k)] at hr
        rcases Nat.le_total k j with hkj | hjk
        · rw [Nat.max_eq_left hkj] at hr; exact List.mem_of_mem_drop hr
        · rw [Nat.max_eq_right hjk, List.drop_of_length_le (by simp)] at hr; exact nomatch hr
  · simp only [EventQueue.deliver, List.drop_append, List.mem_append] at hr
    rcases hr with hr | hr
    · rw [List.drop_of_length_le (by rw [List.length_map, List.length_take]; omega)] at hr; exact nomatch hr
    · simp only [List.length_map, List.length_take, List.drop_drop] at hr
      rcases Nat.le_total q.records.length k with hlk | hkl
      · rw [List.drop_of_length_le (by omega)] at hr; exact nomatch hr
      · rw [Nat.min_eq_left hkl] at hr
        exact hd r ((List.drop_sublist_drop_left _ (by omega)).subset hr)

/-- Clearing every delivered flag keeps the queue in order (R113). -/
theorem EventQueue.undeliver_consistent {q : EventQueue} (h : q.consistent) : q.undeliver.consistent := by
  obtain ⟨hl, hp, hs, -⟩ := h
  refine ⟨by simpa [EventQueue.undeliver] using hl, ?_, fun n e => ⟨(hs n e).1, fun r hr => ?_⟩, 0, by omega,
    fun r hr => ?_, fun r hr => ?_⟩
  · simpa [EventQueue.undeliver, List.pairwise_map] using hp
  · obtain ⟨y, hy, rfl⟩ := List.mem_map.1 hr
    exact (hs n e).2 y hy
  · simp at hr
  · obtain ⟨y, -, rfl⟩ := List.mem_map.1 (List.mem_of_mem_drop hr); rfl

/-! ### Tallies that only grow (R118, R120) -/

/-- From a tally in its ranges to one in its ranges, with no accumulator, start or trip lost. -/
def Tally.GrowsTo (a b : Tally) : Prop :=
  a.inRange → b.inRange ∧ (∀ m : Mode, m ≠ .none → (a.accs.get m).total ≤ (b.accs.get m).total)
    ∧ a.starts ≤ b.starts ∧ a.trips ≤ b.trips

theorem Tally.GrowsTo.refl (a : Tally) : a.GrowsTo a := fun h => ⟨h, fun _ _ => Nat.le_refl _, Nat.le_refl _, Nat.le_refl _⟩

/-- Growth is in the accumulators and the two counts; everything else of a tally may change. -/
theorem Tally.GrowsTo.of_eq {a b : Tally} (ha : b.accs = a.accs) (hs : b.starts = a.starts) (ht : b.trips = a.trips) :
    a.GrowsTo b := by
  intro h
  unfold Tally.inRange at *
  rw [ha, hs, ht]
  exact Tally.GrowsTo.refl a h

theorem Tally.GrowsTo.trans {a b c : Tally} (h : a.GrowsTo b) (h' : b.GrowsTo c) : a.GrowsTo c := by
  intro ha
  obtain ⟨hb, accs, starts, trips⟩ := h ha
  obtain ⟨hc, accs', starts', trips'⟩ := h' hb
  exact ⟨hc, fun m hm => (accs m hm).trans (accs' m hm), starts.trans starts', trips.trans trips'⟩

/-- A checkpoint only adds (R118, R120). -/
theorem GenUnit.checkpoint_growsTo (g : GenUnit) (t : Nat) : g.tally.GrowsTo (g.checkpoint t).tally := by
  obtain ⟨-, -, -, -, hs, ht, -⟩ := g.checkpoint_keeps t
  intro h
  obtain ⟨accs, starts, trips⟩ := h
  refine ⟨⟨fun m => ?_, hs ▸ starts, ht ▸ trips⟩, fun m _ => ?_, hs.ge, ht.ge⟩
  · rw [g.checkpoint_accs t m]
    split_ifs
    · exact Acc.book_inRange _ _
    · exact accs m
  · rw [g.checkpoint_accs t m]
    split_ifs
    · exact Acc.le_book_total _ (accs m)
    · exact Nat.le_refl _

/-- A start counted (R117). -/
theorem Tally.growsTo_starts (t : Tally) : t.GrowsTo { t with starts := satAdd t.starts 1 max16 } :=
  fun ⟨accs, starts, trips⟩ =>
    ⟨⟨accs, satAdd_le _ _ _, trips⟩, fun _ _ => Nat.le_refl _, le_satAdd 1 starts, Nat.le_refl _⟩

/-- A trip counted (R124). -/
theorem Tally.growsTo_trips (t : Tally) : t.GrowsTo { t with trips := satAdd t.trips 1 max16 } :=
  fun ⟨accs, starts, trips⟩ =>
    ⟨⟨accs, starts, satAdd_le _ _ _⟩, fun _ _ => Nat.le_refl _, Nat.le_refl _, le_satAdd 1 trips⟩

/-! ### The open trip list (R162, R163) -/

/-- A trip offered to the list keeps it at 16 distinct ones (R162). -/
theorem listTrip_consistent (x : ShiftUnitState) (u : Nat) (d : Date) (o : Option Nat)
    (h : tripsConsistent x.openTrips) : tripsConsistent (x.listTrip u d o).openTrips := by
  unfold ShiftUnitState.listTrip
  split
  · exact h
  · rename_i seq
    split_ifs with known full
    · exact h
    · exact h
    · refine ⟨?_, List.pairwise_append.2 ⟨h.2, List.pairwise_singleton _ _, fun a ha b hb => ?_⟩⟩
      · simp only [List.length_append, List.length_singleton]; omega
      · obtain rfl : b = { seq := seq, unit := u, date := d } := by simpa using hb
        intro e
        exact known (List.any_eq_true.2 ⟨a, ha, by simpa using e⟩)

/-- Part of a consistent trip list is one. -/
theorem tripsConsistent_sublist {xs ys : List OpenTrip} (hs : xs.Sublist ys) (h : tripsConsistent ys) :
    tripsConsistent xs := ⟨hs.length_le.trans h.1, h.2.sublist hs⟩

/-! ### The images that the part holds (R170, R174, R175) -/

/-- An image that STC holds: in the store, or as the snapshot of the save in flight. -/
def StoreController.Holds (c : StoreController) (i : Image) : Prop :=
  (∃ x, c.store = .holds x ∧ x.image = i) ∨ ∃ f x, c.inFlight = some f ∧ f.snapshot = some x ∧ x.image = i

/-! ### The notices (R193 to R196) -/

/-- The flag of each condition that holds is latched (R193, R194). -/
def NoticeUnit.latched (n : NoticeUnit) : Prop := n.conditions &&& n.flags = n.conditions

/-- A change of NTC that keeps the latched conditions, and ATTN where it was right. -/
def NoticeUnit.KeepsTo (n n' : NoticeUnit) (mask : BitVec 14) : Prop :=
  (n.latched → n'.latched) ∧ (n.consistent mask → n'.consistent mask)

/-- NTC with ATTN evaluated for a mask is consistent under it when its conditions are latched. -/
theorem NoticeUnit.latched.consistent_withFlags {n : NoticeUnit} (h : n.latched) (mask : BitVec 14) :
    (n.withFlags n.flags mask).consistent mask := ⟨rfl, h⟩

theorem NoticeUnit.keepsTo_raise (n : NoticeUnit) (w : Notice) (mask : BitVec 14) : n.KeepsTo (n.raise w mask) mask :=
  ⟨fun h => (NoticeUnit.raise_consistent w (h.consistent_withFlags mask)).2, NoticeUnit.raise_consistent w⟩

theorem NoticeUnit.keepsTo_hand (n : NoticeUnit) (w : Notice) (b : Bool) (mask : BitVec 14) :
    n.KeepsTo (n.hand w b mask) mask := by
  refine ⟨fun h => ?_, NoticeUnit.hand_consistent w b⟩
  have same := (NoticeUnit.hand_consistent w b (h.consistent_withFlags mask)).2
  have recorded : (n.withFlags n.flags mask).holds w = n.holds w := rfl
  unfold NoticeUnit.latched
  unfold NoticeUnit.hand at same ⊢
  rw [recorded] at same
  split_ifs at same ⊢ <;> exact same

/-- The flags of a restart are those of the conditions that hold, and RESTARTED (R196). -/
theorem NoticeUnit.restart_consistent (n : NoticeUnit) (mask : BitVec 14) : (n.restart mask).consistent mask := by
  refine ⟨rfl, ?_⟩
  show n.conditions &&& (n.conditions ||| Notice.restarted.bit) = n.conditions
  ext i hi
  simp only [BitVec.getElem_and, BitVec.getElem_or]
  cases n.conditions[i] <;> simp

/-- After a STAT the flags are the conditions that hold (R194). -/
theorem NoticeUnit.clear_consistent (n : NoticeUnit) (mask : BitVec 14) : (n.clear mask).consistent mask :=
  ⟨rfl, BitVec.and_self⟩

/-- What is consistent whatever it was before is kept. -/
theorem NoticeUnit.consistent.keepsTo {n n' : NoticeUnit} {mask : BitVec 14} (h : n'.consistent mask) :
    n.KeepsTo n' mask := ⟨fun _ => h.2, fun _ => h⟩

/-! ### Candidates (R20 to R24) -/

/-- A change of the receiver that leaves its candidate and its previous character, or forgets both. -/
def Receiver.CalmTo (r r' : Receiver) : Prop :=
  r'.candidate = r.candidate ∧ r'.prevChar = r.prevChar ∨ r'.candidate = none ∧ r'.prevChar = none

theorem Receiver.calmTo_setSrc (r : Receiver) (x : Source) (d : SourceData) : r.CalmTo (r.setSrc x d) := by
  cases x <;> exact .inl ⟨rfl, rfl⟩

theorem Receiver.calmTo_countMissing (r : Receiver) (x : Source) (d : SourceData) :
    r.CalmTo ((r.countMissing x).setSrc x d) := by
  cases x <;> exact .inl ⟨rfl, rfl⟩

theorem Receiver.calmTo_told (r : Receiver) (old new : DiscState) : r.CalmTo (r.told old new) := by
  unfold Receiver.told
  split <;> exact .inl ⟨rfl, rfl⟩

/-- A discard forgets both (R20, R22, R23). -/
theorem Receiver.discarded_forgets (r : Receiver) (why : Discard) :
    (r.discarded why).candidate = none ∧ (r.discarded why).prevChar = none := by
  unfold Receiver.discarded
  dsimp only
  split
  · exact ⟨rfl, rfl⟩
  · split
    · exact ⟨rfl, rfl⟩
    · split <;> exact ⟨rfl, rfl⟩

end Sys2Proof.Machine

/-! PROOFS. What the shared operations keep: a property of the part that the single changes below keep is kept by every
operation made of them. The records of what "single change" means come first, then one lemma for each operation. -/

namespace Sys2Proof.Machine

/-- A property kept by the changes that no line, no configuration and neither the passage nor a step of time take part in. A change is
named with what it leaves in order: the candidate, the queue, the notices, a tally, the shift's number and worst class, the trip list,
the images held, c and the class. The close of a shift comes to it in `Kept`. -/
structure KeptBase (P : State → Prop) : Prop where
  draw : ∀ s n, P s → P (s.setDraws n)
  rrx : ∀ s x, s.rrx.CalmTo x → P s → P (s.setRrx x)
  ftx : ∀ s x, P s → P (s.setFtx x)
  tracker : ∀ s m, P s → P (s.setTracker m)
  fired : ∀ s x, P s → P (s.setTsc { s.tsc with lastFired := x })
  leap : ∀ s l p, P s → P (s.setTsc { s.tsc with leap := l, pendingLeap := p })
  queue : ∀ s q, (s.evq.consistent → q.consistent) → P s → P (s.setEvq q)
  notices : ∀ s n, s.ntc.KeepsTo n s.cfg.noticeMask → P s → P (s.setNtc n)
  unit : ∀ s u x, (s.unit u).tally.GrowsTo x.tally → P s → P (s.setUnit u x)
  nextEval : ∀ s n, P s → P (s.setTlu { s.tlu with nextEval := n })
  current : ∀ s r, r.number = s.shu.current.number → s.shu.current.worstClass ≤ r.worstClass → P s → P (s.setCurrent r)
  handover : ∀ s st x r a w, P s →
    P (s.setShu { s.shu with state := st, expected := x, release := r, accept := a, window := w })
  trips : ∀ s ts b, (tripsConsistent s.shu.openTrips → tripsConsistent ts) → P s →
    P (s.setShu { s.shu with openTrips := ts, overflow := b })
  schedule : ∀ s x, P s → P (s.setShu { s.shu with schedule := x })
  stc : ∀ s x, (∀ i, x.Holds i → s.stc.Holds i ∨ i = s.snapshot) → P s → P (s.setStc x)
  dscQuiet : ∀ s d, d.c = s.dsc.c → d.effClass = s.dsc.effClass → d.classNow = s.dsc.classNow → P s → P (s.setDsc d)
  dscEval : ∀ s d, (d.c = s.dsc.c ∨ -(s.cfg.slewLimit : Int) ≤ d.c ∧ d.c ≤ s.cfg.slewLimit) →
    d.effClass = s.dsc.effClass → P s → P (s.setDsc d).evalClass

namespace KeptBase

variable {P : State → Prop} {s : State}

/-! ### Notices and records (R99, R104, R105, R193) -/

theorem raise (k : KeptBase P) (w : Notice) (h : P s) : P (s.raise w) :=
  k.notices s _ (NoticeUnit.keepsTo_raise _ w _) h

theorem hand (k : KeptBase P) (w : Notice) (b : Bool) (h : P s) : P (s.hand w b) :=
  k.notices s _ (NoticeUnit.keepsTo_hand _ w b _) h

/-- A change of the current record that keeps its number and its worst class. -/
theorem currentSame (k : KeptBase P) (r : ShiftRecord) (hn : r.number = s.shu.current.number)
    (hw : r.worstClass = s.shu.current.worstClass) (h : P s) : P (s.setCurrent r) := k.current s r hn hw.ge h

theorem reportLoss (k : KeptBase P) (h : P s) : P s.reportLoss :=
  k.currentSame (s := s.raise .queueLoss) _ rfl rfl (k.raise _ h)

theorem evalWatermark (k : KeptBase P) (h : P s) : P s.evalWatermark := k.hand _ _ h

theorem placeSeq (k : KeptBase P) (p : Placement) (h : P s) : P (s.placeSeq p).1 := by
  have h1 : P (s.setEvq (s.evq.place s.cfg.queuePolicy (s.recordOf p)
      (s.recordOf { detail := .overflow 1 (if p.detail.isTrip then 1 else 0) })).1) :=
    k.queue s _ (fun c => EventQueue.place_consistent _ c rfl rfl) h
  simp only [State.placeSeq]
  split
  · exact k.evalWatermark h1
  · exact k.evalWatermark (k.reportLoss h1)
  · exact k.evalWatermark (k.reportLoss h1)

theorem place (k : KeptBase P) (p : Placement) (h : P s) : P (s.place p) := k.placeSeq p h

/-! ### Lists of changes and free orders -/

theorem eitherOrder {f g : State → State} (k : KeptBase P) (hf : ∀ s, P s → P (f s)) (hg : ∀ s, P s → P (g s)) (h : P s) :
    P (Machine.eitherOrder f g s) := by
  rcases eitherOrder_cases f g s with e | e <;> rw [e]
  · exact hg _ (hf _ (k.draw _ _ h))
  · exact hf _ (hg _ (k.draw _ _ h))

/-! ### Tallies (Chapters 7 and 8) -/

theorem tally (k : KeptBase P) (u : Nat) (x : Tally) (hx : (s.unit u).tally.GrowsTo x) (h : P s) : P (s.setTally u x) :=
  k.unit s u _ hx h

/-- A change of a unit that leaves its tally. -/
theorem unitSame (k : KeptBase P) (u : Nat) (x : GenUnit) (hx : x.tally = (s.unit u).tally) (h : P s) : P (s.setUnit u x) :=
  k.unit s u x (hx ▸ Tally.GrowsTo.refl _) h

theorem checkpoint (k : KeptBase P) (u t : Nat) (h : P s) : P (s.checkpoint u t) := by
  refine k.currentSame (s := s.setUnit u _) _ ?_ ?_ (k.unit s u _ (GenUnit.checkpoint_growsTo _ _) h)
  all_goals
    simp only [ShiftRecord.addTime]
    split <;> rfl

theorem checkpointNow (k : KeptBase P) (u : Nat) (h : P s) : P (s.checkpointNow u) := k.checkpoint u _ h

theorem evalMaintenance (k : KeptBase P) (u : Nat) (h : P s) : P (s.evalMaintenance u) := by
  have h1 : P (s.setTally u { (s.unit u).tally with due := decide ((s.unit u).tally.limit ≤ s.eoh u) }) :=
    k.tally u _ (.of_eq rfl rfl rfl) h
  simp only [State.evalMaintenance]
  split_ifs
  · exact k.place _ h1
  · exact h1
  · exact k.hand _ _ (k.place _ h1)
  · exact k.hand _ _ h1

theorem evalAll (k : KeptBase P) (h : P s) : P s.evalAll :=
  forAll_keeps P _ _ (fun u _ _ h => k.evalMaintenance u h) s h

theorem evalUnits (k : KeptBase P) (us : List Nat) (h : P s) : P (s.evalUnits us) :=
  forAll_keeps P _ _ (fun u _ _ h => k.evalMaintenance u h) s h

theorem checkpointAll (k : KeptBase P) (h : P s) : P s.checkpointAll :=
  k.evalAll (forAll_keeps P _ _ (fun u _ _ h => k.checkpointNow u h) s h)

theorem evalDiscrepancy (k : KeptBase P) (h : P s) : P s.evalDiscrepancy := k.hand _ _ h

theorem expireDiscrepancy (k : KeptBase P) (u : Nat) (h : P s) : P (s.expireDiscrepancy u) :=
  k.evalDiscrepancy (k.place _ (k.unitSame u { s.unit u with timer := .expired } rfl h))

theorem expireIfPassed (k : KeptBase P) (u : Nat) (h : P s) : P (s.expireIfPassed u) := by
  simp only [State.expireIfPassed]
  split
  · split
    · exact k.expireDiscrepancy u h
    · exact h
  · exact h
  · exact h

theorem updateTimer (k : KeptBase P) (u : Nat) (old : Mode) (h : P s) : P (s.updateTimer u old) := by
  simp only [State.updateTimer]
  split_ifs
  · exact h
  · exact k.expireIfPassed u (k.unitSame u _ rfl h)
  · exact k.evalDiscrepancy (k.unitSame u _ rfl h)
  · exact k.unitSame u _ rfl h

theorem moveTimer (k : KeptBase P) (u : Nat) (h : P s) : P (s.moveTimer u) := by
  simp only [State.moveTimer]
  split
  · exact k.expireIfPassed u (k.unitSame u _ rfl h)
  · exact h
  · exact h

theorem enterMode (k : KeptBase P) (u : Nat) (new : Mode) (t : Nat) (d : Date) (h : P s) : P (s.enterMode u new t d) :=
  k.updateTimer u _ (k.unitSame u _ rfl h)

theorem placeMode (k : KeptBase P) (u : Nat) (old : Mode) (d : Option Date) (h : P s) : P (s.placeMode u old d) := by
  simp only [State.placeMode]
  split
  · exact k.place _ h
  · exact h

theorem countStart (k : KeptBase P) (u : Nat) (h : P s) : P (s.countStart u) :=
  k.currentSame (s := s.setTally u _) _ rfl rfl (k.tally u _ (Tally.growsTo_starts _) h)

theorem changeMode (k : KeptBase P) (u : Nat) (new : Mode) (t : Nat) (l : Latch) (h : P s) : P (s.changeMode u new t l) := by
  simp only [State.changeMode]
  split
  · exact k.placeMode u _ _ (k.enterMode u _ _ _ (k.countStart u h))
  · exact k.placeMode u _ _ (k.enterMode u _ _ _ h)

theorem statusChange (k : KeptBase P) (u : Nat) (l : Latch) (h : P s) : P (s.statusChange u l) := by
  simp only [State.statusChange]
  split_ifs
  · exact k.evalMaintenance u h
  · exact k.evalMaintenance u (k.checkpoint u _ h)
  · exact k.evalMaintenance u (k.changeMode u _ _ l (k.checkpoint u _ h))

theorem rederive (k : KeptBase P) (u : Nat) (h : P s) : P (s.rederive u) := by
  simp only [State.rederive]
  split
  · exact h
  · exact k.placeMode u _ _ (k.enterMode u _ _ _ h)

theorem reconfigUnit (k : KeptBase P) (u : Nat) (h : P s) : P (s.reconfigUnit u) := k.rederive u (k.checkpointNow u h)

theorem evalPeriodic (k : KeptBase P) (h : P s) : P s.evalPeriodic := k.evalAll (k.nextEval _ _ h)

theorem limitUnit (k : KeptBase P) (limit u : Nat) (h : P s) : P (s.limitUnit limit u) :=
  k.evalMaintenance u (k.tally u _ (.of_eq rfl rfl rfl) h)

/-! ### Trips (R110, R124, R162) -/

theorem countTrip (k : KeptBase P) (u : Nat) (h : P s) : P (s.countTrip u) := by
  simp only [State.countTrip]
  split
  · exact h
  · exact k.tally u _ (Tally.growsTo_trips _) h

theorem shiftTrip (k : KeptBase P) (u : Nat) (d : Date) (o : Option Nat) (h : P s) : P (s.shiftTrip u d o) := by
  have h1 : P (s.setCurrent (s.shu.current.countTrip u)) := by
    refine k.currentSame _ ?_ ?_ h
    all_goals
      simp only [ShiftRecord.countTrip]
      split <;> rfl
  have kept := listTrip_consistent (s.setCurrent (s.shu.current.countTrip u)).shu u d o
  simp only [State.shiftTrip]
  obtain ⟨ts, b, e⟩ := listTrip_eq (s.setCurrent (s.shu.current.countTrip u)).shu u d o
  rw [e] at kept ⊢
  exact k.trips _ ts b kept h1

theorem trip (k : KeptBase P) (line u : Nat) (l : Latch) (h : P s) : P (s.trip line u l) :=
  k.shiftTrip u _ _ (k.placeSeq _ (k.countTrip u h))

/-! ### Saves (Chapter 10) -/

/-- A change of STC that leaves the store and the save in flight. -/
theorem stcSame (k : KeptBase P) (x : StoreController) (hs : x.store = s.stc.store) (hf : x.inFlight = s.stc.inFlight)
    (h : P s) : P (s.setStc x) := by
  refine k.stc s x (fun i hi => .inl ?_) h
  unfold StoreController.Holds at *
  rwa [hs, hf] at hi

theorem queueSave (k : KeptBase P) (t : Trigger) (h : P s) : P (s.queueSave t) := k.stcSame _ rfl rfl h

theorem setHoldup (k : KeptBase P) (b : Bool) (h : P s) : P (s.setHoldup b) := k.stcSame _ rfl rfl h

theorem setAutosave (k : KeptBase P) (h : P s) : P s.setAutosave := k.stcSame _ rfl rfl h

theorem beginSave (k : KeptBase P) (t : Trigger) (h : P s) : P (s.beginSave t) := by
  refine k.draw _ _ (k.stc s _ (fun i hi => .inl ?_) h)
  rcases hi with hi | ⟨f, x, hf, hx, -⟩
  · exact .inl hi
  · obtain rfl := Option.some.inj hf
    exact nomatch hx

/-- The snapshot of the save in flight taken from the items as they stand (R174 step 3). -/
theorem snapshotTaken (k : KeptBase P) (h : P s) : P (s.setStc { s.stc with
    inFlight := s.stc.inFlight.map (fun f => { f with snapshot := some s.snapshot.stored }) }) := by
  refine k.stc s _ (fun i hi => ?_) h
  rcases hi with hi | ⟨f, x, hf, hx, e⟩
  · exact .inl (.inl hi)
  · obtain ⟨g, -, rfl⟩ := Option.map_eq_some_iff.1 hf
    obtain rfl : s.snapshot.stored = x := Option.some.inj hx
    exact .inr e.symm

theorem takeSnapshot (k : KeptBase P) (h : P s) : P s.takeSnapshot := k.snapshotTaken (k.checkpointAll h)

theorem startSave (k : KeptBase P) (t : Trigger) (h : P s) : P (s.startSave t) := k.takeSnapshot (k.beginSave t h)

theorem requestSave (k : KeptBase P) (t : Trigger) (h : P s) : P (s.requestSave t) := by
  simp only [State.requestSave]
  split
  · exact k.queueSave t h
  · exact k.startSave t h

theorem autosaveReached (k : KeptBase P) (h : P s) : P s.autosaveReached := k.requestSave _ (k.stcSame _ rfl rfl h)

theorem autosaveIfPassed (k : KeptBase P) (h : P s) : P s.autosaveIfPassed := by
  simp only [State.autosaveIfPassed]
  split
  · exact h
  · split
    · exact k.autosaveReached h
    · exact h

theorem reportSave (k : KeptBase P) (t : Trigger) (ok : Bool) (h : P s) : P (s.reportSave t ok) := by
  simp only [State.reportSave]
  split
  · exact k.place _ h
  · exact k.raise _ (k.place _ h)

theorem nextSave (k : KeptBase P) (h : P s) : P s.nextSave := by
  have h1 : P (s.setStc { s.stc with inFlight := none, queued := none }) := by
    refine k.stc s _ (fun i hi => .inl ?_) h
    rcases hi with hi | ⟨f, x, hf, -⟩
    · exact .inl hi
    · exact nomatch hf
  simp only [State.nextSave]
  split
  · exact h1
  · exact k.startSave _ h1

/-- The end of the save in flight (R175): what the store then holds is the snapshot of that save. -/
theorem endSave (k : KeptBase P) (f : SaveInFlight) (ok : Bool) (hf : s.stc.inFlight = some f) (h : P s) :
    P (s.endSave f ok) := by
  have h1 : P (s.setStc (s.stc.outcome f ok)) := by
    refine k.stc s _ (fun i hi => .inl ?_) h
    rcases hi with ⟨x, hx, e⟩ | hi
    · refine .inr ⟨f, x, hf, ?_, e⟩
      simp only [StoreController.outcome, SaveInFlight.written] at hx
      split at hx
      · rename_i y hy
        rw [hy, Store.holds.inj hx]
      · exact nomatch hx
    · exact .inr hi
  exact k.nextSave (k.setAutosave (k.stcSame _ rfl rfl (k.reportSave _ _ h1)))

theorem saveEnds (k : KeptBase P) (h : P s) : P s.saveEnds := by
  simp only [State.saveEnds]
  split
  · exact h
  · rename_i f hf
    exact k.endSave f _ hf h

/-! ### Shifts (Chapter 9) -/

theorem placeShift (k : KeptBase P) (ev : ShiftEvent) (crew : Nat) (h : P s) : P (s.placeShift ev crew) := k.place _ h

theorem endHandover (k : KeptBase P) (h : P s) : P s.endHandover := k.hand _ _ (k.handover s _ _ _ _ _ h)

theorem openHandover (k : KeptBase P) (crew w : Nat) (h : P s) : P (s.openHandover crew w) :=
  k.handover _ _ _ _ _ _ (k.raise _ (k.placeShift _ _ (k.handover s _ _ _ _ _ h)))

theorem missHandover (k : KeptBase P) (h : P s) : P s.missHandover :=
  k.endHandover (k.currentSame _ rfl rfl (k.raise _ (k.placeShift _ _ h)))

/-- A shift opens with the number that follows, and the class then in force as its worst (R150). -/
theorem openShift
    (opened : ∀ s n crew, P s → P (s.setCurrent (ShiftRecord.fresh n crew s.dateNow s.dsc.effClass)))
    (history : ∀ s x, P s → P (s.setShu { s.shu with history := x })) (crew : Nat) (h : P s) : P (s.openShift crew) := by
  simp only [State.openShift]
  split
  · exact opened (s.setShu { s.shu with history := [] }) _ _ (history s _ h)
  · exact opened s _ _ h

theorem requestShiftSave (k : KeptBase P) (h : P s) : P s.requestShiftSave := by
  simp only [State.requestShiftSave]
  split_ifs
  · exact k.queueSave _ h
  · exact k.beginSave _ h
  · exact h

/-- The current record closed and put into the history (R149 steps 2 to 4). -/
theorem closeMarks (k : KeptBase P) (history : ∀ s x, P s → P (s.setShu { s.shu with history := x }))
    (kind : ShiftKind) (crew d : Nat) (h : P s) :
    P ((s.setShu { s.shu with
        history := pushHistory { s.shu.current with kind := kind, nextCrew := crew, duration := d } s.shu.history }).setCurrent
      { s.shu.current with kind := kind, nextCrew := crew, duration := d, loss := false }) :=
  k.current _ _ rfl (Nat.le_refl _) (history s _ h)

/-- A loss flag handed to the record now current (entry 19). -/
theorem setLoss (k : KeptBase P) (b : Bool) (h : P s) : P (s.setCurrent { s.shu.current with loss := b }) :=
  k.current s _ rfl (Nat.le_refl _) h

/-- A property that any history and any newly opened shift keep is kept by the close of a shift (R149). -/
theorem closeShift (k : KeptBase P)
    (opened : ∀ s n crew, P s → P (s.setCurrent (ShiftRecord.fresh n crew s.dateNow s.dsc.effClass)))
    (history : ∀ s x, P s → P (s.setShu { s.shu with history := x })) (kind : ShiftKind) (ev : ShiftEvent)
    (crew d : Nat) (h : P s) : P (s.closeShift kind ev crew d) := by
  have recorded : P (s.closeRecord kind ev crew d) := by
    have h1 := k.checkpointAll h
    unfold State.closeRecord
    generalize s.checkpointAll = t at h1
    exact k.placeShift ev crew (k.closeMarks history kind crew d h1)
  have h2 := KeptBase.openShift opened history crew (k.requestShiftSave recorded)
  have h3 := k.endHandover (k.setLoss (s.closeRecord kind ev crew d).shu.current.loss h2)
  simp only [State.closeShift]
  split
  · exact k.takeSnapshot h3
  · exact h3

end KeptBase

/-- A property kept by the changes of `KeptBase` and by the close of a shift (R149). -/
structure Kept (P : State → Prop) : Prop extends KeptBase P where
  close : ∀ s k ev crew d, P s → P (s.closeShift k ev crew d)

namespace Kept

variable {P : State → Prop} {s : State}

theorem judgeEntry (k : Kept P) (x : ScheduleEntry) (h : P s) : P (s.judgeEntry x) := by
  simp only [State.judgeEntry]
  split
  · exact k.close _ _ _ _ _ h
  · exact k.openHandover _ _ h

theorem fireEntry (k : Kept P) (x : ScheduleEntry) (day : Int) (h : P s) : P (s.fireEntry x day) := by
  simp only [State.fireEntry]
  split
  · exact k.judgeEntry x (k.fired s _ h)
  · exact k.judgeEntry x (k.missHandover (k.fired s _ h))

theorem minuteReport (k : Kept P) (m : LocalMinute) (h : P s) : P (s.minuteReport m) := by
  simp only [State.minuteReport]
  split
  · exact h
  · split
    · exact h
    · exact k.fireEntry _ _ h

theorem jumpReport (k : Kept P) (a b : Int) (h : P s) : P (s.jumpReport a b) := by
  simp only [State.jumpReport]
  split
  · exact h
  · exact k.fireEntry _ _ (forAll_keeps P _ _ (fun q _ _ h => k.placeShift _ _ h) s h)

theorem setSchedule (k : Kept P) (xs : List ScheduleEntry) (h : P s) : P (s.setSchedule xs) :=
  k.fired _ _ (k.schedule s xs h)

theorem completeIfReady (k : Kept P) (h : P s) : P s.completeIfReady := by
  simp only [State.completeIfReady]
  split
  · exact k.close _ _ _ _ _ h
  · exact h

theorem goOverdue (k : Kept P) (h : P s) : P s.goOverdue :=
  k.hand _ _ (k.placeShift _ _ (k.currentSame _ rfl rfl (k.handover s _ _ _ _ _ h)))

/-! ### The time scale (Chapter 1) -/

theorem trackAdvance (k : Kept P) (h : P s) : P s.trackAdvance := by
  simp only [State.trackAdvance]
  split
  · exact h
  · split_ifs
    · exact k.minuteReport _ (k.tracker s _ h)
    · exact k.tracker s _ h
    · exact h

theorem trackMove (k : Kept P) (held : Bool) (h : P s) : P (s.trackMove held) := by
  simp only [State.trackMove]
  split
  · exact h
  · split_ifs
    · exact h
    · exact h
    · exact k.jumpReport _ _ (k.tracker s _ h)
    · exact k.tracker s _ h

theorem trackChange (k : Kept P) (held : Bool) (before : LocalMinute) (h : P s) : P (s.trackChange held before) := by
  simp only [State.trackChange]
  split
  · exact h
  · exact k.trackMove held h

theorem trackLeave (k : Kept P) (h : P s) : P s.trackLeave := k.tracker s _ h

theorem reportStep (k : Kept P) (a : Int) (r : StepReason) (h : P s) : P (s.reportStep a r) :=
  k.place _ (k.currentSame _ rfl rfl h)

theorem adoptLeap (k : Kept P) (l : Int) (h : P s) : P (s.adoptLeap l) := by
  simp only [State.adoptLeap]
  split
  · exact h
  · exact k.trackChange _ _ (k.place _ (k.leap s _ _ h))

theorem takeLeapInfo (k : Kept P) (m : StationMessage) (h : P s) : P (s.takeLeapInfo m) :=
  k.leap _ _ _ (k.adoptLeap _ h)

theorem selfLeap (k : Kept P) (h : P s) : P s.selfLeap := by
  simp only [State.selfLeap]
  split
  · exact h
  · split_ifs
    · exact k.place _ (k.leap s _ _ h)
    · exact k.leap s _ _ h
    · exact h

theorem growU (k : Kept P) (h : P s) : P s.growU := by
  simp only [State.growU]
  split
  · exact k.dscEval s _ (.inl rfl) rfl h
  · exact k.dscEval s _ (.inl rfl) rfl h
  · exact h
  · exact h

theorem feedBoundary (k : Kept P) (cls : Nat) (h : P s) : P (s.feedBoundary cls) := by
  simp only [State.feedBoundary]
  split_ifs <;> exact k.ftx s _ h

theorem boundaryWork (k : Kept P) (h : P s) : P s.boundaryWork :=
  k.trackAdvance (k.feedBoundary _ (k.growU (k.draw _ _ (k.selfLeap h))))

/-! ### The discipline and the receiver (Chapters 2 and 3) -/

theorem reportDisc (k : Kept P) (old : DiscState) (h : P s) : P (s.reportDisc old) :=
  k.rrx _ _ (Receiver.calmTo_told _ _ _) (k.raise _ (k.place _ h))

theorem discMissing (k : Kept P) (h : P s) : P s.discMissing := by
  simp only [State.discMissing]
  split
  · exact k.dscQuiet s _ rfl rfl rfl h
  · exact k.dscQuiet s _ rfl rfl rfl h
  · exact h
  · exact h

/-- HOLDOVER is entered with a new view (R54). -/
theorem enterHoldover (k : Kept P) (v : Option Source) (h : P s) :
    P (s.setDsc { s.dsc with view := v }).enterHoldover :=
  k.reportDisc _ (k.dscEval s _ (.inr (clampInt_limit _ _)) rfl h)

theorem discSelection (k : Kept P) (new : Option Source) (h : P s) : P (s.discSelection new) := by
  simp only [State.discSelection]
  split
  · exact k.dscEval s _ (.inl rfl) rfl h
  · exact k.dscEval s { ({ s.dsc with view := _ } : Discipline).restart with lock := 0 } (.inl rfl) rfl h
  · exact k.dscEval s { ({ s.dsc with view := _ } : Discipline).restart with lock := 0 } (.inl rfl) rfl h
  · exact k.dscEval s { ({ s.dsc with view := _ } : Discipline).restart with lock := 0 } (.inl rfl) rfl h
  · exact k.enterHoldover none h
  · exact k.enterHoldover none h

theorem settleRevert (k : Kept P) (h : P s) : P s.settleRevert := k.rrx s _ (.inl ⟨rfl, rfl⟩) h

theorem placeRef (k : Kept P) (x : Source) (old new : SourceState) (sel : Option Source) (h : P s) :
    P (s.placeRef x old new sel) := k.raise _ (k.place _ h)

theorem evalSelection (k : Kept P) (b : Bool) (h : P s) : P (s.evalSelection b) := by
  simp only [State.evalSelection]
  split
  · exact k.settleRevert h
  · exact k.discSelection _ (k.placeRef _ _ _ _ (k.settleRevert (k.rrx s _ (.inl ⟨rfl, rfl⟩) h)))

theorem sourceMoved (k : Kept P) (x : Source) (old : SourceState) (h : P s) : P (s.sourceMoved x old) := by
  simp only [State.sourceMoved]
  split
  · exact h
  · exact k.evalSelection _ (k.placeRef _ _ _ _ h)

/-- A missing sample taken by the receiver (R30): no sample comes of it. -/
theorem takeRefMissing (k : Kept P) (x : Source) (h : P s) : P (s.takeRefEvent x .missing) := by
  have h1 := k.sourceMoved x (s.rrx.src x).state
    (k.rrx s (s.rrx.setSrc x ((s.rrx.src x).take s.cfg s.dsc.state.supervised s.dsc.u .missing)) (Receiver.calmTo_setSrc _ _ _) h)
  simp only [State.takeRefEvent, State.handToDsc]
  split
  · exact k.discMissing h1
  · exact h1

theorem takeMissing (k : Kept P) (x : Source) (h : P s) : P (s.takeMissing x) := by
  simp only [State.takeMissing]
  split
  · exact h
  · exact k.takeRefMissing x (k.rrx s _ (Receiver.calmTo_countMissing _ _ _) h)

theorem takeAbsent (k : Kept P) (x : Source) (h : P s) : P (s.takeAbsent x) := by
  simp only [State.takeAbsent]
  split
  · exact k.sourceMoved x _ (k.rrx _ _ (.inl ⟨rfl, rfl⟩) (k.rrx s _ (Receiver.calmTo_setSrc _ _ _) h))
  · exact k.sourceMoved x _ (k.rrx s _ (Receiver.calmTo_setSrc _ _ _) h)

theorem takeDeferredMissing (k : Kept P) (mark fuel : Nat) (h : P s) : P (s.takeDeferredMissing mark fuel) := by
  induction fuel generalizing s with
  | zero => exact h
  | succ n ih =>
    simp only [State.takeDeferredMissing]
    split
    · exact ih (k.takeMissing _ h)
    · exact h

theorem takeDeferred (k : Kept P) (mark : Nat) (h : P s) : P (s.takeDeferred mark) := by
  simp only [State.takeDeferred]
  split
  · exact k.takeAbsent _ (k.takeDeferredMissing _ _ h)
  · exact k.takeDeferredMissing _ _ h

theorem discard (k : Kept P) (why : Discard) (mark : Nat) (h : P s) : P (s.discard why mark) :=
  k.takeDeferred _ (k.rrx s _ (.inr (Receiver.discarded_forgets _ _)) h)

theorem candidateLate (k : Kept P) (h : P s) : P s.candidateLate := by
  simp only [State.candidateLate]
  split
  · exact h
  · exact k.discard _ _ h

theorem revertExpires (k : Kept P) (h : P s) : P s.revertExpires := k.evalSelection _ (k.rrx s _ (.inl ⟨rfl, rfl⟩) h)

theorem moveRevert (k : Kept P) (h : P s) : P s.moveRevert := by
  simp only [State.moveRevert]
  split
  · exact h
  · split
    · exact k.revertExpires (k.rrx s _ (.inl ⟨rfl, rfl⟩) h)
    · exact k.rrx s _ (.inl ⟨rfl, rfl⟩) h

/-! ### What a delivered change is handed on to (R82 to R85) -/

theorem notifyTrip (k : Kept P) (i : Nat) (h : P s) : P (s.notifyTrip i) := by
  simp only [State.notifyTrip]
  split
  · exact k.raise _ h
  · exact h

theorem tripPath (k : Kept P) (i : Nat) (l : Latch) (h : P s) : P (s.tripPath i l) := k.notifyTrip i (k.trip _ _ _ h)

theorem placeIfRecorded (k : Kept P) (i : Nat) (p : Placement) (h : P s) : P (s.placeIfRecorded i p) := by
  simp only [State.placeIfRecorded]
  split
  · exact k.place _ h
  · exact h

theorem handOn (k : Kept P) (i : Nat) (b : Bool) (l : Latch) (h : P s) : P (s.handOn i b l) := by
  have status : P (if (s.lineCfg i).unit = 0 then s.placeIfRecorded i (s.edgeRecord i b l)
      else (s.placeIfRecorded i (s.edgeRecord i b l)).statusChange (s.lineCfg i).unit l) := by
    split
    · exact k.placeIfRecorded _ _ h
    · exact k.statusChange _ _ (k.placeIfRecorded _ _ h)
  simp only [State.handOn]
  split
  · exact h
  · exact k.placeIfRecorded _ _ h
  · exact status
  · exact status
  · exact status
  · exact status
  · split
    · exact k.tripPath _ _ h
    · exact k.placeIfRecorded _ _ h

theorem tellUnits (k : Kept P) (us : List Nat) (h : P s) : P (s.tellUnits us) := by
  simp only [State.tellUnits]
  split
  · exact k.eitherOrder (fun _ h => k.reconfigUnit _ h) (fun _ h => k.reconfigUnit _ h) h
  · exact forAll_keeps P _ _ (fun u _ _ h => k.reconfigUnit u h) s h

theorem injectLine (k : Kept P) (i : Nat) (b : Bool) (h : P s) : P (s.injectLine i b) := by
  simp only [State.injectLine]
  split
  · exact k.notifyTrip i (k.place _ h)
  · exact k.place _ h

end Kept

end Sys2Proof.Machine

/-! PROOFS. What every command keeps: the samples, the lines, the configuration and the loads each bring their own changes,
and a property that all of them keep is kept by every command (`exec_keeps`) and by a step on the clock. -/

namespace Sys2Proof.Machine

/-- A property that the taking of characters, a step of station time and a processed sample keep (R8, R20, R51). -/
structure KeptSamples (P : State → Prop) : Prop where
  chars : ∀ s x, P s → P (s.setRrx x)
  step : ∀ s ns, P s → P (s.setTsc (s.tsc.stepTo ns))
  sample : ∀ s src e cls acq first, P s → P (s.processSample src e cls acq first)

/-- A property that the changes of one line keep, from one state of R74 to the next. -/
structure KeptLine (P : State → Prop) (i : Nat) : Prop where
  pinChange : ∀ s b, P s → P (s.pinChange i b)
  filterReached : ∀ s, P s → P (s.filterReached i)
  leaveChatter : ∀ s, (s.line i).quiet ≠ none → P s → P (s.leaveChatter i)
  clearBounce : ∀ s, P s → P (s.clearBounce i)

/-- A property that the changes of every line keep. -/
def KeptLines (P : State → Prop) : Prop := ∀ i, KeptLine P i

/-- A property that the changes of the configuration keep, each taken with its application (R180, R190, R191). -/
structure KeptConfig (P : State → Prop) : Prop where
  storeItem : ∀ s (it : Item) i v, i ∈ it.scope.indices → it.read s.cfg i ≠ v → P s → P (s.storeItem it i v)
  takeDefaults : ∀ s, P s → P s.takeDefaults
  restart : ∀ s, P s → P s.restart

/-- A property that a preset keeps (R129). -/
def KeptPreset (P : State → Prop) : Prop := ∀ s f v u, P s → P (s.presetUnit f v u)

/-- A property that a preset and a load at power-on keep (R129, R172). -/
structure KeptLoads (P : State → Prop) : Prop where
  preset : KeptPreset P
  powerOn : ∀ s straps pins b, P s → P (s.powerOn straps pins b)

/-- A property that the passage of time keeps (R1, R3). -/
structure KeptTime (P : State → Prop) : Prop where
  pass : ∀ s ns, P s → P (s.pass ns)
  frac : ∀ s, P s → P s.keepFrac

/-- A property that any change of the link keeps. -/
def KeptLink (P : State → Prop) : Prop := ∀ s x, P s → P (s.setLkc x)

/-- A property that everything but a sample, a preset and a load keeps. -/
structure KeptRun (P : State → Prop) : Prop where
  base : Kept P
  time : KeptTime P
  link : KeptLink P
  lines : KeptLines P
  config : KeptConfig P

variable {P : State → Prop} {s : State}

/-! ### The part's own clock (R6, R29, R37, R68, R76, R81, R123, R136, R160, R175, R178, R183, R186) -/

/-- Something that time, boundaries and draws keep, and every event that stands with an instant: what a run, a wait and a
tick keep then. -/
structure StandingKeeps (P : State → Prop) : Prop where
  pass : ∀ s ns, P s → P (s.pass ns)
  boundary : ∀ s, P s → P s.boundaryWork
  draw : ∀ s n, P s → P (s.setDraws n)
  event : ∀ s (ev : TimedEvent), ev.instant s ≠ none → P s → P (ev.happen s)

/-- An event that is due stands with an instant. -/
theorem State.instant_of_isDue {ev : TimedEvent} (h : s.isDue ev = true) : ev.instant s ≠ none := by
  obtain ⟨x, hx, -⟩ := (s.isDue_iff ev).1 h
  simp [hx]

/-- An event picked among the due ones stands with an instant. -/
theorem State.instant_of_pickDue {ev : TimedEvent} (h : s.pickDue = some ev) : ev.instant s ≠ none := by
  have hm : ev ∈ freeOrder s.draws s.dueEvents := List.mem_of_mem_head? h
  rw [(freeOrder_perm _ _).mem_iff] at hm
  exact State.instant_of_isDue (List.mem_filter.1 hm).2

theorem StandingKeeps.passTime (k : StandingKeeps P) (ns : Nat) (h : P s) : P (s.passTime ns) := by
  have events (evs : List TimedEvent) (s : State) (h : P s) : P (s.takeEvents evs) :=
    forAll_keeps P _ _ (fun ev _ s h => by
      split
      · rename_i hd
        exact k.event s ev (State.instant_of_isDue hd) h
      · exact h) s h
  simp only [State.passTime]
  split
  · exact k.pass _ _ h
  · refine k.pass _ _ ?_
    simp only [State.atBoundary]
    split
    · exact k.boundary _ (k.pass _ _ h)
    · exact k.boundary _ (events _ _ (k.draw _ _ (k.pass _ _ h)))

theorem StandingKeeps.runTo (k : StandingKeeps P) (goal : Nat) (h : P s) : P (s.runTo goal) := by
  have run (fuel : Nat) (s : State) (h : P s) : P (State.runAux fuel goal s) := by
    induction fuel generalizing s with
    | zero => exact k.passTime _ h
    | succ n ih =>
      simp only [State.runAux]
      split
      · exact h
      · split
        · rename_i ev hp
          have stands : ev.instant (s.setDraws (s.draws + 1)) ≠ none := by
            have := State.instant_of_pickDue hp
            cases ev <;> exact this
          exact ih _ (k.event _ ev stands (k.draw _ _ h))
        · exact ih _ (k.passTime _ h)
  exact run _ s h

theorem StandingKeeps.await (k : StandingKeeps P) (ev : TimedEvent) (at' : Option Nat) (h : P s) :
    P (s.await ev at') := by
  cases at' with
  | none => exact h
  | some t =>
    have hr : P (s.runToE t) := k.runTo _ h
    simp only [State.await]
    split
    · rename_i hi
      exact k.event _ ev (by simp [hi]) hr
    · exact hr

theorem StandingKeeps.tick (k : StandingKeeps P) (hf : ∀ s, P s → P s.keepFrac) (hq : ∀ s, P s → P s.queueDue)
    (h : P s) : P s.tick := by
  simp only [State.tick]
  split
  · exact k.passTime _ (hf _ h)
  · exact hq _ h

/-- What comes due by itself keeps what time, boundaries and the lines' own expiries keep. -/
theorem Kept.event (k : Kept P) (n : KeptLink P) (l : KeptLines P) (ev : TimedEvent) (hi : ev.instant s ≠ none) (h : P s) :
    P (ev.happen s) := by
  cases ev with
  | feedEnd => exact k.ftx s _ h
  | candidateTimeout => exact k.candidateLate h
  | missing x => exact k.takeMissing x h
  | absent x => exact k.takeAbsent x h
  | revert => exact k.revertExpires h
  | filter i => exact (l i).filterReached s h
  | quiet i => exact (l i).leaveChatter s hi h
  | discrepancy u => exact k.expireDiscrepancy u h
  | periodic => exact k.evalPeriodic h
  | window => exact k.goOverdue h
  | saveEnd => exact k.saveEnds h
  | autosave => exact k.autosaveReached h
  | gap => exact n _ _ (n s _ h)
  | reply => exact n s _ h

theorem Kept.clockKeeps (k : Kept P) (t : KeptTime P) (n : KeptLink P) (l : KeptLines P) : StandingKeeps P where
  pass := t.pass
  boundary := fun _ h => k.boundaryWork h
  draw := k.draw
  event := fun _ ev hi h => k.event n l ev hi h

/-- The end of a save that a command names (R175). -/
theorem Kept.saveEnd (k : Kept P) (c : KeptTime P) (n : KeptLink P) (l : KeptLines P) (ok : Bool) {t : State} (he : execSaveEnd ok s = .next t) (h : P s) :
    P t := by
  unfold execSaveEnd at he
  split at he
  · cases he; exact h
  · rename_i f _
    have hr : P (s.runToE (f.start + saveShortest)) := (k.clockKeeps c n l).runTo _ h
    dsimp only at he
    split at he
    · rename_i hf
      cases he; exact k.endSave f ok hf hr
    · cases he; exact hr

/-! ### Samples (Chapters 2 and 3) -/

/-- A step of station time with its record and its report to the minute tracker (R8). -/
theorem Kept.stepTo (k : Kept P) (step : ∀ s ns, P s → P (s.setTsc (s.tsc.stepTo ns))) (ns : Int) (r : StepReason)
    (leaving : Bool) (h : P s) : P (s.stepTo ns r leaving) := by
  have h1 := k.reportStep (stepAmount s.tsc.totalNs (s.tsc.stepTo ns).totalNs) r (step s ns h)
  simp only [State.stepTo]
  split
  · exact k.trackLeave h1
  · exact k.trackChange _ _ h1

theorem KeptSamples.discSample (m : KeptSamples P) (k : Kept P) (src : Source) (e : Int) (epoch cls : Nat) (h : P s) :
    P (s.discSample src e epoch cls) := by
  simp only [State.discSample]
  split
  · exact k.discMissing h
  · split
    · exact k.evalSelection _ (m.sample _ _ _ _ _ _ (k.dscQuiet s _ rfl rfl rfl h))
    · exact m.sample _ _ _ _ _ _ h
    · exact m.sample _ _ _ _ _ _ h
    · split
      · exact m.sample _ _ _ _ _ _ h
      · exact m.sample _ _ _ _ _ _ (k.dscQuiet s _ rfl rfl rfl h)

theorem KeptSamples.takeRefEvent (m : KeptSamples P) (k : Kept P) (x : Source) (ev : RefEvent) (h : P s) :
    P (s.takeRefEvent x ev) := by
  have h1 := k.sourceMoved x (s.rrx.src x).state
    (k.rrx s (s.rrx.setSrc x ((s.rrx.src x).take s.cfg s.dsc.state.supervised s.dsc.u ev)) (Receiver.calmTo_setSrc _ _ _) h)
  simp only [State.takeRefEvent, State.handToDsc]
  split
  · split
    · exact m.discSample k _ _ _ _ h1
    · exact h1
    · exact k.discMissing h1
  · exact h1

theorem KeptSamples.takeFrame (m : KeptSamples P) (k : Kept P) (mark : Latch) (msg : StationMessage) (check : BitVec 16)
    (h : P s) : P (s.takeFrame mark msg check) := by
  simp only [State.takeFrame]
  split
  · exact k.discard _ _ h
  · exact k.eitherOrder (fun _ h => k.takeLeapInfo msg h) (fun _ h => m.takeRefEvent k _ _ h)
      (k.rrx s _ (.inr ⟨rfl, rfl⟩) h)

theorem KeptSamples.completeChar (m : KeptSamples P) (k : Kept P) (v : Byte) (h : P s) : P (s.completeChar v) := by
  simp only [State.completeChar]
  split
  · exact h
  · have h1 (r : Receiver) : P (s.setRrx r) := m.chars s r h
    split
    · simp only [State.searchPair]
      split
      · exact h1 _
      · split
        · simp only [State.openCandidate]
          split
          · exact m.chars _ _ (h1 _)
          · exact k.discard _ _ (h1 _)
        · exact h1 _
    · simp only [State.appendChar]
      split
      · exact k.discard _ _ (h1 _)
      · split
        · exact m.chars _ _ (h1 _)
        · split
          · exact m.takeFrame k _ _ _ (h1 _)
          · exact k.discard _ _ (h1 _)

theorem Kept.beginChar (k : Kept P) (h : P s) : P s.beginChar := k.rrx s _ (.inl ⟨rfl, rfl⟩) h

theorem KeptSamples.takeChar (m : KeptSamples P) (k : Kept P) (v : Byte) (h : P s) : P (s.takeChar v) :=
  m.completeChar k v (k.beginChar h)

theorem KeptSamples.takeCharMoment (m : KeptSamples P) (k : Kept P) (moment : SerialMoment) (h : P s) :
    P (s.takeCharMoment moment) := by
  cases moment with
  | begins => exact k.beginChar h
  | completes v => exact m.completeChar k v h

theorem Kept.refaBreak (k : Kept P) {t : State} (he : execRefaBreak s = .next t) (h : P s) : P t := by
  unfold execRefaBreak at he
  split at he <;> cases he
  · exact k.rrx s _ (.inr (Receiver.discarded_forgets _ _)) h
  · exact k.discard _ _ h

theorem KeptSamples.refbPulse (m : KeptSamples P) (k : Kept P) {t : State} (he : execRefbPulse s = .next t) (h : P s) :
    P t := by
  unfold execRefbPulse at he
  split at he <;> cases he
  · exact k.rrx s _ (.inl ⟨rfl, rfl⟩) h
  · exact m.takeRefEvent k _ _ (k.rrx s _ (.inl ⟨rfl, rfl⟩) h)

theorem KeptSamples.hostSet (m : KeptSamples P) (k : Kept P) (ns u : Nat) (h : P s) : P (s.hostSet ns u) := by
  have h1 := k.stepTo m.step (ns : Int) .hostSet (decide (s.dsc.state = .free)) h
  have h2 := k.dscEval _ ((s.stepTo ns .hostSet (decide (s.dsc.state = .free))).dsc.hostSet u
    (s.stepTo ns .hostSet (decide (s.dsc.state = .free))).cfg.slewLimit) (.inr (clampInt_limit _ _)) rfl h1
  simp only [State.hostSet, State.reportMove]
  split
  · exact h2
  · split
    · exact k.evalSelection _ (k.reportDisc _ h2)
    · exact k.reportDisc _ h2

/-! ### What the owning blocks answer (R185 case 4) -/

/-- A request whose owner keeps the property keeps it (R184, R185). -/
theorem KeptLink.takeRequest (k : KeptLink P) (kind : Kind) (tag : Byte) (serve : State → State × Answer)
    (hs : P s → P (serve s).1) (h : P s) : P (s.takeRequest kind tag serve) := by
  simp only [State.takeRequest]
  split_ifs
  · exact k s _ h
  · exact k s _ h
  · exact k _ _ (hs h)

theorem Kept.serveStat (k : Kept P) (h : P s) : P (serveStat s).1 := by
  exact k.notices s _ (NoticeUnit.clear_consistent _ _).keepsTo h

theorem Kept.servePinj (k : Kept P) (source : Byte) (value : BitVec 32) (count : Byte) (h : P s) :
    P (servePinj source value count s).1 := by
  simp only [Machine.servePinj]
  split
  · exact h
  · split
    · exact h
    · exact k.rrx s _ (Receiver.calmTo_setSrc _ _ _) h

theorem Kept.serveRefs (k : Kept P) (selector : Byte) (h : P s) : P (serveRefs selector s).1 := by
  simp only [Machine.serveRefs]
  split_ifs
  · exact h
  · exact k.rrx s _ (.inl ⟨rfl, rfl⟩) h
  · exact h

theorem KeptSamples.serveTset (m : KeptSamples P) (k : Kept P) (seconds : BitVec 40) (micros : BitVec 24)
    (uncertainty : BitVec 32) (h : P s) : P (serveTset seconds micros uncertainty s).1 := by
  simp only [Machine.serveTset]
  split
  · exact h
  · exact h
  all_goals
    split
    · exact h
    · exact m.hostSet k _ _ h

theorem Kept.serveTacq (k : Kept P) (h : P s) : P (serveTacq s).1 := by
  simp only [Machine.serveTacq]
  split
  · exact k.reportDisc _ (k.dscEval s { s.dsc.restart with state := .acquire, oneShot := true, lock := 0 }
      (.inl rfl) rfl h)
  · exact h

theorem Kept.serveEinj (k : Kept P) (line level : Byte) (h : P s) : P (serveEinj line level s).1 := by
  simp only [Machine.serveEinj]
  split_ifs
  · exact h
  · exact h
  · exact k.injectLine _ _ h

theorem KeptLines.serveLnst (l : KeptLines P) (selector : Byte) (h : P s) : P (serveLnst selector s).1 := by
  simp only [Machine.serveLnst]
  split_ifs
  · exact forAll_keeps P _ _ (fun i _ s h => (l i).clearBounce s h) s h
  · exact (l _).clearBounce s h
  · exact h

theorem Kept.serveEfls (k : Kept P) (h : P s) : P (serveEfls s).1 :=
  k.placeSeq _ (k.queue s _ EventQueue.flush_consistent h)

theorem Kept.serveEfch (k : Kept P) (wanted : Byte) (h : P s) : P (serveEfch wanted s).1 := by
  simp only [Machine.serveEfch]
  split
  · rename_i hw
    exact k.queue s _ (EventQueue.deliver_consistent hw.2) h
  · exact h

theorem Kept.serveErel (k : Kept P) (seq : BitVec 32) (h : P s) : P (serveErel seq s).1 := by
  simp only [Machine.serveErel]
  split
  · exact h
  · exact k.evalWatermark (k.queue s _ (EventQueue.release_consistent _) h)

theorem Kept.serveTlrd (unit : Byte) (h : P s) : P (serveTlrd unit s).1 := by
  simp only [Machine.serveTlrd]
  split <;> exact h

theorem KeptPreset.serveTlps (o : KeptPreset P) (selector n field : Byte) (value : BitVec 32) (h : P s) :
    P (serveTlps selector n field value s).1 := by
  simp only [Machine.serveTlps]
  split
  · split
    · exact forAll_keeps P _ _ (fun u _ s h => o s _ _ u h) s h
    · exact h
  · exact h

theorem Kept.serveMset (k : Kept P) (selector n : Byte) (limit : BitVec 32) (h : P s) :
    P (serveMset selector n limit s).1 := by
  simp only [Machine.serveMset]
  split
  · exact forAll_keeps P _ _ (fun u _ _ h => k.limitUnit _ u h) s h
  · exact h

theorem Kept.serveSchw (k : Kept P) (xs : List ScheduleWrite) (h : P s) : P (serveSchw xs s).1 := by
  simp only [Machine.serveSchw]
  split
  · exact k.setSchedule _ h
  · exact h

/-- The release or accept flag set (R157, R158). -/
theorem Kept.flags (k : Kept P) (r a : Bool) (h : P s) : P (s.setShu { s.shu with release := r, accept := a }) :=
  k.handover s _ _ r a _ h

theorem Kept.serveHrel (k : Kept P) (crew : Byte) (h : P s) : P (serveHrel crew s).1 := by
  simp only [Machine.serveHrel]
  split_ifs
  · exact h
  · exact h
  · exact h
  · exact h
  · exact k.completeIfReady (k.flags _ _ h)

theorem Kept.serveHacc (k : Kept P) (crew : Byte) (h : P s) : P (serveHacc crew s).1 := by
  simp only [Machine.serveHacc]
  split_ifs
  · exact h
  · exact h
  · exact h
  · exact h
  · exact k.completeIfReady (k.flags _ _ h)

theorem Kept.serveHopn (k : Kept P) (crew : Byte) (window : Option Byte) (h : P s) : P (serveHopn crew window s).1 := by
  simp only [Machine.serveHopn]
  split
  · exact h
  · split
    · exact h
    · exact k.openHandover _ _ h

theorem Kept.serveTack (k : Kept P) (crew : Byte) (seq : BitVec 32) (h : P s) : P (serveTack crew seq s).1 := by
  simp only [Machine.serveTack]
  split_ifs
  · exact h
  · exact h
  · exact k.completeIfReady (k.trips s _ _ (tripsConsistent_sublist List.eraseP_sublist) h)
  · exact h

theorem Kept.serveTackAll (k : Kept P) (crew : Byte) (h : P s) : P (serveTackAll crew s).1 := by
  simp only [Machine.serveTackAll]
  split_ifs
  · exact h
  · exact h
  · exact k.completeIfReady (k.trips s [] false (tripsConsistent_sublist (List.nil_sublist _)) h)

theorem Kept.serveShhs (index : Byte) (h : P s) : P (serveShhs index s).1 := by
  simp only [Machine.serveShhs]
  split <;> exact h

theorem KeptConfig.serveCfgw (c : KeptConfig P) (item index : Byte) (value : BitVec 32) (h : P s) :
    P (serveCfgw item index value s).1 := by
  simp only [Machine.serveCfgw]
  split
  · exact h
  · rename_i it hit
    have hi : index.toNat ∈ it.scope.indices := by
      have := ((itemAt_eq_some item index it).1 hit).1
      rwa [mem_entries] at this
    simp only [State.writeItem]
    split
    · exact h
    · split_ifs with hc hv
      · exact h
      · exact h
      · exact c.storeItem s it _ _ hi hv h

theorem Kept.serveCfgr (item index : Byte) (h : P s) : P (serveCfgr item index s).1 := by
  simp only [Machine.serveCfgr]
  split <;> exact h

/-- RSTRT as LKC takes it (R190). -/
theorem KeptRun.takeRestart (a : KeptRun P) (tag : Byte) (h : P s) : P (s.takeRestart tag) := by
  simp only [State.takeRestart]
  split_ifs
  · exact a.link s _ h
  · exact a.link s _ h
  · exact a.config.restart _ (a.link s _ h)

/-- The bodies that a kind takes, and what its owner does with each (12.4): `Kind.serve` as a relation. -/
inductive Serves : Kind → List Byte → (State → State × Answer) → Prop
  | stat : Serves .stat [] serveStat
  | lstat : Serves .lstat [] serveLstat
  | idnt : Serves .idnt [] serveIdnt
  | rstrt : Serves .rstrt [] (fun s => (s, { result := .ok }))
  | cfgw (item index a b c d : Byte) : Serves .cfgw [item, index, a, b, c, d] (serveCfgw item index (field32 a b c d))
  | cfgr (item index : Byte) : Serves .cfgr [item, index] (serveCfgr item index)
  | save : Serves .save [] serveSave
  | dflt : Serves .dflt [] serveDflt
  | trd : Serves .trd [] serveTrd
  | tset (s0 s1 s2 s3 s4 m0 m1 m2 u0 u1 u2 u3 : Byte) :
      Serves .tset [s0, s1, s2, s3, s4, m0, m1, m2, u0, u1, u2, u3]
        (serveTset (s0 ++ s1 ++ s2 ++ s3 ++ s4) (m0 ++ m1 ++ m2) (field32 u0 u1 u2 u3))
  | tacq : Serves .tacq [] serveTacq
  | refs (selector : Byte) : Serves .refs [selector] (serveRefs selector)
  | disc : Serves .disc [] serveDisc
  | pinj (source a b c d count : Byte) :
      Serves .pinj [source, a, b, c, d, count] (servePinj source (field32 a b c d) count)
  | efch (wanted : Byte) : Serves .efch [wanted] (serveEfch wanted)
  | erel (a b c d : Byte) : Serves .erel [a, b, c, d] (serveErel (field32 a b c d))
  | efls : Serves .efls [] serveEfls
  | lnst (selector : Byte) : Serves .lnst [selector] (serveLnst selector)
  | einj (line level : Byte) : Serves .einj [line, level] (serveEinj line level)
  | tlrd (unit : Byte) : Serves .tlrd [unit] (serveTlrd unit)
  | tlps (selector n field a b c d : Byte) :
      Serves .tlps [selector, n, field, a, b, c, d] (serveTlps selector n field (field32 a b c d))
  | mset (selector n a b c d : Byte) : Serves .mset [selector, n, a, b, c, d] (serveMset selector n (field32 a b c d))
  | schw (count : Byte) (rest : List Byte) (xs : List ScheduleWrite) :
      schwEntries count.toNat rest = some xs → Serves .schw (count :: rest) (serveSchw xs)
  | schr : Serves .schr [] serveSchr
  | shst : Serves .shst [] serveShst
  | hopn (crew : Byte) : Serves .hopn [crew] (serveHopn crew none)
  | hopnWindow (crew window : Byte) : Serves .hopn [crew, window] (serveHopn crew (some window))
  | hrel (crew : Byte) : Serves .hrel [crew] (serveHrel crew)
  | hacc (crew : Byte) : Serves .hacc [crew] (serveHacc crew)
  | tack (crew selector a b c d : Byte) :
      Serves .tack [crew, selector, a, b, c, d] (serveTackSelector crew selector (field32 a b c d))
  | shhs (index : Byte) : Serves .shhs [index] (serveShhs index)

/-- A body that its kind takes has the kind's length; a body of any other length is taken by none (R185 case 2). -/
theorem serves_of_serve {kind : Kind} {body : List Byte} {f : State → State × Answer}
    (hf : kind.serve body = some f) : Serves kind body f := by
  cases kind
  case stat | lstat | idnt | rstrt | save | dflt | trd | tacq | disc | efls | schr | shst =>
    cases body with
    | nil => cases hf; constructor
    | cons a rest => exact nomatch hf
  case refs | efch | lnst | tlrd | hrel | hacc | shhs =>
    match body, hf with
    | [a], hf => cases hf; constructor
    | [], hf | _ :: _ :: _, hf => exact nomatch hf
  case cfgr | einj =>
    match body, hf with
    | [a, b], hf => cases hf; constructor
    | [], hf | [_], hf | _ :: _ :: _ :: _, hf => exact nomatch hf
  case hopn =>
    match body, hf with
    | [a], hf => cases hf; constructor
    | [a, b], hf => cases hf; constructor
    | [], hf | _ :: _ :: _ :: _, hf => exact nomatch hf
  case erel =>
    match body, hf with
    | [a, b, c, d], hf => cases hf; constructor
    | [], hf | [_], hf | [_, _], hf | [_, _, _], hf | _ :: _ :: _ :: _ :: _ :: _, hf => exact nomatch hf
  case cfgw | pinj | tack | mset =>
    match body, hf with
    | [a, b, c, d, e, f], hf => cases hf; constructor
    | [], hf | [_], hf | [_, _], hf | [_, _, _], hf | [_, _, _, _], hf | [_, _, _, _, _], hf
    | _ :: _ :: _ :: _ :: _ :: _ :: _ :: _, hf => exact nomatch hf
  case tlps =>
    match body, hf with
    | [a, b, c, d, e, f, g], hf => cases hf; constructor
    | [], hf | [_], hf | [_, _], hf | [_, _, _], hf | [_, _, _, _], hf | [_, _, _, _, _], hf | [_, _, _, _, _, _], hf
    | _ :: _ :: _ :: _ :: _ :: _ :: _ :: _ :: _, hf => exact nomatch hf
  case tset =>
    match body, hf with
    | [s0, s1, s2, s3, s4, m0, m1, m2, u0, u1, u2, u3], hf => cases hf; constructor
    | [], hf | [_], hf | [_, _], hf | [_, _, _], hf | [_, _, _, _], hf | [_, _, _, _, _], hf | [_, _, _, _, _, _], hf
    | [_, _, _, _, _, _, _], hf | [_, _, _, _, _, _, _, _], hf | [_, _, _, _, _, _, _, _, _], hf
    | [_, _, _, _, _, _, _, _, _, _], hf | [_, _, _, _, _, _, _, _, _, _, _], hf
    | _ :: _ :: _ :: _ :: _ :: _ :: _ :: _ :: _ :: _ :: _ :: _ :: _ :: _, hf => exact nomatch hf
  case schw =>
    cases body with
    | nil => exact nomatch hf
    | cons count rest =>
      obtain ⟨xs, hx, rfl⟩ := Option.map_eq_some_iff.1 (show (schwEntries count.toNat rest).map serveSchw = some f from hf)
      exact .schw count rest xs hx
/-- Whatever a frame asks for (R185 case 4, 12.4). -/
theorem KeptRun.serve (a : KeptRun P) (tset : ∀ seconds micros u, P s → P (serveTset seconds micros u s).1)
    (o : KeptPreset P) (kind : Kind) (body : List Byte) {f : State → State × Answer}
    (hf : kind.serve body = some f) (h : P s) : P (f s).1 := by
  cases serves_of_serve hf with
  | stat => exact a.base.serveStat h
  | lstat => exact a.link s _ h
  | idnt | rstrt | trd | disc | schr | shst => exact h
  | cfgw => exact a.config.serveCfgw _ _ _ h
  | cfgr => exact Kept.serveCfgr _ _ h
  | save => exact a.base.requestSave _ h
  | dflt => exact a.config.takeDefaults s h
  | tset => exact tset _ _ _ h
  | tacq => exact a.base.serveTacq h
  | refs => exact a.base.serveRefs _ h
  | pinj => exact a.base.servePinj _ _ _ h
  | efch => exact a.base.serveEfch _ h
  | erel => exact a.base.serveErel _ h
  | efls => exact a.base.serveEfls h
  | lnst => exact a.lines.serveLnst _ h
  | einj => exact a.base.serveEinj _ _ h
  | tlrd => exact Kept.serveTlrd _ h
  | tlps => exact o.serveTlps _ _ _ _ h
  | mset => exact a.base.serveMset _ _ _ h
  | schw count rest xs => exact a.base.serveSchw xs h
  | hopn => exact a.base.serveHopn _ _ h
  | hopnWindow => exact a.base.serveHopn _ _ h
  | hrel => exact a.base.serveHrel _ h
  | hacc => exact a.base.serveHacc _ h
  | shhs => exact Kept.serveShhs _ h
  | tack crew selector =>
    simp only [serveTackSelector]
    split_ifs
    · exact a.base.serveTack _ _ h
    · exact a.base.serveTackAll _ h
    · exact h

/-! ### Frames and bytes on the link (R183 to R185) -/

theorem KeptRun.takeGoodFrame (a : KeptRun P) (m : KeptSamples P) (o : KeptPreset P) (kind tag : Byte) (body : List Byte) (h : P s) :
    P (s.takeGoodFrame kind tag body) := by
  simp only [State.takeGoodFrame]
  split
  · exact a.link s _ h
  · split
    · exact a.link s _ h
    · rename_i hf
      split
      · exact a.takeRestart tag h
      · exact a.link.takeRequest _ _ _ (a.serve (m.serveTset a.base) o _ _ hf) h

theorem KeptRun.judgeFrameBytes (a : KeptRun P) (m : KeptSamples P) (o : KeptPreset P) (kind tag : Byte) (body : List Byte)
    (check : BitVec 16) (h : P s) : P (s.judgeFrameBytes kind tag body check) := by
  simp only [State.judgeFrameBytes]
  split_ifs
  · exact a.link s _ h
  · exact a.link s _ h
  · exact a.takeGoodFrame m o _ _ _ h

/-- What a byte keeps that no change of the frame in assembly touches, nor the judgement of a complete frame (R183). -/
theorem takeByteMoment_keeps (lkc : ∀ s x, x.reply = s.lkc.reply → P s → P (s.setLkc x))
    (judge : ∀ s kind tag body check, P s → P (s.judgeFrameBytes kind tag body check)) (moment : SerialMoment) (h : P s) :
    P (s.takeByteMoment moment) := by
  have ended (s : State) (h : P s) : P s.endFrame := lkc s _ rfl h
  have frame (s : State) (xs : List Byte) (h : P s) : P (s.inFrame xs) := lkc s _ rfl h
  have error (s : State) (h : P s) : P (s.linkError .length) := lkc s _ rfl h
  cases moment with
  | begins =>
    simp only [State.takeByteMoment]
    split
    · exact h
    · exact lkc s _ rfl h
  | completes value =>
    simp only [State.takeByteMoment, State.completeByte]
    split
    · have h1 : P (s.setLkc { s.lkc with begun := false }) := lkc s _ rfl h
      split
      · split
        · exact frame _ _ h1
        · exact lkc _ _ rfl h1
      · simp only [State.frameByte]
        split
        · split_ifs
          · exact error _ (ended _ h1)
          · simp only [State.completeFrame]
            split
            · exact judge _ _ _ _ _ (ended _ h1)
            · exact ended _ h1
          · exact frame _ _ h1
        · exact frame _ _ h1
    · exact h

/-- What the bytes of a frame keep whose LEN is above 250 (R183). -/
theorem takeLongFrame_keeps (lkc : ∀ s x, x.reply = s.lkc.reply → P s → P (s.setLkc x))
    (judge : ∀ s kind tag body check, P s → P (s.judgeFrameBytes kind tag body check)) (kind tag : Byte)
    (body : List Byte) (check : BitVec 16) (h : P s) : P (s.takeLongFrame kind tag body check) :=
  forAll_keeps P _ _ (fun _ _ _ h => takeByteMoment_keeps lkc judge _ (takeByteMoment_keeps lkc judge _ h)) _
    (lkc s.endFrame _ rfl (lkc s _ rfl h))

theorem KeptRun.takeByteMoment (a : KeptRun P) (m : KeptSamples P) (o : KeptPreset P) (moment : SerialMoment) (h : P s) :
    P (s.takeByteMoment moment) :=
  takeByteMoment_keeps (fun s x _ => a.link s x) (fun _ _ _ _ _ => a.judgeFrameBytes m o _ _ _ _) moment h

theorem KeptRun.takeLongFrame (a : KeptRun P) (m : KeptSamples P) (o : KeptPreset P) (kind tag : Byte)
    (body : List Byte) (check : BitVec 16) (h : P s) : P (s.takeLongFrame kind tag body check) :=
  takeLongFrame_keeps (fun s x _ => a.link s x) (fun _ _ _ _ _ => a.judgeFrameBytes m o _ _ _ _) kind tag body check h

theorem KeptRun.takeFrameBytes (a : KeptRun P) (m : KeptSamples P) (o : KeptPreset P) (kind tag : Byte)
    (body : List Byte) (check : BitVec 16) (h : P s) : P (s.takeFrameBytes kind tag body check) := by
  simp only [State.takeFrameBytes]
  split
  · exact a.judgeFrameBytes m o _ _ _ _ h
  · exact a.takeLongFrame m o _ _ _ _ h

/-- Up to 61 entries make an SCHW frame that its LEN allows (R182). -/
theorem schwBody_fits (xs : List ScheduleWrite) : (schwBody xs).length + 2 ≤ maxRequestLen ↔ xs.length ≤ 61 := by
  rw [schwBody, List.length_cons, Laws.length_entryBytes]
  unfold maxRequestLen
  omega

/-! ### HOLDUP (R179) -/

theorem Kept.holdupAssertion (k : Kept P) {t : State} (he : execHoldupAssertion s = .next t) (h : P s) : P t := by
  unfold execHoldupAssertion at he
  split at he <;> cases he
  · exact h
  · exact k.hand _ _ (k.requestSave _ (k.setHoldup _ h))

theorem Kept.holdupRelease (k : Kept P) {t : State} (he : execHoldupRelease s = .next t) (h : P s) : P t := by
  unfold execHoldupRelease at he
  split at he <;> cases he
  · exact k.hand _ _ (k.setHoldup _ h)
  · exact h

/-! ### Every command -/

/-- The commands in which a sample may be taken or station time set: REF-A characters and frames, pulses, TSET, and the
frames and bytes that may carry a TSET. -/
def sampling : Instr → Bool
  | .refaFrame .. | .refaCharacter .. | .refbPulse | .tset .. | .requestFrame .. | .linkByte .. => true
  | .schw _ entries => decide (61 < entries.length)
  | _ => false

/-- A property that everything keeps is kept by every command; samples, presets and loads are asked of it for those
commands alone that may bring one. -/
theorem exec_keeps (a : KeptRun P) {c : Instr} (m : sampling c = true → KeptSamples P)
    (o : mayPreset c = true → KeptPreset P)
    (p : ∀ straps pins b, c = .powerOnReset straps pins b → ∀ s, P s → P (s.powerOn straps pins b)) {t : State}
    (he : exec c s = .next t) (h : P s) : P t := by
  have k := a.base
  have clock := a.base.clockKeeps a.time a.link a.lines
  have link := a.link
  have next {t' : State} (ht : P t') (he : Host.Outcome.next t' = (.next t : Host.Outcome State Fault Refusal)) : P t := by
    cases he; exact ht
  have guarded {b : Prop} [Decidable b] {f : Fault} {t' : State} (ht : P t')
      (he : (if b then .next t' else .fault f) = (.next t : Host.Outcome State Fault Refusal)) : P t := by
    split at he
    · exact next ht he
    · exact nomatch he
  cases c with
  | powerOnReset straps pins holdup => exact next (p _ _ _ rfl s h) he
  | rstrt tag => exact next (a.takeRestart tag h) he
  | holdupAssertion => exact k.holdupAssertion he h
  | holdupRelease => exact k.holdupRelease he h
  | secondBoundary => exact next (clock.runTo _ h) he
  | feedTransmissionEnd => exact next (clock.await _ _ h) he
  | trd tag => exact next (link.takeRequest _ _ _ id h) he
  | refaFrame m check => exact next (forAll_keeps P _ _ (fun v _ _ h => (m rfl).takeChar k v h) s h) he
  | candidateTimeout => exact next (clock.await _ _ h) he
  | refaBreak => exact k.refaBreak he h
  | refbPulse => exact (m rfl).refbPulse k he h
  | missingSample x => exact next (clock.await _ _ h) he
  | sourceAbsent x => exact next (clock.await _ _ h) he
  | revertTimerExpiry => exact next (clock.await _ _ h) he
  | pinj tag source value count => exact next (link.takeRequest _ _ _ (k.servePinj _ _ _) h) he
  | refs tag selector => exact next (link.takeRequest _ _ _ (k.serveRefs _) h) he
  | tset tag seconds micros u => exact next (link.takeRequest _ _ _ ((m rfl).serveTset k _ _ _) h) he
  | tacq tag => exact next (link.takeRequest _ _ _ k.serveTacq h) he
  | disc tag => exact next (link.takeRequest _ _ _ id h) he
  | rawEdge i b => exact guarded ((a.lines i).pinChange s b h) he
  | filterExpiry i => exact guarded (clock.await _ _ h) he
  | quietTimerExpiry i => exact guarded (clock.await _ _ h) he
  | einj tag line level => exact next (link.takeRequest _ _ _ (k.serveEinj _ _) h) he
  | lnst tag selector => exact next (link.takeRequest _ _ _ (a.lines.serveLnst _) h) he
  | efls tag => exact next (link.takeRequest _ _ _ k.serveEfls h) he
  | efch tag wanted => exact next (link.takeRequest _ _ _ (k.serveEfch _) h) he
  | erel tag seq => exact next (link.takeRequest _ _ _ (k.serveErel _) h) he
  | discrepancyTimerExpiry u => exact guarded (clock.await _ _ h) he
  | tlrd tag u => exact next (link.takeRequest _ _ _ (Kept.serveTlrd _) h) he
  | tlps tag selector n field value => exact next (link.takeRequest _ _ _ ((o rfl).serveTlps _ _ _ _) h) he
  | periodicEvaluation => exact next (clock.await _ _ h) he
  | mset tag selector n limit => exact next (link.takeRequest _ _ _ (k.serveMset _ _ _) h) he
  | schw tag xs =>
    have he : execSchw tag xs s = .next t := he
    simp only [execSchw] at he
    split at he
    · exact next (link.takeRequest _ _ _ (k.serveSchw _) h) he
    · rename_i hl
      have long : 61 < xs.length := by
        rw [schwBody_fits] at hl
        omega
      exact next (a.takeLongFrame (m (decide_eq_true long)) (o (decide_eq_true long)) _ _ _ _ h) he
  | schr tag => exact next (link.takeRequest _ _ _ id h) he
  | hrel tag crew => exact next (link.takeRequest _ _ _ (k.serveHrel _) h) he
  | hacc tag crew => exact next (link.takeRequest _ _ _ (k.serveHacc _) h) he
  | windowTimerExpiry => exact next (clock.await _ _ h) he
  | hopn tag crew window => exact next (link.takeRequest _ _ _ (k.serveHopn _ _) h) he
  | tack tag crew seq => exact next (link.takeRequest _ _ _ (k.serveTack _ _) h) he
  | tackAll tag crew => exact next (link.takeRequest _ _ _ (k.serveTackAll _) h) he
  | shhs tag index => exact next (link.takeRequest _ _ _ (Kept.serveShhs _) h) he
  | shst tag => exact next (link.takeRequest _ _ _ id h) he
  | saveEnd ok => exact k.saveEnd a.time a.link a.lines ok he h
  | save tag => exact next (link.takeRequest _ _ _ (k.requestSave _) h) he
  | autosaveExpiry => exact next (clock.await _ _ h) he
  | dflt tag => exact next (link.takeRequest _ _ _ (a.config.takeDefaults _) h) he
  | requestFrame kind tag body check => exact next (a.takeFrameBytes (m rfl) (o rfl) _ _ _ _ h) he
  | gapExpiry => exact next (clock.await _ _ h) he
  | replyEnd => exact next (clock.await _ _ h) he
  | stat tag => exact next (link.takeRequest _ _ _ k.serveStat h) he
  | lstat tag => exact next (link.takeRequest _ _ _ (link s _) h) he
  | idnt tag => exact next (link.takeRequest _ _ _ id h) he
  | cfgw tag item index value => exact next (link.takeRequest _ _ _ (a.config.serveCfgw _ _ _) h) he
  | cfgr tag item index => exact next (link.takeRequest _ _ _ (Kept.serveCfgr _ _) h) he
  | refaCharacter moment stopHigh => exact next ((m rfl).takeCharMoment k moment h) he
  | linkByte moment => exact next (a.takeByteMoment (m rfl) (o rfl) moment h) he
  | unusedLinePinChange i b => exact guarded ((a.lines i).pinChange s b h) he

/-- A property that says nothing of the waiting commands and that everything keeps is kept by every step. -/
theorem step_keeps (a : KeptRun P) (m : KeptSamples P) (o : KeptLoads P) (waiting : ∀ s q, P s → P { s with pending := q }) {t : State}
    (he : step s = .next t) (h : P s) : P t := by
  unfold step at he
  split at he
  · cases he
    exact (a.base.clockKeeps a.time a.link a.lines).tick a.time.frac (fun s h => waiting _ _ (a.base.draw s (s.draws + 1) h)) h
  · exact exec_keeps a (fun _ => m) (fun _ => o.preset) (fun _ _ _ _ s h => o.powerOn s _ _ _ h) he (waiting s _ h)

/-! ### Properties that a whole block may change under

What a property that says nothing of DSC, of the lines or of the configuration keeps of them. -/

/-- A property that any DSC and a step of station time keep is kept by a processed sample. -/
theorem KeptSamples.of_free (k : Kept P) (rrx : ∀ s x, P s → P (s.setRrx x)) (dsc : ∀ s d, P s → P (s.setDsc d))
    (step : ∀ s ns, P s → P (s.setTsc (s.tsc.stepTo ns))) : KeptSamples P := by
  have evalClass (s : State) (h : P s) : P s.evalClass := by
    simp only [State.evalClass]
    split
    · exact h
    · exact k.current (s.setDsc _) _ rfl (Nat.le_max_left _ _) (dsc s _ h)
  have orderStep (s : State) (e : Int) (first : Bool) (h : P s) : P (s.orderStep e first) :=
    dsc _ _ (k.stepTo step _ _ _ h)
  refine ⟨rrx, step, fun s src e cls acq first h => ?_⟩
  unfold State.processSample
  extract_lets old d s1 s2 stepped s3 s4
  have h2 : P s2 := dsc _ _ (dsc s _ h)
  have h3 : P s3 := by
    simp only [s3]
    split_ifs
    · exact orderStep _ _ _ h2
    · exact k.trackLeave h2
    · exact h2
  have h4 : P s4 := evalClass _ (dsc _ _ h3)
  split
  · exact h4
  · exact k.reportDisc _ h4

/-- A property that any change of a line's own state keeps is kept by the changes of that line. -/
theorem KeptLine.of_free (k : Kept P) (i : Nat) (line : ∀ s x, P s → P (s.setLine i x)) : KeptLine P i := by
  have deliver (s : State) (b : Bool) (l : Latch) (h : P s) : P (s.deliver i b l) := k.handOn _ _ _ (line s _ h)
  have suppress (s : State) (p : PendingChange) (h : P s) : P (s.suppress i p) := by
    simp only [State.suppress]
    split
    · exact k.tripPath _ _ (line s _ h)
    · exact h
  have qualify (s : State) (p : PendingChange) (h : P s) : P (s.qualify i p) := by
    simp only [State.qualify]
    split_ifs
    · exact suppress _ _ (line s _ h)
    · exact deliver _ _ _ (line s _ h)
    · exact k.raise _ (k.place _ (line _ _ (suppress _ _ (line s _ h))))
  have startPending (s : State) (h : P s) : P (s.startPending i) := by
    simp only [State.startPending]
    split
    · exact qualify _ _ (line s _ h)
    · exact line s _ h
  have rawEdge (s : State) (h : P s) : P (s.rawEdge i) := by
    simp only [State.rawEdge]
    split
    · exact line _ _ (line s _ h)
    · exact startPending _ (line s _ h)
  refine ⟨fun s b h => ?_, fun s h => ?_, fun s _ h => ?_, fun s h => line s _ h⟩
  · simp only [State.pinChange]
    split_ifs
    · exact h
    · exact line s _ h
    · exact rawEdge _ (line s _ h)
  · simp only [State.filterReached]
    split
    · exact h
    · exact qualify s _ h
  · simp only [State.leaveChatter]
    split
    · exact deliver _ _ _ (line _ _ (k.place _ h))
    · exact line _ _ (k.place _ h)

/-- A property that any line keeps is kept by the changes of the lines. -/
theorem KeptLines.of_free (k : Kept P) (line : ∀ s i x, P s → P (s.setLine i x)) : KeptLines P :=
  fun i => .of_free k i (fun s x h => line s i x h)

/-- What the application of a changed item keeps, when a changed slew limit, a changed mask and a line's reset do
(R191). -/
theorem Kept.applyItem (k : Kept P) (old : Settings) (it : Item) (i : Nat)
    (slew : ∀ s, P s → P (s.setDsc (s.dsc.slewChanged s.cfg.slewLimit)).evalClass)
    (mask : ∀ s, P s → P (s.setNtc (s.ntc.withFlags s.ntc.flags s.cfg.noticeMask)))
    (line : ∀ s, P s → P (s.resetLine i)) (h : P s) : P (s.applyItem old it i) := by
  have unit (it : Item) : P (s.unitItemChanged it i) := by
    simp only [State.unitItemChanged]
    split
    · exact k.moveTimer _ (k.checkpointNow _ h)
    · exact k.checkpointNow _ h
  cases it
  case localOffset => exact k.trackMove _ h
  case prefSource => exact k.evalSelection _ h
  case revertDelay => exact k.moveRevert h
  case slewLimit => exact slew s h
  case freqWindow => exact k.dscQuiet s _ rfl rfl rfl h
  case lineKind | lineUnit | linePolarity => exact k.tellUnits _ (line s h)
  case watermark => exact k.evalWatermark h
  case autosaveHours => exact k.setAutosave h
  case noticeMask => exact mask s h
  case unitGroup | weightStill | weightSpin | weightGen | weightPump | weightCond | weightIndet | startWeight
      | tripWeight | modeRecord | discrepDelay =>
    simp only [State.applyItem]
    exact unit _
  all_goals exact h

/-- A write kept through its application is kept whole (R178, R191). -/
theorem Kept.storeItem_of (k : Kept P) {it : Item} {i : Nat} {v : Int}
    (h : P ((s.setCfg (it.written s.cfg i v)).applyItem s.cfg it i)) : P (s.storeItem it i v) := by
  simp only [State.storeItem]
  split
  · exact k.autosaveIfPassed (k.evalUnits _ h)
  · exact k.evalUnits _ h

/-- DFLT kept through the application of its changes is kept whole (R180). -/
theorem Kept.takeDefaults_of (k : Kept P)
    (h : ∀ n, P (forAll (freeOrder s.draws (changedEntries s.cfg Settings.dflt))
      (fun p => State.applyItem s.cfg p.1 p.2) ((s.setCfg Settings.dflt).setDraws n))) : P s.takeDefaults := by
  have h1 : P (((s.setCfg Settings.dflt).applyAll s.cfg).requestSave .dflt) := k.requestSave _ (k.evalUnits _ (h _))
  simp only [State.takeDefaults]
  split
  · exact h1
  · exact k.autosaveIfPassed h1

/-- A restart in two stages: `W` from the load to the discipline and the lines, which bring `P` back (R190). -/
theorem Kept.restart_of {W : State → Prop} (w : Kept W) (k : Kept P)
    (loaded : ∀ s c, P s → W ((s.setCfg c).setNtc (s.ntc.restart c.noticeMask)))
    (arrive : ∀ s, W s → P (Machine.eitherOrder State.restartDsc State.restartLines s)) (h : P s) : P s.restart := by
  have judged : P s.judgeStore.restartCheckpoint :=
    forAll_keeps P _ _ (fun u _ _ h => k.checkpointNow u h) _ (k.stcSame _ rfl rfl h)
  have queued (t : State) (ht : W t) : W t.restartQueue :=
    w.place _ (w.evalWatermark (w.queue t _ EventQueue.undeliver_consistent ht))
  have corrupt (t : State) (ht : W t) : W t.raiseIfCorrupt := by
    simp only [State.raiseIfCorrupt]
    split
    · exact w.raise _ ht
    · exact ht
  have offset (o : Int) (t : State) (ht : P t) : P (t.restartOffset o) := by
    simp only [State.restartOffset]
    split
    · exact ht
    · exact k.trackMove _ ht
  exact k.setAutosave (k.evalAll (k.eitherOrder (fun _ h => k.setSchedule _ h) (offset _)
    (arrive _ (w.rrx _ _ (.inr ⟨rfl, rfl⟩) (corrupt _ (queued _ (loaded _ _ judged)))))))

/-- DSC's part of a restart, its class evaluated (R62). -/
theorem Kept.restartDsc (k : Kept P) (h : P (s.setDsc (s.dsc.restarted s.cfg.slewLimit)).evalClass) : P s.restartDsc := by
  simp only [State.restartDsc]
  split
  · exact h
  · exact k.reportDisc _ h

/-- TLU's part of a restart, the lines sampled (R92, R131). -/
theorem Kept.restartLines (k : Kept P) (h : P s.resample) : P s.restartLines :=
  forAll_keeps P _ _ (fun u _ _ h => k.moveTimer u (k.rederive u h)) _ h

/-- A property that any DSC, any lines and any configuration keep is kept by the changes of the configuration. -/
theorem KeptConfig.of_free (k : Kept P) (dsc : ∀ s d, P s → P (s.setDsc d)) (lqu : ∀ s x, P s → P (s.setLqu x))
    (cfg : ∀ s c, P s → P (s.setCfg c)) : KeptConfig P := by
  have evalClass (s : State) (h : P s) : P s.evalClass := by
    simp only [State.evalClass]
    split
    · exact h
    · exact k.current (s.setDsc _) _ rfl (Nat.le_max_left _ _) (dsc s _ h)
  have resetLine (s : State) (i : Nat) (h : P s) : P (s.resetLine i) := by
    simp only [State.resetLine]
    split <;> exact lqu s _ h
  have applyItem (s : State) (old : Settings) (it : Item) (i : Nat) (h : P s) : P (s.applyItem old it i) :=
    k.applyItem old it i (fun s h => evalClass _ (dsc s _ h)) (fun s h => k.notices s _ ⟨id, fun c => ⟨rfl, c.2⟩⟩ h)
      (fun s h => resetLine s i h) h
  refine ⟨fun s it i v _ _ h => ?_, fun s h => ?_, fun s h => ?_⟩
  · exact k.storeItem_of (applyItem _ s.cfg it i (cfg s _ h))
  · exact k.takeDefaults_of fun n => forAll_keeps P _ _ (fun p _ s h => applyItem s _ _ _ h) _ (k.draw _ _ (cfg s _ h))
  · refine k.restart_of k (fun s c h => ?_) (fun s h => ?_) h
    · exact k.notices (s.setCfg c) _ (NoticeUnit.restart_consistent _ _).keepsTo (cfg s c h)
    · exact k.eitherOrder (fun s h => k.restartDsc (evalClass _ (dsc s _ h))) (fun s h => k.restartLines (lqu s _ h)) h

end Sys2Proof.Machine

/-! PROOFS. The properties that most blocks have no part in: the queue's order, the range of station time, the tallies
that only grow, and the commands that the part can receive. -/

namespace Sys2Proof.Machine

variable {P : State → Prop}

/-! ### Properties that whole blocks may change under -/

/-- A property that the discipline, the shift and the feed have no part in: what is left to ask
of it. -/
structure KeptApart (P : State → Prop) : Prop where
  tracker : ∀ s m, P s → P (s.setTracker m)
  fired : ∀ s x, P s → P (s.setTsc { s.tsc with lastFired := x })
  leap : ∀ s l p, P s → P (s.setTsc { s.tsc with leap := l, pendingLeap := p })
  draw : ∀ s n, P s → P (s.setDraws n)
  rrx : ∀ s x, s.rrx.CalmTo x → P s → P (s.setRrx x)
  ftx : ∀ s x, P s → P (s.setFtx x)
  dsc : ∀ s x, P s → P (s.setDsc x)
  shu : ∀ s x, P s → P (s.setShu x)
  stc : ∀ s x, P s → P (s.setStc x)
  queue : ∀ s q, (s.evq.consistent → q.consistent) → P s → P (s.setEvq q)
  notices : ∀ s n, s.ntc.KeepsTo n s.cfg.noticeMask → P s → P (s.setNtc n)
  unit : ∀ s u x, (s.unit u).tally.GrowsTo x.tally → P s → P (s.setUnit u x)
  nextEval : ∀ s n, P s → P (s.setTlu { s.tlu with nextEval := n })

theorem KeptApart.evalClass (k : KeptApart P) {s : State} (h : P s) : P s.evalClass := by
  simp only [State.evalClass]
  split
  · exact h
  · exact k.shu _ _ (k.dsc s _ h)

theorem KeptApart.base (k : KeptApart P) : KeptBase P where
  draw := k.draw
  rrx := k.rrx
  ftx := k.ftx
  tracker := k.tracker
  fired := k.fired
  leap := k.leap
  queue := k.queue
  notices := k.notices
  unit := k.unit
  nextEval := k.nextEval
  current := fun s _ _ _ h => k.shu s _ h
  handover := fun s _ _ _ _ _ h => k.shu s _ h
  trips := fun s _ _ _ h => k.shu s _ h
  schedule := fun s _ h => k.shu s _ h
  stc := fun s _ _ h => k.stc s _ h
  dscQuiet := fun s _ _ _ _ h => k.dsc s _ h
  dscEval := fun s _ _ _ h => k.evalClass (k.dsc s _ h)

theorem KeptApart.kept (k : KeptApart P) : Kept P where
  toKeptBase := k.base
  close := fun _ kind ev crew d h =>
    k.base.closeShift (fun s _ _ h => k.shu s _ h) (fun s _ h => k.shu s _ h) kind ev crew d h

/-- With the lines and the configuration apart too, every running command keeps it. -/
theorem KeptApart.run (k : KeptApart P) (time : KeptTime P) (link : KeptLink P) (lqu : ∀ s x, P s → P (s.setLqu x)) (cfg : ∀ s c, P s → P (s.setCfg c)) :
    KeptRun P where
  base := k.kept
  time := time
  link := link
  lines := .of_free k.kept (fun s _ _ h => lqu s _ h)
  config := .of_free k.kept k.dsc lqu cfg

/-- With station time's steps apart, samples keep it. -/
theorem KeptApart.samples (k : KeptApart P) (rrx : ∀ s x, P s → P (s.setRrx x)) (step : ∀ s ns, P s → P (s.setTsc (s.tsc.stepTo ns))) : KeptSamples P :=
  .of_free k.kept rrx k.dsc step

/-- With any unit and the values of power-on kept, presets and loads keep it too. -/
theorem KeptApart.loads (k : KeptApart P) (unit : ∀ s u x, P s → P (s.setUnit u x))
    (values : ∀ s straps pins store, P s → P (s.powerOnValues straps pins store)) : KeptLoads P where
  preset := fun _ _ _ u h => k.kept.evalMaintenance u (k.kept.place _ (unit _ u _ (k.kept.checkpointNow u h)))
  powerOn := fun s straps pins b h => by
    have h1 := forAll_keeps P (numbers 8) State.bootUnit (fun u _ s h => unit s u _ h) _
      (values s straps pins s.stc.afterPowerLoss h)
    have shift (t : State) (loaded : Bool) (ht : P t) : P (t.bootShift loaded) := by
      simp only [State.bootShift]
      split
      · exact KeptBase.openShift (fun s _ _ h => k.shu s _ h) (fun s _ h => k.shu s _ h) _ (k.shu t _ ht)
      · exact ht
    have corrupt (t : State) (ht : P t) : P t.raiseIfCorrupt := by
      simp only [State.raiseIfCorrupt]
      split
      · exact k.kept.raise _ ht
      · exact ht
    exact k.kept.hand _ _ (k.stc _ _ (corrupt _ (k.kept.hand _ _ (k.kept.evalAll (k.kept.place _ (shift _ _ h1))))))

/-! ### The queue (R98, R107) -/

/-- Nothing but an operation of EVQ touches the queue. -/
theorem keptApart_queue : KeptApart (fun s => s.evq.consistent) where
  tracker := fun _ _ h => h
  fired := fun _ _ h => h
  leap := fun _ _ _ h => h
  draw := fun _ _ h => h
  rrx := fun _ _ _ h => h
  ftx := fun _ _ h => h
  dsc := fun _ _ h => h
  shu := fun _ _ h => h
  stc := fun _ _ h => h
  queue := fun _ _ hq h => hq h
  notices := fun _ _ _ h => h
  unit := fun _ _ _ _ h => h
  nextEval := fun _ _ h => h

/-- The empty queue of power-on is in order (R112). -/
theorem powerOnQueue_consistent :
    ({ records := [], nextSeq := some 0, lostTotal := 0, lostTrips := 0, overwritten := 0 } : EventQueue).consistent := by
  simp only [EventQueue.consistent]
  refine ⟨Nat.zero_le _, List.Pairwise.nil, fun n e => ?_, 0, Nat.zero_le _, by simp, by simp⟩
  cases e
  exact ⟨Nat.zero_le _, by simp⟩

/-- Settles O53: every operation of EVQ keeps the queue in order, and no other block touches it. -/
theorem queueStaysInOrder : Obligations.QueueStaysInOrder := by
  intro s t h he
  exact step_keeps (P := fun s => s.evq.consistent)
    (keptApart_queue.run ⟨fun _ _ h => h, fun _ h => h⟩ (fun _ _ h => h) (fun _ _ h => h) (fun _ _ h => h)) (keptApart_queue.samples (fun _ _ h => h) (fun _ _ h => h))
    (keptApart_queue.loads (fun _ _ _ h => h) (fun _ _ _ _ _ => powerOnQueue_consistent)) (fun _ _ h => h) he h

/-! ### Station time in its range (R1, R4) -/

theorem keptApart_inRange : KeptApart (fun s => s.tsc.inRange) where
  tracker := fun _ _ h => h
  fired := fun _ _ h => h
  leap := fun _ _ _ h => h
  draw := fun _ _ h => h
  rrx := fun _ _ _ h => h
  ftx := fun _ _ h => h
  dsc := fun _ _ h => h
  shu := fun _ _ h => h
  stc := fun _ _ h => h
  queue := fun _ _ _ h => h
  notices := fun _ _ _ h => h
  unit := fun _ _ _ _ h => h
  nextEval := fun _ _ h => h

theorem keptTime_inRange : KeptTime (fun s => s.tsc.inRange) where
  pass := fun _ ns h => TimeScale.advance_inRange ns h
  frac := fun _ h => ⟨h.1, h.2.1, h.2.2.1, h.2.2.2.1, Nat.mod_lt _ (by decide)⟩

/-- Power-on starts station time at 0 (R17). -/
theorem TimeScale.powerOn_inRange (img : Option Image) : (TimeScale.powerOn img).inRange := by
  simp [TimeScale.inRange, TimeScale.powerOn, secondsModulus, nsPerS, fracModulus]

/-- Every step keeps station time in its range. -/
theorem step_keeps_inRange {s t : State} (h : s.tsc.inRange) (he : step s = .next t) : t.tsc.inRange :=
  step_keeps (P := fun s => s.tsc.inRange)
    (keptApart_inRange.run keptTime_inRange (fun _ _ h => h) (fun _ _ h => h) (fun _ _ h => h))
    (keptApart_inRange.samples (fun _ _ h => h) (fun _ ns h => (TimeScale.stepTo_inRange ns h).1))
    (keptApart_inRange.loads (fun _ _ _ h => h)
      (fun _ _ _ store _ => TimeScale.powerOn_inRange store.load)) (fun _ _ h => h) he h

/-! ### Tallies (R118, R120, R124) -/

/-- Every unit's tally grew from what it was in `s0`. -/
def State.growsFrom (s0 s : State) : Prop := ∀ u, unitExists u = true → (s0.unit u).tally.GrowsTo (s.unit u).tally

/-- A unit written with a tally that grew. -/
theorem growsFrom_setUnit {s0 s : State} (u : Nat) (x : GenUnit) (hx : (s.unit u).tally.GrowsTo x.tally)
    (h : s0.growsFrom s) : s0.growsFrom (s.setUnit u x) := by
  intro v hv
  by_cases e : v = u
  · subst e
    have hv' : 1 ≤ v ∧ v ≤ 8 := by simpa [unitExists] using hv
    have : (s.setUnit v x).unit v = x := nth_setNth_self _ v x hv'
    rw [this]
    exact (h v hv).trans hx
  · have : (s.setUnit u x).unit v = s.unit v := nth_setNth_other _ u v x e
    rw [this]
    exact h v hv

theorem keptApart_growsFrom (s0 : State) : KeptApart s0.growsFrom where
  tracker := fun _ _ h => h
  fired := fun _ _ h => h
  leap := fun _ _ _ h => h
  draw := fun _ _ h => h
  rrx := fun _ _ _ h => h
  ftx := fun _ _ h => h
  dsc := fun _ _ h => h
  shu := fun _ _ h => h
  stc := fun _ _ h => h
  queue := fun _ _ _ h => h
  notices := fun _ _ _ h => h
  unit := fun _ u x hx h => growsFrom_setUnit u x hx h
  nextEval := fun _ _ h => h

/-- Settles O60: but for a preset or a load, every change of a tally only adds to it. -/
theorem talliesOnlyGrow : Obligations.TalliesOnlyGrow := by
  intro c s t hc hr he
  have grown : s.growsFrom t := exec_keeps (P := s.growsFrom)
    ((keptApart_growsFrom s).run ⟨fun _ _ h => h, fun _ h => h⟩ (fun _ _ h => h) (fun _ _ h => h) (fun _ _ h => h))
    (fun _ => (keptApart_growsFrom s).samples (fun _ _ h => h) (fun _ _ h => h)) (fun hp => nomatch hc.symm.trans hp)
    (fun _ _ _ hp => by subst hp; exact nomatch hc) he (fun _ _ => Tally.GrowsTo.refl _)
  refine ⟨fun u hu => (grown u hu (hr u hu)).1, fun u h1 h8 => ?_⟩
  have hu : unitExists u = true := by simp [unitExists, h1, h8]
  exact (grown u hu (hr u hu)).2

/-! ### Commands that the part can receive (entries 1 and 28) -/

theorem keptApart_pending (s0 : State) : KeptApart (fun s => s.pending = s0.pending) where
  tracker := fun _ _ h => h
  fired := fun _ _ h => h
  leap := fun _ _ _ h => h
  draw := fun _ _ h => h
  rrx := fun _ _ _ h => h
  ftx := fun _ _ h => h
  dsc := fun _ _ h => h
  shu := fun _ _ h => h
  stc := fun _ _ h => h
  queue := fun _ _ _ h => h
  notices := fun _ _ _ h => h
  unit := fun _ _ _ _ h => h
  nextEval := fun _ _ h => h

/-- No command touches the queue of waiting commands (entry 1). -/
theorem exec_pending {c : Instr} {s t : State} (he : exec c s = .next t) : t.pending = s.pending :=
  have loads := (keptApart_pending s).loads (fun _ _ _ h => h) (fun _ _ _ _ h => h)
  exec_keeps (P := fun t => t.pending = s.pending)
    ((keptApart_pending s).run ⟨fun _ _ h => h, fun _ h => h⟩ (fun _ _ h => h) (fun _ _ h => h) (fun _ _ h => h))
    (fun _ => (keptApart_pending s).samples (fun _ _ h => h) (fun _ _ h => h)) (fun _ => loads.preset) (fun _ _ _ _ s h => loads.powerOn s _ _ _ h)
    he rfl

/-- Settles O3: the guards of the rows are those of `wellFormed`. -/
theorem wellFormedCommandsRun : Obligations.WellFormedCommandsRun := by
  intro c s
  constructor
  · intro hc
    suffices ∃ t, exec c s = .next t from this.imp fun t he => ⟨he, exec_pending he⟩
    cases c
    case rawEdge | unusedLinePinChange | filterExpiry | quietTimerExpiry | discrepancyTimerExpiry => exact ⟨_, if_pos hc⟩
    case holdupAssertion =>
      show ∃ t, execHoldupAssertion s = .next t
      unfold execHoldupAssertion
      split <;> exact ⟨_, rfl⟩
    case holdupRelease =>
      show ∃ t, execHoldupRelease s = .next t
      unfold execHoldupRelease
      split <;> exact ⟨_, rfl⟩
    case refaBreak =>
      show ∃ t, execRefaBreak s = .next t
      unfold execRefaBreak
      split <;> exact ⟨_, rfl⟩
    case refbPulse =>
      show ∃ t, execRefbPulse s = .next t
      unfold execRefbPulse
      split <;> exact ⟨_, rfl⟩
    case saveEnd ok =>
      show ∃ t, execSaveEnd ok s = .next t
      unfold execSaveEnd
      split
      · exact ⟨_, rfl⟩
      · dsimp only
        split <;> exact ⟨_, rfl⟩
    case schw tag entries =>
      show ∃ t, execSchw tag entries s = .next t
      unfold execSchw
      dsimp only
      split <;> exact ⟨_, rfl⟩
    all_goals exact ⟨_, rfl⟩
  · intro hc
    have no (b : Bool) (hb : b = false) : ¬ b = true := by simp [hb]
    cases c
    case rawEdge | unusedLinePinChange | filterExpiry | quietTimerExpiry | discrepancyTimerExpiry =>
      exact ⟨_, if_neg (no _ hc)⟩
    all_goals exact nomatch hc

end Sys2Proof.Machine

/-! PROOFS. The shift lists: the history with the numbers that fall below the current shift's, the open trips, and both in
the images that the part holds. -/

namespace Sys2Proof.Machine

/-! ### What leaves the shift's number and the history alone -/

/-- The current shift's number and the history. -/
def State.shiftIs (n : Nat) (xs : List ShiftRecord) (s : State) : Prop :=
  s.shu.current.number = n ∧ s.shu.history = xs

/-- Only the close of a shift moves them (R149, R150). -/
theorem keptBase_shiftIs (n : Nat) (xs : List ShiftRecord) : KeptBase (State.shiftIs n xs) where
  tracker := fun _ _ h => h
  fired := fun _ _ h => h
  leap := fun _ _ _ h => h
  draw := fun _ _ h => h
  rrx := fun _ _ _ h => h
  ftx := fun _ _ h => h
  queue := fun _ _ _ h => h
  notices := fun _ _ _ h => h
  unit := fun _ _ _ _ h => h
  nextEval := fun _ _ h => h
  current := fun _ _ hn _ h => ⟨hn.trans h.1, h.2⟩
  handover := fun _ _ _ _ _ _ h => h
  trips := fun _ _ _ _ h => h
  schedule := fun _ _ h => h
  stc := fun _ _ _ h => h
  dscQuiet := fun _ _ _ _ _ h => h
  dscEval := fun s d _ _ h => by
    simp only [State.evalClass]
    split <;> exact h

/-- A close up to its SHIFT record: the shift joins the history (R149 steps 1 to 4). -/
theorem closeRecord_shiftIs {s : State} (kind : ShiftKind) (ev : ShiftEvent) (crew d : Nat) :
    ∃ r : ShiftRecord, r.number = s.shu.current.number ∧
      State.shiftIs s.shu.current.number (pushHistory r s.shu.history) (s.closeRecord kind ev crew d) := by
  have h1 := (keptBase_shiftIs s.shu.current.number s.shu.history).checkpointAll (s := s) ⟨rfl, rfl⟩
  unfold State.closeRecord
  generalize s.checkpointAll = t at h1
  obtain ⟨hn, hx⟩ := h1
  refine ⟨{ t.shu.current with kind := kind, nextCrew := crew, duration := d }, hn, ?_⟩
  exact (keptBase_shiftIs _ _).placeShift ev crew ⟨hn, by rw [← hx]; rfl⟩

/-! ### The lists (R150, R162, R164) -/

/-- The lists of the part are consistent, and those of every image it holds. -/
def State.listsConsistent (s : State) : Prop :=
  historyConsistent s.shu.current s.shu.history ∧ tripsConsistent s.shu.openTrips
    ∧ ∀ i, s.stc.Holds i → i.consistent

theorem State.shiftsConsistent_iff (s : State) : s.shiftsConsistent ↔ s.listsConsistent := by
  unfold State.shiftsConsistent State.listsConsistent StoreController.Holds
  constructor
  · rintro ⟨hh, ht, hs, hf⟩
    refine ⟨hh, ht, ?_⟩
    rintro i (⟨x, hx, rfl⟩ | ⟨f, x, hf', hx, rfl⟩)
    · exact hs x hx
    · exact hf f x hf' hx
  · rintro ⟨hh, ht, hi⟩
    exact ⟨hh, ht, fun x hx => hi _ (.inl ⟨x, hx, rfl⟩), fun f x hf hx => hi _ (.inr ⟨f, x, hf, hx, rfl⟩)⟩

/-- What a history in order asks of the current shift is its number alone. -/
theorem historyConsistent_of_number {r r' : ShiftRecord} {xs : List ShiftRecord} (hn : r'.number = r.number)
    (h : historyConsistent r xs) : historyConsistent r' xs := by
  unfold historyConsistent at *
  rwa [hn]

/-- The history after a shift of a higher number joined it, up to 16 (R164). -/
theorem historyConsistent_pushHistory {r r' : ShiftRecord} {xs : List ShiftRecord} (h : historyConsistent r xs)
    (hn : r'.number = r.number + 1) (hm : r'.number ≤ max32) (c : ShiftRecord) (hc : c.number = r.number) :
    historyConsistent r' (pushHistory c xs) := by
  obtain ⟨-, order, below, low, -⟩ := h
  refine ⟨by simp [pushHistory], ?_, fun x hx => ?_, by omega, hm⟩
  · refine List.Pairwise.sublist (List.take_sublist _ _) (List.pairwise_cons.2 ⟨fun x hx => ?_, order⟩)
    rw [hc]; exact below x hx
  · rcases List.mem_cons.1 (List.mem_of_mem_take hx) with rfl | hx
    · omega
    · have := below x hx; omega

/-- The first shift of a new count, with an empty history (R150). -/
theorem historyConsistent_nil {r : ShiftRecord} (h1 : 1 ≤ r.number) (hm : r.number ≤ max32) : historyConsistent r [] :=
  ⟨Nat.zero_le _, List.Pairwise.nil, by simp, h1, hm⟩

/-- The next shift opened on the history that its predecessor joined (R149, R150). -/
theorem openShift_history {r c : ShiftRecord} {xs : List ShiftRecord} (h : historyConsistent r xs) (hc : c.number = r.number)
    {t : State} (ht : State.shiftIs r.number (pushHistory c xs) t) (crew : Nat) :
    historyConsistent (t.openShift crew).shu.current (t.openShift crew).shu.history := by
  obtain ⟨hn, hx⟩ := ht
  simp only [State.openShift]
  split
  · exact historyConsistent_nil (Nat.le_refl 1) (show 1 ≤ max32 by decide)
  · rename_i hlt
    rw [State.setCurrent_shu]
    refine (congrArg (historyConsistent _) hx).mpr ?_
    exact historyConsistent_pushHistory h (by simp [ShiftRecord.fresh, hn]) (by simp [ShiftRecord.fresh]; omega) c hc

/-- Up to its SHIFT record a close touches no trip and no image. -/
theorem closeRecord_keepsImages (s : State) (kind : ShiftKind) (ev : ShiftEvent) (crew d : Nat) :
    (s.closeRecord kind ev crew d).shu.openTrips = s.shu.openTrips ∧ (s.closeRecord kind ev crew d).stc = s.stc := by
  have h : Unchanged [.evq, .current, .ntc, .tlu, .history] s (s.closeRecord kind ev crew d) :=
    (((checkpointAll_unchanged s (by decide) (by decide)).trans (setHistory_unchanged _ (by decide) _)).trans
      (setCurrent_unchanged _ (by decide) _)).trans (placeShift_unchanged _ (by decide) _ _)
  exact ⟨(h .trips (by decide)).1, h .stc (by decide)⟩

/-- The save that a close asks for holds no image yet (R149 step 5). -/
theorem requestShiftSave_keepsImages (s : State) :
    s.requestShiftSave.shu = s.shu ∧ ∀ i, s.requestShiftSave.stc.Holds i → s.stc.Holds i := by
  simp only [State.requestShiftSave]
  split_ifs
  · exact ⟨rfl, fun i h => h⟩
  · refine ⟨rfl, fun i h => ?_⟩
    rcases h with h | ⟨f, x, hf, hx, -⟩
    · exact .inl h
    · obtain rfl := Option.some.inj hf
      exact nomatch hx
  · exact ⟨rfl, fun i h => h⟩

/-- Opening a shift touches no trip and no image. -/
theorem openShift_keepsImages (s : State) (crew : Nat) :
    (s.openShift crew).shu.openTrips = s.shu.openTrips ∧ (s.openShift crew).stc = s.stc := by
  have h : Unchanged [.current, .history] s (s.openShift crew) := openShift_unchanged s (by decide) (by decide) crew
  exact ⟨(h .trips (by decide)).1, h .stc (by decide)⟩

/-! ### Every change keeps them -/

theorem keptBase_lists : KeptBase State.listsConsistent where
  tracker := fun _ _ h => h
  fired := fun _ _ h => h
  leap := fun _ _ _ h => h
  draw := fun _ _ h => h
  rrx := fun _ _ _ h => h
  ftx := fun _ _ h => h
  queue := fun _ _ _ h => h
  notices := fun _ _ _ h => h
  unit := fun _ _ _ _ h => h
  nextEval := fun _ _ h => h
  current := fun _ _ hn _ h => ⟨historyConsistent_of_number hn h.1, h.2⟩
  handover := fun _ _ _ _ _ _ h => h
  trips := fun _ _ _ ht h => ⟨h.1, ht h.2.1, h.2.2⟩
  schedule := fun _ _ h => h
  stc := fun s x hx h => ⟨h.1, h.2.1, fun i hi => by
    rcases hx i hi with hi | rfl
    · exact h.2.2 i hi
    · exact ⟨h.1, h.2.1⟩⟩
  dscQuiet := fun _ _ _ _ _ h => h
  dscEval := fun s d _ _ h => by
    simp only [State.evalClass]
    split
    · exact h
    · exact ⟨historyConsistent_of_number rfl h.1, h.2⟩

/-- The close of a shift keeps the lists (R149, R150, R164). -/
theorem closeShift_lists {s : State} (kind : ShiftKind) (ev : ShiftEvent) (crew d : Nat) (h : s.listsConsistent) :
    (s.closeShift kind ev crew d).listsConsistent := by
  obtain ⟨hh, ht, hi⟩ := h
  obtain ⟨c, hc, hr⟩ := closeRecord_shiftIs (s := s) kind ev crew d
  obtain ⟨rt, rc⟩ := closeRecord_keepsImages s kind ev crew d
  have opened : ((s.closeRecord kind ev crew d).requestShiftSave.openShift crew).listsConsistent := by
    obtain ⟨qs, qi⟩ := requestShiftSave_keepsImages (s.closeRecord kind ev crew d)
    obtain ⟨ot, oc⟩ := openShift_keepsImages (s.closeRecord kind ev crew d).requestShiftSave crew
    refine ⟨openShift_history hh hc ((keptBase_shiftIs _ _).requestShiftSave hr) crew, ?_, fun i hi' => hi i ?_⟩
    · rw [ot, qs, rt]; exact ht
    · rw [oc] at hi'
      rw [← rc]
      exact qi i hi'
  have ended := keptBase_lists.endHandover (keptBase_lists.setLoss (s.closeRecord kind ev crew d).shu.current.loss opened)
  simp only [State.closeShift]
  split
  · exact keptBase_lists.takeSnapshot ended
  · exact ended

theorem kept_lists : Kept State.listsConsistent where
  toKeptBase := keptBase_lists
  close := fun _ kind ev crew d h => closeShift_lists kind ev crew d h

/-- An image that a power-on loads is one that the part held (R171, R181). -/
theorem StoreController.load_holds {c : StoreController} {i : Image} (h : c.afterPowerLoss.load = some i) : c.Holds i := by
  unfold StoreController.afterPowerLoss at h
  split at h
  · exact nomatch h
  · unfold Store.load at h
    split at h
    · rename_i x hx
      split at h
      · exact .inl ⟨x, hx, Option.some.inj h⟩
      · exact nomatch h
    · exact nomatch h
    · exact nomatch h

/-- What a power-on loads is consistent (R168, R172). -/
theorem powerOnValues_lists {s : State} (straps : BitVec 2) (pins : BitVec 32) (h : s.listsConsistent) :
    (s.powerOnValues straps pins s.stc.afterPowerLoss).listsConsistent := by
  have kept : ∀ i, (s.powerOnValues straps pins s.stc.afterPowerLoss).stc.Holds i → i.consistent := by
    rintro i (⟨x, hx, rfl⟩ | ⟨f, x, hf, -⟩)
    · refine h.2.2 _ (.inl ⟨x, ?_, rfl⟩)
      have hx : s.stc.afterPowerLoss = .holds x := hx
      unfold StoreController.afterPowerLoss at hx
      split at hx
      · exact nomatch hx
      · exact hx
    · exact nomatch hf
  have lists (img : Option Image) (hi : ∀ i, img = some i → i.consistent) :
      historyConsistent (ShiftUnitState.powerOn img).current (ShiftUnitState.powerOn img).history
        ∧ tripsConsistent (ShiftUnitState.powerOn img).openTrips := by
    cases img with
    | none => exact ⟨historyConsistent_nil (Nat.le_refl 1) (show 1 ≤ max32 by decide), Nat.zero_le _, List.Pairwise.nil⟩
    | some i => exact hi i rfl
  obtain ⟨hh, ht⟩ := lists s.stc.afterPowerLoss.load (fun i hi => h.2.2 i (StoreController.load_holds hi))
  exact ⟨hh, ht, kept⟩

/-- A shift that joins the history at once, before the next one opens (R168). -/
theorem openShift_lists {s : State} (r : ShiftRecord) (hr : r.number = s.shu.current.number) (crew : Nat)
    (h : s.listsConsistent) :
    ((s.setShu { s.shu with history := pushHistory r s.shu.history }).openShift crew).listsConsistent := by
  obtain ⟨hh, ht, hi⟩ := h
  let t := s.setShu { s.shu with history := pushHistory r s.shu.history }
  obtain ⟨ot, oc⟩ := openShift_keepsImages t crew
  refine ⟨openShift_history (t := t) hh hr ⟨rfl, rfl⟩ crew, ?_, fun i hi' => hi i ?_⟩
  · rw [ot]; exact ht
  · rw [oc] at hi'; exact hi'

/-- A saved shift closed as INTERRUPTED at power-on (R168). -/
theorem bootShift_lists {s : State} (loaded : Bool) (h : s.listsConsistent) : (s.bootShift loaded).listsConsistent := by
  simp only [State.bootShift]
  split
  · refine openShift_lists _ ?_ _ h
    rfl
  · exact h

theorem keptLoads_lists : KeptLoads State.listsConsistent where
  preset := fun _ _ _ u h => kept_lists.evalMaintenance u (kept_lists.place _ (kept_lists.checkpointNow u h))
  powerOn := fun s straps pins b h => by
    have booted := forAll_keeps State.listsConsistent (numbers 8) State.bootUnit (fun _ _ _ h => h) _
      (powerOnValues_lists straps pins h)
    have corrupt (t : State) (ht : t.listsConsistent) : t.raiseIfCorrupt.listsConsistent := by
      simp only [State.raiseIfCorrupt]
      split <;> exact ht
    exact kept_lists.hand _ _ (kept_lists.setHoldup _ (corrupt _ (kept_lists.hand _ _
      (kept_lists.evalAll (kept_lists.place _ (bootShift_lists _ booted))))))

theorem keptRun_lists : KeptRun State.listsConsistent where
  base := kept_lists
  time := ⟨fun _ _ h => h, fun _ h => h⟩
  link := fun _ _ h => h
  lines := .of_free kept_lists (fun _ _ _ h => h)
  config := .of_free kept_lists (fun _ _ h => h) (fun _ _ h => h) (fun _ _ h => h)

/-- Settles O56: a close puts a lower number under a higher one, and an image is only ever a snapshot of the part. -/
theorem shiftListsStayConsistent : Obligations.ShiftListsStayConsistent := by
  intro s t h he
  rw [State.shiftsConsistent_iff] at h ⊢
  exact step_keeps keptRun_lists (.of_free kept_lists (fun _ _ h => h) (fun _ _ h => h) (fun _ _ h => h)) keptLoads_lists (fun _ _ h => h) he h

end Sys2Proof.Machine

/-! PROOFS. The notices: ATTN and the flags of the conditions, while the mask itself may change. -/

namespace Sys2Proof.Machine

/-! ### One entry among the changes of DFLT (R180) -/

/-- A list of changes that keep `W` and `P`, one of which leads from `W` to `P`, leads from `W` to `P`. -/
theorem forAll_reaches {α : Type} {W P : State → Prop} {xs : List α} {f : α → State → State} {a : α} (ha : a ∈ xs)
    (keepW : ∀ x s, W s → W (f x s)) (keepP : ∀ x s, P s → P (f x s)) (hit : ∀ s, W s → P (f a s)) {s : State}
    (h : W s) : P (forAll xs f s) := by
  induction xs generalizing s with
  | nil => exact nomatch ha
  | cons x xs ih =>
    rw [forAll_cons]
    rcases List.mem_cons.1 ha with rfl | ha
    · exact forAll_keeps P xs f (fun x _ s h => keepP x s h) _ (hit s h)
    · exact ih ha (keepW x s h)

/-- DFLT applies every entry whose value is not the default (R180). -/
theorem mem_defaultChanges (cfg : Settings) (draw : Nat) {it : Item} {i : Nat} (hi : i ∈ it.scope.indices)
    (hr : it.read cfg i ≠ it.read Settings.dflt i) :
    (it, i) ∈ freeOrder draw (changedEntries cfg Settings.dflt) := by
  rw [(freeOrder_perm _ _).mem_iff]
  exact List.mem_filter.2 ⟨(mem_entries it i).2 hi, by simpa using hr⟩

/-! ### ATTN and the flags -/

/-- NTC's flags, conditions and ATTN under the mask in force. -/
def State.ntcConsistent (s : State) : Prop := s.ntc.consistent s.cfg.noticeMask

/-- The conditions that hold are latched. -/
def State.ntcLatched (s : State) : Prop := s.ntc.latched

theorem keptApart_ntc : KeptApart State.ntcConsistent where
  tracker := fun _ _ h => h
  fired := fun _ _ h => h
  leap := fun _ _ _ h => h
  draw := fun _ _ h => h
  rrx := fun _ _ _ h => h
  ftx := fun _ _ h => h
  dsc := fun _ _ h => h
  shu := fun _ _ h => h
  stc := fun _ _ h => h
  queue := fun _ _ _ h => h
  notices := fun _ _ hn h => hn.2 h
  unit := fun _ _ _ _ h => h
  nextEval := fun _ _ h => h

theorem keptApart_latched : KeptApart State.ntcLatched where
  tracker := fun _ _ h => h
  fired := fun _ _ h => h
  leap := fun _ _ _ h => h
  draw := fun _ _ h => h
  rrx := fun _ _ _ h => h
  ftx := fun _ _ h => h
  dsc := fun _ _ h => h
  shu := fun _ _ h => h
  stc := fun _ _ h => h
  queue := fun _ _ _ h => h
  notices := fun _ _ hn h => hn.1 h
  unit := fun _ _ _ _ h => h
  nextEval := fun _ _ h => h

/-- A changed NOTICE_MASK applied, whatever ATTN was (R195). -/
theorem applyMask_consistent {s : State} (old : Settings) (i : Nat) (h : s.ntcLatched) :
    (s.applyItem old .noticeMask i).ntcConsistent := h.consistent_withFlags _

/-- The application of any changed item keeps ATTN right. -/
theorem applyItem_consistent {s : State} (old : Settings) (it : Item) (i : Nat) (h : s.ntcConsistent) :
    (s.applyItem old it i).ntcConsistent :=
  keptApart_ntc.kept.applyItem old it i (fun _ h => keptApart_ntc.evalClass h)
    (fun s h => NoticeUnit.latched.consistent_withFlags h.2 s.cfg.noticeMask)
    (fun s h => by simp only [State.resetLine]; split <;> exact h) h

theorem applyItem_latched {s : State} (old : Settings) (it : Item) (i : Nat) (h : s.ntcLatched) :
    (s.applyItem old it i).ntcLatched :=
  keptApart_latched.kept.applyItem old it i (fun _ h => keptApart_latched.evalClass h) (fun _ h => h)
    (fun s h => by simp only [State.resetLine]; split <;> exact h) h

/-- A write of another item leaves NOTICE_MASK. -/
theorem written_noticeMask {it : Item} (hit : it ≠ .noticeMask) (cfg : Settings) (i : Nat) (v : Int) :
    (it.written cfg i v).noticeMask = cfg.noticeMask := by
  cases it <;> first | exact absurd rfl hit | rfl

theorem keptConfig_ntc : KeptConfig State.ntcConsistent where
  storeItem := fun s it i v _ _ h => by
    refine keptApart_ntc.kept.storeItem_of ?_
    by_cases hit : it = .noticeMask
    · subst hit
      exact applyMask_consistent _ i h.2
    · refine applyItem_consistent _ it i ?_
      show s.ntc.consistent (it.written s.cfg i v).noticeMask
      rw [written_noticeMask hit]
      exact h
  takeDefaults := fun s h => by
    refine keptApart_ntc.kept.takeDefaults_of fun n => ?_
    by_cases hm : Item.noticeMask.read s.cfg 0 = Item.noticeMask.read Settings.dflt 0
    · refine forAll_keeps State.ntcConsistent _ _ (fun p _ s h => applyItem_consistent _ p.1 p.2 h) _ ?_
      have same : s.cfg.noticeMask = Settings.dflt.noticeMask := BitVec.eq_of_toNat_eq (Int.ofNat_inj.1 hm)
      show s.ntc.consistent Settings.dflt.noticeMask
      rw [← same]
      exact h
    · exact forAll_reaches (W := State.ntcLatched) (P := State.ntcConsistent) (mem_defaultChanges s.cfg s.draws (it := .noticeMask) (by decide) hm) (fun p _ h => applyItem_latched _ p.1 p.2 h)
        (fun p _ h => applyItem_consistent _ p.1 p.2 h) (fun _ h => applyMask_consistent _ _ h) h.2
  restart := fun s h => by
    have k := keptApart_ntc.kept
    have lqu (s : State) (x : Vector Line 32) (h : s.ntcConsistent) : (s.setLqu x).ntcConsistent := h
    refine k.restart_of k (fun s c _ => ?_) (fun s h => ?_) h
    · exact NoticeUnit.restart_consistent s.ntc c.noticeMask
    · exact k.eitherOrder (fun _ h => k.restartDsc (keptApart_ntc.evalClass h)) (fun s h => k.restartLines (lqu s _ h)) h

/-- Power-on leaves RESTARTED alone, and no condition (R196). -/
theorem NoticeUnit.powerOn_consistent (mask : BitVec 14) : (NoticeUnit.powerOn mask).consistent mask :=
  ⟨rfl, by simp [NoticeUnit.powerOn]⟩

/-- Settles O54: every operation of NTC evaluates ATTN with the flags, and a changed mask is applied. -/
theorem noticesStayConsistent : Obligations.NoticesStayConsistent := by
  intro s t h he
  have k := keptApart_ntc.kept
  have run : KeptRun State.ntcConsistent := {
    base := k
    time := ⟨fun _ _ h => h, fun _ h => h⟩
    link := fun _ _ h => h
    lines := .of_free k (fun _ _ _ h => h)
    config := keptConfig_ntc }
  exact step_keeps run (keptApart_ntc.samples (fun _ _ h => h) (fun _ _ h => h))
    (keptApart_ntc.loads (fun _ _ _ h => h) (fun _ _ _ _ _ => NoticeUnit.powerOn_consistent _)) (fun _ _ h => h) he h

end Sys2Proof.Machine

/-! PROOFS. c within its limit, the effective class and the shift's worst class. The three hold together but while one of
them is about to be evaluated; the invariant names which of them a moment asks for. -/

namespace Sys2Proof.Machine

/-- c within ±SLEW_LIMIT when asked for (`range`), the effective class the one of R50 when asked for (`class`), and the
shift's worst class no better. -/
def State.disciplined (range cls : Prop) (s : State) : Prop :=
  (range → -(s.cfg.slewLimit : Int) ≤ s.dsc.c ∧ s.dsc.c ≤ s.cfg.slewLimit)
    ∧ (cls → s.dsc.effClass = s.dsc.classNow)
    ∧ s.dsc.effClass ≤ s.shu.current.worstClass

theorem State.disciplineConsistent_iff (s : State) : s.disciplineConsistent ↔ s.disciplined True True := by
  simp [State.disciplineConsistent, State.disciplined]

variable {range cls : Prop} {s : State}

/-- Less may be asked for. -/
theorem State.disciplined.weaken {range' cls' : Prop} (h : s.disciplined range cls) (hr : range' → range)
    (hc : cls' → cls) : s.disciplined range' cls' := ⟨fun r => h.1 (hr r), fun c => h.2.1 (hc c), h.2.2⟩

/-- An evaluation of the class brings the class and the worst class (R50, R148); c stays as it was set. -/
theorem evalClass_disciplined (d : Discipline)
    (hc : range → -(s.cfg.slewLimit : Int) ≤ d.c ∧ d.c ≤ s.cfg.slewLimit) (he : d.effClass = s.dsc.effClass)
    (h : s.dsc.effClass ≤ s.shu.current.worstClass) : (s.setDsc d).evalClass.disciplined range True := by
  simp only [State.evalClass]
  split
  · rename_i e
    exact ⟨hc, fun _ => e.symm, he ▸ h⟩
  · exact ⟨hc, fun _ => rfl, Nat.le_max_right _ _⟩

/-- Nothing but DSC, the configuration and the current record takes part. -/
theorem keptBase_disciplined (range cls : Prop) : KeptBase (State.disciplined range cls) where
  tracker := fun _ _ h => h
  fired := fun _ _ h => h
  leap := fun _ _ _ h => h
  draw := fun _ _ h => h
  rrx := fun _ _ _ h => h
  ftx := fun _ _ h => h
  queue := fun _ _ _ h => h
  notices := fun _ _ _ h => h
  unit := fun _ _ _ _ h => h
  nextEval := fun _ _ h => h
  current := fun _ _ _ hw h => ⟨h.1, h.2.1, h.2.2.trans hw⟩
  handover := fun _ _ _ _ _ _ h => h
  trips := fun _ _ _ _ h => h
  schedule := fun _ _ h => h
  stc := fun _ _ _ h => h
  dscQuiet := fun s d hc he hn h => by
    refine ⟨fun r => ?_, fun c => ?_, ?_⟩
    · have := h.1 r; simpa only [State.setDsc_dsc, State.setDsc_cfg, hc] using this
    · simpa only [State.setDsc_dsc, he, hn] using h.2.1 c
    · show d.effClass ≤ _
      rw [he]; exact h.2.2
  dscEval := fun s d hc he h => by
    refine (evalClass_disciplined (range := range) d (fun r => ?_) he h.2.2).weaken id (fun _ => trivial)
    rcases hc with hc | hc
    · rw [hc]; exact h.1 r
    · exact hc

theorem kept_disciplined (range cls : Prop) : Kept (State.disciplined range cls) where
  toKeptBase := keptBase_disciplined range cls
  close := fun _ kind ev crew d h => (keptBase_disciplined range cls).closeShift
    (fun _ _ _ h => ⟨h.1, h.2.1, Nat.le_refl _⟩) (fun _ _ h => h) kind ev crew d h

/-- A frequency sample touches the window and F alone (R43, R44). -/
theorem Discipline.freqSample_keeps (d : Discipline) (src : Source) (e : Int) (w : Nat) :
    (d.freqSample src e w).c = d.c ∧ (d.freqSample src e w).effClass = d.effClass := by
  simp only [Discipline.freqSample, Discipline.addFreq]
  split
  · exact ⟨rfl, rfl⟩
  · split_ifs <;> exact ⟨rfl, rfl⟩

/-- A step ordered by a sample moves station time and restarts the window (R8, R45). -/
theorem orderStep_disciplined (e : Int) (first : Bool) (h : s.disciplined range False) :
    (s.orderStep e first).disciplined range False := by
  have stepped := (kept_disciplined range False).stepTo (fun _ _ h => h) (s.tsc.totalNs - e)
    (if s.dsc.oneShot && !first then .forcedAcquire else .acquire) first h
  exact stepped

/-- A processed sample ends with c by the steering formula and an evaluation of the class (R46, R51). -/
theorem processSample_disciplined (src : Source) (e : Int) (c : Nat) (acq first : Bool) (h : s.disciplined True True) :
    (s.processSample src e c acq first).disciplined True True := by
  have k := kept_disciplined True False
  unfold State.processSample
  extract_lets old d s1 s2 stepped s3 s4
  have h1 : s1.disciplined True False := ⟨h.1, False.elim, h.2.2⟩
  have h2 : s2.disciplined True False := by
    obtain ⟨hc, he⟩ := s1.dsc.freqSample_keeps src e s.cfg.freqWindow
    refine ⟨fun r => ?_, False.elim, ?_⟩
    · exact hc ▸ h1.1 r
    · exact he ▸ h1.2.2
  have h3 : s3.disciplined True False := by
    simp only [s3]
    split_ifs
    · exact orderStep_disciplined e first h2
    · exact k.trackLeave h2
    · exact h2
  have h4 : s4.disciplined True True := evalClass_disciplined _ (fun _ => clampInt_limit _ _) rfl h3.2.2
  split
  · exact h4
  · exact (kept_disciplined True True).reportDisc _ h4

/-! ### The configuration (R60, R180, R190) -/

theorem resetLine_disciplined (i : Nat) (h : s.disciplined range cls) : (s.resetLine i).disciplined range cls := by
  simp only [State.resetLine]
  split <;> exact h

/-- A changed SLEW_LIMIT applied: c in its new range, and the class evaluated (R60). -/
theorem applySlew_disciplined (old : Settings) (i : Nat) (h : s.disciplined range cls) :
    (s.applyItem old .slewLimit i).disciplined True True := by
  refine evalClass_disciplined _ (fun _ => ?_) ?_ h.2.2
  all_goals
    simp only [Discipline.slewChanged]
    split
  all_goals first | exact clampInt_limit _ _ | rfl

/-- The application of a changed item keeps what is asked for. -/
theorem applyItem_disciplined (old : Settings) (it : Item) (i : Nat) (h : s.disciplined range True) :
    (s.applyItem old it i).disciplined range True :=
  (kept_disciplined range True).applyItem old it i
    (fun _ h => (applySlew_disciplined Settings.dflt 0 h).weaken (fun _ => trivial) id) (fun _ h => h)
    (fun _ h => resetLine_disciplined i h) h

/-- A write of another item leaves SLEW_LIMIT. -/
theorem written_slewLimit {it : Item} (hit : it ≠ .slewLimit) (cfg : Settings) (i : Nat) (v : Int) :
    (it.written cfg i v).slewLimit = cfg.slewLimit := by
  cases it <;> first | exact absurd rfl hit | rfl

theorem keptConfig_disciplined : KeptConfig (State.disciplined True True) where
  storeItem := fun s it i v _ _ h => by
    refine (kept_disciplined True True).storeItem_of ?_
    by_cases hit : it = .slewLimit
    · subst hit
      exact applySlew_disciplined (range := False) _ i ⟨False.elim, h.2⟩
    · refine applyItem_disciplined _ it i ⟨fun _ => ?_, h.2⟩
      show -((it.written s.cfg i v).slewLimit : Int) ≤ s.dsc.c ∧ s.dsc.c ≤ (it.written s.cfg i v).slewLimit
      rw [written_slewLimit hit]
      exact h.1 trivial
  takeDefaults := fun s h => by
    refine (kept_disciplined True True).takeDefaults_of fun n => ?_
    by_cases hm : Item.slewLimit.read s.cfg 0 = Item.slewLimit.read Settings.dflt 0
    · refine forAll_keeps (State.disciplined True True) _ _ (fun p _ s h => applyItem_disciplined _ p.1 p.2 h) _
        ⟨fun _ => ?_, h.2⟩
      have same : s.cfg.slewLimit = Settings.dflt.slewLimit := Int.ofNat_inj.1 hm
      show -(Settings.dflt.slewLimit : Int) ≤ s.dsc.c ∧ s.dsc.c ≤ Settings.dflt.slewLimit
      rw [← same]
      exact h.1 trivial
    · exact forAll_reaches (W := State.disciplined False True) (P := State.disciplined True True)
        (mem_defaultChanges s.cfg s.draws (it := .slewLimit) (by decide) hm) (fun p _ h => applyItem_disciplined _ p.1 p.2 h)
        (fun p _ h => applyItem_disciplined _ p.1 p.2 h) (fun _ h => applySlew_disciplined _ _ h) ⟨False.elim, h.2⟩
  restart := fun s h => by
    have k := kept_disciplined True True
    have lqu (range : Prop) (s : State) (x : Vector Line 32) (h : s.disciplined range True) :
        (s.setLqu x).disciplined range True := h
    have disc (s : State) (h : s.disciplined False True) : s.restartDsc.disciplined True True :=
      k.restartDsc (evalClass_disciplined _ (fun _ => clampInt_limit _ _) rfl h.2.2)
    refine (kept_disciplined False True).restart_of k (fun s c h => ⟨False.elim, h.2⟩) (fun s h => ?_) h
    rcases eitherOrder_cases State.restartDsc State.restartLines s with e | e <;> rw [e]
    · exact k.restartLines (lqu _ _ _ (disc _ h))
    · exact disc _ ((kept_disciplined False True).restartLines (lqu _ _ _ h))

/-! ### Power-on (R61, R168) -/

/-- What power-on leaves of DSC, and of the worst class when no shift was saved (R61, R168). -/
def State.bootDisciplined (loaded : Bool) (s : State) : Prop :=
  (-(s.cfg.slewLimit : Int) ≤ s.dsc.c ∧ s.dsc.c ≤ s.cfg.slewLimit) ∧ s.dsc.effClass = s.dsc.classNow
    ∧ (loaded = false → s.dsc.effClass ≤ s.shu.current.worstClass)

theorem powerOnValues_bootDisciplined (straps : BitVec 2) (pins : BitVec 32) (store : Store) :
    (s.powerOnValues straps pins store).bootDisciplined store.load.isSome := by
  refine ⟨clampInt_limit _ _, rfl, fun h => ?_⟩
  have worst (img : Option Image) (hi : img.isSome = false) : (ShiftUnitState.powerOn img).current.worstClass = 7 := by
    cases img with
    | none => rfl
    | some i => exact nomatch hi
  exact (worst _ h).ge

/-- The shift current after the load has a worst class no better than the class (R150, R168). -/
theorem bootShift_disciplined {loaded : Bool} (h : s.bootDisciplined loaded) :
    (s.bootShift loaded).disciplined True True := by
  obtain ⟨hc, he, hw⟩ := h
  simp only [State.bootShift]
  split
  · simp only [State.openShift]
    split <;> exact ⟨fun _ => hc, fun _ => he, Nat.le_refl _⟩
  · rename_i hl
    exact ⟨fun _ => hc, fun _ => he, hw (by simpa using hl)⟩

theorem keptLoads_disciplined : KeptLoads (State.disciplined True True) where
  preset := fun _ _ _ u h => by
    have k := kept_disciplined True True
    exact k.evalMaintenance u (k.place _ (k.checkpointNow u h))
  powerOn := fun s straps pins b _ => by
    have k := kept_disciplined True True
    have booted := forAll_keeps (State.bootDisciplined s.stc.afterPowerLoss.load.isSome) (numbers 8) State.bootUnit
      (fun _ _ _ h => h) _ (powerOnValues_bootDisciplined (s := s) straps pins s.stc.afterPowerLoss)
    have corrupt (t : State) (ht : t.disciplined True True) : t.raiseIfCorrupt.disciplined True True := by
      simp only [State.raiseIfCorrupt]
      split <;> exact ht
    exact k.hand _ _ (k.setHoldup _ (corrupt _ (k.hand _ _ (k.evalAll (k.place _ (bootShift_disciplined booted))))))

theorem keptRun_disciplined : KeptRun (State.disciplined True True) where
  base := kept_disciplined True True
  time := ⟨fun _ _ h => h, fun _ h => h⟩
  link := fun _ _ h => h
  lines := .of_free (kept_disciplined True True) (fun _ _ _ h => h)
  config := keptConfig_disciplined

/-- Settles O55: c is only ever set by a clamped formula, the class is evaluated with what it rests on, and S:N and E
are kept by their moduli. -/
theorem timeAndDisciplineStayInRange : Obligations.TimeAndDisciplineStayInRange := by
  refine ⟨fun s t h he => ?_, fun s t h he => step_keeps_inRange h he⟩
  rw [State.disciplineConsistent_iff] at h ⊢
  exact step_keeps keptRun_disciplined
    ⟨fun _ _ h => h, fun _ _ h => h, fun _ src e c acq first h => processSample_disciplined src e c acq first h⟩
    keptLoads_disciplined (fun _ _ h => h) he h

end Sys2Proof.Machine

/-! PROOFS. The lines: every change of a line leads from one of the states of R74 to another. -/

namespace Sys2Proof.Machine

/-- Line `i` is as R74 describes its state. -/
def State.lineOk (i : Nat) (s : State) : Prop := (s.line i).consistent (s.lineCfg i).kind (s.lineLevel i)

/-- Only LQU and the configuration touch the lines. -/
theorem keptApart_lqu (R : Vector Line 32 → Settings → Prop) : KeptApart (fun s => R s.lqu s.cfg) where
  tracker := fun _ _ h => h
  fired := fun _ _ h => h
  leap := fun _ _ _ h => h
  draw := fun _ _ h => h
  rrx := fun _ _ _ h => h
  ftx := fun _ _ h => h
  dsc := fun _ _ h => h
  shu := fun _ _ h => h
  stc := fun _ _ h => h
  queue := fun _ _ _ h => h
  notices := fun _ _ _ h => h
  unit := fun _ _ _ _ h => h
  nextEval := fun _ _ h => h

theorem keptApart_lineOk (i : Nat) : KeptApart (State.lineOk i) :=
  keptApart_lqu (fun v c => (nth v i).consistent (nth c.lines i).kind ((nth v i).pinHigh != (nth c.lines i).activeLow))

variable {i : Nat} {s : State}

/-- What a line holds right after it was written. -/
theorem State.line_setLine_self (s : State) (x : Line) (hi : 1 ≤ i ∧ i ≤ 32) : (s.setLine i x).line i = x :=
  nth_setNth_self _ i x hi

/-- A line written in a state of R74. -/
theorem lineOk_setLine (hi : 1 ≤ i ∧ i ≤ 32) (x : Line)
    (h : x.consistent (s.lineCfg i).kind (x.pinHigh != (s.lineCfg i).activeLow)) : (s.setLine i x).lineOk i := by
  have e := s.line_setLine_self x hi
  unfold State.lineOk State.lineLevel
  rw [e]
  exact h

/-- Another line written leaves this one. -/
theorem lineOk_setLine_other {j : Nat} (hj : i ≠ j) (x : Line) (h : s.lineOk i) : (s.setLine j x).lineOk i := by
  have e : (s.setLine j x).line i = s.line i := nth_setNth_other _ j i x hj
  unfold State.lineOk State.lineLevel at *
  rw [e]
  exact h

/-! ### A pending change qualifies (R76 to R79) -/

/-- A qualified change delivered: the effective level is the filtered one. -/
theorem lineOk_deliver (hi : 1 ≤ i ∧ i ≤ 32) (x : Line) (b : Bool) (l : Latch)
    (h : ({ x with effective := b } : Line).consistent (s.lineCfg i).kind (x.pinHigh != (s.lineCfg i).activeLow)) :
    ((s.setLine i x).deliver i b l).lineOk i := by
  refine (keptApart_lineOk i).kept.handOn i b l ?_
  have e := s.line_setLine_self x hi
  simp only [State.setEffective, e]
  exact lineOk_setLine hi _ h

/-- What a suppressed change leaves of the line: its effective level may have moved (R80). -/
theorem line_suppress (hi : 1 ≤ i ∧ i ≤ 32) (x : Line) (p : PendingChange) :
    ((s.setLine i x).suppress i p).lineCfg i = s.lineCfg i
      ∧ ∃ b, ((s.setLine i x).suppress i p).line i = { x with effective := b } := by
  have kept := (keptApart_lqu (fun v c => nth c.lines i = s.lineCfg i ∧ ∃ b, nth v i = { x with effective := b })).kept
  have e := s.line_setLine_self x hi
  simp only [State.suppress]
  split
  · refine kept.tripPath i p.raw ⟨rfl, true, ?_⟩
    simp only [State.setEffective, e]
    exact (s.setLine i x).line_setLine_self _ hi
  · exact ⟨rfl, x.effective, e⟩

/-- UNUSED as R74 describes it. -/
theorem Line.consistent_unused {x : Line} {kind : LineKind} {level : Bool} (hk : kind = .unused) (hs : x.state = .unused)
    (hq : x.quiet = none) (he : x.effective = x.filtered) (hp : x.pending = none) : x.consistent kind level := by
  simp [Line.consistent, *]

/-- The states of R74 that a line outside UNUSED may be in with no change pending. -/
theorem Line.consistent_settled {x : Line} {kind : LineKind} {level : Bool} (hk : kind ≠ .unused)
    (hs : x.state = .steady ∧ x.quiet = none ∧ x.effective = x.filtered ∨ x.state = .chatter ∧ x.quiet.isSome = true)
    (hp : x.pending = none) (hl : level = x.filtered) : x.consistent kind level := by
  rcases hs with ⟨hs, hq, he⟩ | ⟨hs, hq⟩ <;> simp [Line.consistent, *]

/-- The states of R74 that a line outside UNUSED may be in while a change pends. -/
theorem Line.consistent_pending {x : Line} {kind : LineKind} {level : Bool} {p : PendingChange} (hk : kind ≠ .unused)
    (hs : x.state = .pending ∧ x.quiet = none ∧ x.effective = x.filtered ∨ x.state = .chatter ∧ x.quiet.isSome = true)
    (hp : x.pending = some p) (hpl : p.level = level) (hl : level ≠ x.filtered) : x.consistent kind level := by
  rcases hs with ⟨hs, hq, he⟩ | ⟨hs, hq⟩ <;> simp [Line.consistent, *]

/-- The change that pends qualifies, and the line stays in a state of R74 (R76 to R80). -/
theorem lineOk_qualify (hi : 1 ≤ i ∧ i ≤ 32) {p : PendingChange} (hp : (s.line i).pending = some p) (h : s.lineOk i) :
    (s.qualify i p).lineOk i := by
  obtain ⟨hu, hq, -, hn, -, -, hlevel⟩ := h
  obtain ⟨hl, -⟩ := hlevel p hp
  have watched : (s.line i).state ≠ .unused := fun e => nomatch (hn (.inl e)).symm.trans hp
  have hk : (s.lineCfg i).kind ≠ .unused := fun e => watched (hu.2 e)
  unfold State.qualify
  extract_lets x recent
  split_ifs with hc hr
  · have new : ({ x with filtered := p.level, pending := none } : Line).consistent (s.lineCfg i).kind (s.lineLevel i) :=
      Line.consistent_settled hk (.inr ⟨hc, hq.2 hc⟩) rfl hl.symm
    simp only [State.suppress]
    split
    · refine (keptApart_lineOk i).kept.tripPath i p.raw ?_
      have e := s.line_setLine_self { x with filtered := p.level, pending := none } hi
      simp only [State.setEffective, e]
      exact lineOk_setLine hi _ (Line.consistent_settled hk (.inr ⟨hc, hq.2 hc⟩) rfl hl.symm)
    · exact lineOk_setLine hi _ new
  · refine lineOk_deliver hi _ _ _ (Line.consistent_settled hk (.inl ⟨rfl, ?_, rfl⟩) rfl hl.symm)
    exact Option.not_isSome_iff_eq_none.1 (fun e => hc (hq.1 e))
  · obtain ⟨ec, b, el⟩ := line_suppress (s := s) hi
      { x with filtered := p.level, pending := none, state := .steady, recent := recent } p
    have k := (keptApart_lineOk i).kept
    refine k.raise _ (k.place _ (lineOk_setLine hi _ ?_))
    rw [ec, el]
    exact Line.consistent_settled hk (.inr ⟨rfl, rfl⟩) rfl hl.symm

/-! ### Pin changes (R72, R74, R75, R79) -/

/-- A watched line that is in CHATTER with its quiet timer, or outside it without and at one level. -/
def Line.steadyOrChatter (x : Line) : Prop :=
  x.state ≠ .unused ∧ (x.quiet.isSome = true ↔ x.state = .chatter) ∧ (x.state ≠ .chatter → x.effective = x.filtered)

/-- A raw edge of a line that no change pends on (R75, R76). -/
theorem lineOk_startPending (hi : 1 ≤ i ∧ i ≤ 32) (hk : (s.lineCfg i).kind ≠ .unused) (hx : (s.line i).steadyOrChatter)
    (hl : s.lineLevel i ≠ (s.line i).filtered) : (s.startPending i).lineOk i := by
  obtain ⟨-, hq, he⟩ := hx
  unfold State.startPending
  extract_lets x p s1
  have h1 : s1.lineOk i := by
    refine lineOk_setLine hi _ (Line.consistent_pending (p := p) hk ?_ rfl rfl hl)
    by_cases hc : x.state = .chatter
    · exact .inr ⟨if_pos hc, hq.2 hc⟩
    · exact .inl ⟨if_neg hc, Option.not_isSome_iff_eq_none.1 (fun e => hc (hq.1 e)), he hc⟩
  split
  · exact lineOk_qualify hi (congrArg Line.pending (s.line_setLine_self _ hi)) h1
  · exact h1

/-- A raw edge of a line: with no change pending the level is no longer the filtered one; with one pending it is again
(R75, R76, R79). -/
theorem lineOk_rawEdge (hi : 1 ≤ i ∧ i ≤ 32) (hk : (s.lineCfg i).kind ≠ .unused) (hx : (s.line i).steadyOrChatter)
    (hl : (s.line i).pending = none ↔ s.lineLevel i ≠ (s.line i).filtered) : (s.rawEdge i).lineOk i := by
  obtain ⟨hw, hq, he⟩ := hx
  unfold State.rawEdge
  extract_lets x s1
  have e1 := s.line_setLine_self { x with
    lastRawEdge := some s.tsc.e
    quiet := if x.state = .chatter then some (s.tsc.e + s.cfg.window) else x.quiet } hi
  split_ifs with hp
  · have level : s.lineLevel i = x.filtered := by
      by_contra hne
      rw [hl.2 hne] at hp
      exact nomatch hp
    unfold State.bounce
    simp only [s1, e1]
    refine lineOk_setLine hi _ (Line.consistent_settled hk ?_ rfl level)
    by_cases hc : x.state = .chatter
    · exact .inr ⟨if_pos hc, by simp [hc]⟩
    · have hn : x.quiet = none := Option.not_isSome_iff_eq_none.1 (fun e => hc (hq.1 e))
      exact .inl ⟨if_neg hc, (if_neg hc).trans hn, he hc⟩
  · refine lineOk_startPending hi hk ?_ ?_
    · rw [e1]
      refine ⟨hw, ?_, he⟩
      by_cases hc : x.state = .chatter
      · simp [hc]
      · have hn : x.quiet = none := Option.not_isSome_iff_eq_none.1 (fun e => hc (hq.1 e))
        simp [hc, hn]
    · have level : s1.lineLevel i = s.lineLevel i := by
        unfold State.lineLevel
        rw [e1]
        rfl
      rw [level, e1]
      exact hl.1 (Option.not_isSome_iff_eq_none.1 hp)

/-- A line whose pin went to another level (R72, R75, R76). -/
theorem lineOk_pinChange (hi : 1 ≤ i ∧ i ≤ 32) (high : Bool) (h : s.lineOk i) : (s.pinChange i high).lineOk i := by
  unfold State.pinChange
  split
  · exact h
  rename_i same
  extract_lets x s1
  have e1 : s1.line i = { x with pinHigh := high } := s.line_setLine_self _ hi
  obtain ⟨hu, hq, he, hn, -, hl, hlevel⟩ := h
  have flipped : s1.lineLevel i = !s.lineLevel i := by
    unfold State.lineLevel
    rw [e1]
    show (high != (s.lineCfg i).activeLow) = !((s.line i).pinHigh != (s.lineCfg i).activeLow)
    have other : high = !(s.line i).pinHigh := Bool.eq_not.2 (Ne.symm same)
    rw [other]
    cases (s.line i).pinHigh <;> cases (s.lineCfg i).activeLow <;> rfl
  split_ifs with hk
  · have unused : x.state = .unused := hu.2 hk
    have calm : x.state ≠ .chatter := fun e => nomatch unused.symm.trans e
    have stopped : x.quiet = none := Option.not_isSome_iff_eq_none.1 (fun e => calm (hq.1 e))
    exact lineOk_setLine hi _ (Line.consistent_unused hk unused stopped (he calm) (hn (.inl unused)))
  · have watched : x.state ≠ .unused := fun e => hk (hu.1 e)
    refine lineOk_rawEdge hi hk ?_ ?_
    · rw [e1]; exact ⟨watched, hq, he⟩
    · rw [flipped, e1]
      show x.pending = none ↔ (!s.lineLevel i) ≠ x.filtered
      cases hp : x.pending with
      | none => simp [hl watched hp, x]
      | some p =>
        have := (hlevel p hp).2
        simpa using this

/-! ### Chatter ends, bounce counts cleared (R81, R90) -/

theorem lineOk_leaveChatter (hi : 1 ≤ i ∧ i ≤ 32) (hq : (s.line i).quiet ≠ none) (h : s.lineOk i) :
    (s.leaveChatter i).lineOk i := by
  have hk : (s.lineCfg i).kind ≠ .unused := by
    obtain ⟨hu, hc, -⟩ := h
    intro e
    have : (s.line i).state = .chatter := hc.1 (Option.isSome_iff_ne_none.2 hq)
    exact nomatch this.symm.trans (hu.2 e)
  unfold State.leaveChatter
  extract_lets level s1 x differs s2
  have same : s1.line i = s.line i ∧ s1.lineCfg i = s.lineCfg i :=
    (keptApart_lqu (fun v c => nth v i = s.line i ∧ nth c.lines i = s.lineCfg i)).kept.place (s := s) _ ⟨rfl, rfl⟩
  have hx : (x.pinHigh != (s1.lineCfg i).activeLow) = level := by
    show ((s1.line i).pinHigh != (s1.lineCfg i).activeLow) = _
    rw [same.1, same.2]
    rfl
  rw [← same.2] at hk
  split
  · exact lineOk_deliver hi _ _ _ (Line.consistent_settled hk (.inl ⟨rfl, rfl, rfl⟩) rfl hx)
  · rename_i hd
    have agree : level = x.effective := by simpa [differs] using hd
    exact lineOk_setLine hi _ (Line.consistent_settled hk (.inl ⟨rfl, rfl, agree.symm⟩) rfl hx)

/-- The changes of line `j` keep line `i` in a state of R74. -/
theorem keptLine_lineOk (hi : 1 ≤ i ∧ i ≤ 32) (j : Nat) : KeptLine (State.lineOk i) j := by
  by_cases hj : i = j
  · subst hj
    refine ⟨fun _ b h => lineOk_pinChange hi b h, fun s h => ?_, fun _ hq h => lineOk_leaveChatter hi hq h, fun s h => ?_⟩
    · unfold State.filterReached
      split
      · exact h
      · rename_i p hp
        exact lineOk_qualify hi hp h
    · exact lineOk_setLine hi _ h
  · exact .of_free (keptApart_lineOk i).kept j (fun _ x h => lineOk_setLine_other hj x h)

/-! ### The configuration (R87, R92) -/

/-- A reset line stands at its level, or in UNUSED (R87 steps 1 to 4). -/
theorem lineOk_resetLine (hi : 1 ≤ i ∧ i ≤ 32) (s : State) : (s.resetLine i).lineOk i := by
  simp only [State.resetLine]
  split
  · rename_i hk
    exact lineOk_setLine hi _ (Line.consistent_unused hk rfl rfl rfl rfl)
  · rename_i hk
    exact lineOk_setLine hi _ (Line.consistent_settled hk (.inl ⟨rfl, rfl, rfl⟩) rfl rfl)

/-- A line's kind and polarity, on which its state of R74 rests. -/
def Settings.watch (cfg : Settings) (i : Nat) : LineKind × Bool := ((nth cfg.lines i).kind, (nth cfg.lines i).activeLow)

/-- Under a configuration of the same kind and polarity a line keeps its state of R74. -/
theorem lineOk_setCfg (c : Settings) (hc : c.watch i = s.cfg.watch i) (h : s.lineOk i) : (s.setCfg c).lineOk i := by
  obtain ⟨kind, low⟩ := Prod.mk.inj hc
  have kind' : ((s.setCfg c).lineCfg i).kind = (s.lineCfg i).kind := kind
  have low' : ((s.setCfg c).lineCfg i).activeLow = (s.lineCfg i).activeLow := low
  unfold State.lineOk State.lineLevel at *
  rw [kind', low']
  exact h

/-- Writing a line's kind or polarity resets that line; a write of anything else leaves kind and polarity (R87). -/
theorem written_watch (hi : 1 ≤ i ∧ i ≤ 32) (it : Item) (j : Nat) (cfg : Settings) (v : Int) :
    (j = i ∧ (it = .lineKind ∨ it = .linePolarity)) ∨ (it.written cfg j v).watch i = cfg.watch i := by
  have other (x : LineSettings) (hx : j = i → x.kind = (nth cfg.lines i).kind ∧ x.activeLow = (nth cfg.lines i).activeLow) :
      (cfg.setLine j x).watch i = cfg.watch i := by
    unfold Settings.watch Settings.setLine
    by_cases hj : i = j
    · subst hj
      rw [nth_setNth_self _ i x hi, (hx rfl).1, (hx rfl).2]
    · rw [nth_setNth_other _ j i x hj]
  cases it
  case lineKind | linePolarity =>
    by_cases hj : j = i
    · exact .inl ⟨hj, by simp⟩
    · exact .inr (other _ (fun e => absurd e hj))
  case lineUnit | lineFilter | lineComp | lineRecord | lineNotify =>
    exact .inr (other _ (fun e => e ▸ ⟨rfl, rfl⟩))
  all_goals exact .inr rfl

/-- The application of any changed item keeps the line. -/
theorem lineOk_applyItem (hi : 1 ≤ i ∧ i ≤ 32) (old : Settings) (it : Item) (j : Nat) (h : s.lineOk i) :
    (s.applyItem old it j).lineOk i := by
  have k := keptApart_lineOk i
  refine k.kept.applyItem old it j (fun _ h => k.evalClass h) (fun _ h => h) (fun s h => ?_) h
  by_cases hj : i = j
  · exact hj ▸ lineOk_resetLine hi s
  · simp only [State.resetLine]
    split <;> exact lineOk_setLine_other hj _ h

/-- The application of a changed kind or polarity brings the line into a state of R74. -/
theorem lineOk_applyWatch (hi : 1 ≤ i ∧ i ≤ 32) (s : State) (old : Settings) {it : Item}
    (hit : it = .lineKind ∨ it = .linePolarity) : (s.applyItem old it i).lineOk i := by
  rcases hit with rfl | rfl <;> exact (keptApart_lineOk i).kept.tellUnits _ (lineOk_resetLine hi s)

/-- Kind and polarity are told by their values in the table. -/
theorem watch_eq_of_read {c c' : Settings} (hk : Item.lineKind.read c i = Item.lineKind.read c' i)
    (hp : Item.linePolarity.read c i = Item.linePolarity.read c' i) : c.watch i = c'.watch i := by
  have hk : (nth c.lines i).kind.code = (nth c'.lines i).kind.code := Int.ofNat_inj.1 hk
  have hp : flagValue (nth c.lines i).activeLow = flagValue (nth c'.lines i).activeLow := hp
  unfold Settings.watch
  congr 1
  · generalize (nth c.lines i).kind = a at hk
    generalize (nth c'.lines i).kind = b at hk
    revert hk
    cases a <;> cases b <;> decide
  · generalize (nth c.lines i).activeLow = a at hp
    generalize (nth c'.lines i).activeLow = b at hp
    revert hp
    cases a <;> cases b <;> decide

/-- A table of lines made entry by entry. -/
theorem nth_ofFn {α : Type} [Inhabited α] {k : Nat} (f : Fin k → α) (i : Nat) (h : 1 ≤ i ∧ i ≤ k) :
    nth (Vector.ofFn f) i = f ⟨i - 1, by omega⟩ := by
  rw [nth_eq_getElem _ _ h, Vector.getElem_ofFn]

/-- A line as the resets sample it (R91, R92). -/
theorem sampledLine_consistent (pin : Bool) (c : LineSettings) :
    (sampledLine pin c).consistent c.kind (pin != c.activeLow) := by
  unfold sampledLine
  by_cases hk : c.kind = .unused
  · exact Line.consistent_unused hk (if_pos hk) rfl rfl rfl
  · exact Line.consistent_settled hk (.inl ⟨if_neg hk, rfl, rfl⟩) rfl (if_neg hk).symm

/-- Lines sampled under the configuration in force (R91, R92). -/
theorem lineOk_sampled (hi : 1 ≤ i ∧ i ≤ 32) (pin : Fin 32 → Bool)
    (h : s.lqu = Vector.ofFn (fun k => sampledLine (pin k) s.cfg.lines[k])) : s.lineOk i := by
  have e : s.line i = sampledLine (pin ⟨i - 1, by omega⟩) (s.lineCfg i) := by
    unfold State.line State.lineCfg
    rw [h, nth_ofFn _ i hi, nth_eq_getElem _ i hi]
    rfl
  unfold State.lineOk State.lineLevel
  rw [e]
  exact sampledLine_consistent _ _

theorem keptConfig_lineOk (hi : 1 ≤ i ∧ i ≤ 32) : KeptConfig (State.lineOk i) where
  storeItem := fun s it j v _ _ h => by
    refine (keptApart_lineOk i).kept.storeItem_of ?_
    rcases written_watch hi it j s.cfg v with ⟨rfl, hit⟩ | same
    · exact lineOk_applyWatch hi _ _ hit
    · exact lineOk_applyItem hi _ it j (lineOk_setCfg _ same h)
  takeDefaults := fun s h => by
    refine (keptApart_lineOk i).kept.takeDefaults_of fun n => ?_
    have reached (it : Item) (hit : it = .lineKind ∨ it = .linePolarity) (hx : i ∈ it.scope.indices)
        (hr : it.read s.cfg i ≠ it.read Settings.dflt i) :
        (forAll (freeOrder s.draws (changedEntries s.cfg Settings.dflt)) (fun p => State.applyItem s.cfg p.1 p.2)
          ((s.setCfg Settings.dflt).setDraws n)).lineOk i :=
      forAll_reaches (W := fun _ => True) (P := State.lineOk i) (mem_defaultChanges s.cfg s.draws hx hr)
        (fun _ _ _ => trivial) (fun p _ h => lineOk_applyItem hi _ p.1 p.2 h) (fun s _ => lineOk_applyWatch hi s _ hit)
        trivial
    have index : i ∈ numbers 32 := (mem_numbers 32 i).2 hi
    by_cases hk : Item.lineKind.read s.cfg i = Item.lineKind.read Settings.dflt i
    · by_cases hp : Item.linePolarity.read s.cfg i = Item.linePolarity.read Settings.dflt i
      · exact forAll_keeps (State.lineOk i) _ _ (fun p _ s h => lineOk_applyItem hi _ p.1 p.2 h) _
          (lineOk_setCfg (s := s) Settings.dflt (watch_eq_of_read hk hp).symm h)
      · exact reached .linePolarity (.inr rfl) index hp
    · exact reached .lineKind (.inl rfl) index hk
  restart := fun s h => by
    have k := keptApart_lineOk i
    have any : Kept (fun _ => True) := (keptApart_lqu (fun _ _ => True)).kept
    have sampled (s : State) : s.resample.lineOk i := lineOk_sampled hi (fun k => s.pins[k]) rfl
    refine any.restart_of k.kept (fun _ _ _ => trivial) (fun s _ => ?_) h
    rcases eitherOrder_cases State.restartDsc State.restartLines s with e | e <;> rw [e]
    · exact k.kept.restartLines (sampled _)
    · exact k.kept.restartDsc (k.evalClass (k.dsc _ _ (k.kept.restartLines (sampled _))))

theorem keptRun_lineOk (hi : 1 ≤ i ∧ i ≤ 32) : KeptRun (State.lineOk i) where
  base := (keptApart_lineOk i).kept
  time := ⟨fun _ _ h => h, fun _ h => h⟩
  link := fun _ _ h => h
  lines := keptLine_lineOk hi
  config := keptConfig_lineOk hi

/-- Settles O57: line by line, each change leads from one state of R74 to another, and a reset of the line or a sampling
of the pins starts in one. -/
theorem linesStayConsistent : Obligations.LinesStayConsistent := by
  intro s t h he i hi
  have hi' : 1 ≤ i ∧ i ≤ 32 := by simpa [lineExists] using hi
  have loads : KeptLoads (State.lineOk i) := (keptApart_lineOk i).loads (fun _ _ _ h => h)
    (fun s straps pins store _ => lineOk_sampled hi' (fun k => pins.getLsbD k.val) rfl)
  exact step_keeps (keptRun_lineOk hi') ((keptApart_lineOk i).samples (fun _ _ h => h) (fun _ _ h => h)) loads (fun _ _ h => h) he (h i hi)

end Sys2Proof.Machine

/-! PROOFS. Station time is not stepped in LOCKED: what a sample, the characters of REF-A and the bytes of the link can
do in one command that finds the part in LOCKED. -/

namespace Sys2Proof.Machine

variable {P : State → Prop} {s : State}

/-! ### A sample in LOCKED (R36, R47, R51, R54) -/

/-- Being told of a change of state leaves the selection (R34). -/
@[simp] theorem Receiver.told_selection (r : Receiver) (old new : DiscState) : (r.told old new).selection = r.selection := by
  unfold Receiver.told
  split <;> rfl

/-- A report of a state change leaves the selection (R34, R56). -/
theorem reportDisc_selection (s : State) (old : DiscState) : (s.reportDisc old).rrx.selection = s.rrx.selection := by
  have same : Unchanged Part.recording s ((s.place { detail := .disc old s.dsc.state s.dsc.effClass }).raise .disciplineChange) :=
    (place_unchanged s (List.Subset.refl _) _).trans (raise_unchanged _ (by decide) _)
  simp only [State.reportDisc, State.setRrx_rrx, Receiver.told_selection]
  exact congrArg Receiver.selection (same .rrx (by decide))

/-- Losing the selection in LOCKED is handed to the discipline, which touches no selection (R54). -/
theorem discSelection_selection (s : State) (new : Option Source) :
    (s.discSelection new).rrx.selection = s.rrx.selection := by
  have evaluated (t : State) : t.evalClass.rrx = t.rrx :=
    evalClass_unchanged (L := [.dsc, .current]) t (by decide) (by decide) .rrx (by decide)
  have held (t : State) : t.enterHoldover.rrx.selection = t.rrx.selection := by
    simp only [State.enterHoldover, reportDisc_selection, evaluated, State.setDsc_rrx]
  simp only [State.discSelection]
  split <;> simp only [evaluated, held, State.setDsc_rrx]

/-- An evaluation of the selection in LOCKED keeps LOCKED, or leaves no selection (R36, R54). -/
theorem evalSelection_locked (b : Bool) (hl : s.dsc.state = .locked) :
    (s.evalSelection b).dsc.state = .locked ∨ (s.evalSelection b).rrx.selection = none := by
  unfold State.evalSelection
  extract_lets new named st
  split
  · exact .inl hl
  · let u := (s.setRrx { s.rrx with selection := new }).settleRevert.placeRef named st st new
    have same : Unchanged Part.recording (s.setRrx { s.rrx with selection := new }).settleRevert u :=
      placeRef_unchanged _ (List.Subset.refl _) _ _ _ _
    have hd : u.dsc.state = .locked := (congrArg Discipline.state (same .dsc (by decide))).trans hl
    have hr : u.rrx.selection = new := congrArg Receiver.selection (same .rrx (by decide))
    show (u.discSelection new).dsc.state = .locked ∨ (u.discSelection new).rrx.selection = none
    cases hn : new with
    | some x => exact .inl (by simp [State.discSelection, hd, State.evalClass_dsc, Discipline.restart])
    | none => exact .inr ((discSelection_selection u none).trans (hr.trans hn))

theorem sourceMoved_locked (x : Source) (old : SourceState) (hl : s.dsc.state = .locked) :
    (s.sourceMoved x old).dsc.state = .locked ∨ (s.sourceMoved x old).rrx.selection = none := by
  simp only [State.sourceMoved]
  split
  · exact .inl hl
  · have same : Unchanged Part.recording s (s.placeRef x old (s.rrx.src x).state s.rrx.selection) :=
      placeRef_unchanged _ (List.Subset.refl _) _ _ _ _
    exact evalSelection_locked false ((congrArg Discipline.state (same .dsc (by decide))).trans hl)

/-- A property that everything but a step of station time keeps is kept by a mark taken in LOCKED: its sample is
processed as one of LOCKED, which never steps (R47). -/
theorem KeptApart.takeRefEvent_locked (k : KeptApart P) (x : Source) (ev : RefEvent) (hl : s.dsc.state = .locked)
    (h : P s) : P (s.takeRefEvent x ev) := by
  have sample (t : State) (src : Source) (e : Int) (cls : Nat) (h : P t) : P (t.processSample src e cls false false) := by
    unfold State.processSample
    extract_lets old d s1 s2 stepped s3 s4
    have h4 : P s4 := k.evalClass (k.dsc _ _ (k.dsc _ _ (k.dsc t _ h)))
    split
    · exact h4
    · exact k.kept.reportDisc _ h4
  have h1 : P (s.setSrc x ((s.rrx.src x).take s.cfg s.dsc.state.supervised s.dsc.u ev)) :=
    k.rrx s _ (Receiver.calmTo_setSrc _ _ _) h
  have moved := sourceMoved_locked (s := s.setSrc x ((s.rrx.src x).take s.cfg s.dsc.state.supervised s.dsc.u ev)) x
    (s.rrx.src x).state hl
  have h2 := k.kept.sourceMoved x (s.rrx.src x).state h1
  unfold State.takeRefEvent
  extract_lets d
  generalize (s.setSrc x (d.take s.cfg s.dsc.state.supervised s.dsc.u ev)).sourceMoved x d.state = t at moved h2
  simp only [State.handToDsc]
  split
  · rename_i selected
    have locked : t.dsc.state = .locked := moved.resolve_right (fun e => nomatch e.symm.trans selected)
    split
    · simp only [State.discSample, locked]
      split
      · exact k.kept.discMissing h2
      · exact sample _ _ _ _ h2
    · exact h2
    · exact k.kept.discMissing h2
  · exact h2

/-- An accepted frame in LOCKED: its leap first or its sample first (R25, entry 11). -/
theorem KeptApart.acceptFrame_locked (k : KeptApart P) (mark : Latch) (m : StationMessage) (hl : s.dsc.state = .locked)
    (h : P (s.setRrx (s.rrx.accepted mark m))) : P (s.acceptFrame mark m) := by
  have leapKeeps (t : State) (ht : t.dsc.state = .locked) : (t.takeLeapInfo m).dsc.state = .locked :=
    (congrArg Discipline.state (takeLeapInfo_unchanged (L := .leap :: Part.firing) t (by decide) (by decide) m .dsc
      (by decide))).trans ht
  unfold State.acceptFrame
  rcases eitherOrder_cases (State.takeLeapInfo m)
    (State.takeRefEvent .a (.mark (some (sampleOfFrame s.cfg mark m)) mark.epoch (sourceClassOf m)))
    (s.setRrx (s.rrx.accepted mark m)) with e | e <;> rw [e]
  · exact k.takeRefEvent_locked _ _ (leapKeeps _ hl) (k.kept.takeLeapInfo m (k.draw _ _ h))
  · exact k.kept.takeLeapInfo m (k.takeRefEvent_locked _ _ hl (k.draw _ _ h))

/-! ### The epoch -/

/-- The epoch, and what else the link and the receiver's characters have to do with it: a property of the epoch and the
link. -/
theorem keptApart_epoch (R : Nat → LinkController → Prop) : KeptApart (fun s => R s.tsc.epoch s.lkc) where
  tracker := fun _ _ h => h
  fired := fun _ _ h => h
  leap := fun _ _ _ h => h
  draw := fun _ _ h => h
  rrx := fun _ _ _ h => h
  ftx := fun _ _ h => h
  dsc := fun _ _ h => h
  shu := fun _ _ h => h
  stc := fun _ _ h => h
  queue := fun _ _ _ h => h
  notices := fun _ _ _ h => h
  unit := fun _ _ _ _ h => h
  nextEval := fun _ _ h => h

/-- The epoch stands, and no candidate and no previous character is in hand. -/
def State.forgotten (e : Nat) (s : State) : Prop :=
  s.tsc.epoch = e ∧ s.rrx.candidate = none ∧ s.rrx.prevChar = none

theorem keptApart_forgotten (e : Nat) : KeptApart (State.forgotten e) where
  tracker := fun _ _ h => h
  fired := fun _ _ h => h
  leap := fun _ _ _ h => h
  draw := fun _ _ h => h
  rrx := fun _ _ hx h => ⟨h.1, hx.elim (fun c => ⟨c.1.trans h.2.1, c.2.trans h.2.2⟩) id⟩
  ftx := fun _ _ h => h
  dsc := fun _ _ h => h
  shu := fun _ _ h => h
  stc := fun _ _ h => h
  queue := fun _ _ _ h => h
  notices := fun _ _ _ h => h
  unit := fun _ _ _ _ h => h
  nextEval := fun _ _ h => h

/-! ### The characters of REF-A (R20 to R22) -/

/-- The characters that still have to come before a candidate can be complete. -/
def Receiver.owed (r : Receiver) : Nat :=
  match r.candidate with
  | some c => candidateLength - c.bytes.length
  | none => if r.prevChar = none then candidateLength else candidateLength - 1

/-- With `n` characters still to come: the epoch stands, and the part is in LOCKED or no candidate can complete. -/
def State.stepless (e n : Nat) (s : State) : Prop :=
  s.tsc.epoch = e ∧ (s.dsc.state = .locked ∨ n < s.rrx.owed)

theorem State.forgotten.stepless {e n : Nat} (h : s.forgotten e) (hn : n < 13) : s.stepless e n := by
  obtain ⟨he, hc, hp⟩ := h
  refine ⟨he, .inr ?_⟩
  simp only [Receiver.owed, hc, hp]
  exact hn

/-- A discard forgets what was in hand (R20, R22). -/
theorem discard_forgotten (why : Discard) (mark : Nat) : (s.discard why mark).forgotten s.tsc.epoch :=
  (keptApart_forgotten s.tsc.epoch).kept.takeDeferred mark
    (show (s.setRrx (s.rrx.discarded why)).forgotten s.tsc.epoch from ⟨rfl, Receiver.discarded_forgets _ _⟩)

/-- A complete candidate judged in LOCKED (R22). -/
theorem takeFrame_forgotten (mark : Latch) (m : StationMessage) (check : BitVec 16) (hl : s.dsc.state = .locked) :
    (s.takeFrame mark m check).forgotten s.tsc.epoch := by
  simp only [State.takeFrame]
  split
  · exact discard_forgotten _ _
  · exact (keptApart_forgotten s.tsc.epoch).acceptFrame_locked mark m hl ⟨rfl, rfl, rfl⟩

/-- One character completed, of the thirteen at most that a frame has (R20). -/
theorem completeChar_stepless {e n : Nat} (v : Byte) (hn : n < 13) (h : s.stepless e (n + 1)) :
    (s.completeChar v).stepless e n := by
  obtain ⟨rfl, h⟩ := h
  unfold State.completeChar
  split
  · exact ⟨rfl, h.imp_right (fun h => by omega)⟩
  · rename_i latch _
    dsimp only
    generalize hs1 : s.setRrx { s.rrx with begun := none, prevChar := some (v, latch) } = s1
    have e1 : s1.tsc.epoch = s.tsc.epoch := by rw [← hs1]; rfl
    have d1 : s1.dsc.state = s.dsc.state := by rw [← hs1]; rfl
    have c1 : s1.rrx.candidate = s.rrx.candidate := by rw [← hs1]; rfl
    have p1 : s1.rrx.prevChar ≠ none := by rw [← hs1]; exact nofun
    have gone (why : Discard) (mark : Nat) : (s1.discard why mark).stepless s.tsc.epoch n :=
      e1 ▸ (discard_forgotten why mark).stepless hn
    split
    · rename_i hc
      have searching : s1.stepless s.tsc.epoch n := by
        refine ⟨e1, (h.imp (d1 ▸ ·) fun h => ?_)⟩
        have : s.rrx.owed ≤ 13 := by simp only [Receiver.owed, hc]; split <;> decide
        simp only [Receiver.owed, c1, hc, p1, if_false, candidateLength]
        omega
      unfold State.searchPair
      split
      · exact searching
      · rename_i p mark hp
        split
        · unfold State.openCandidate
          split
          · refine ⟨e1, (h.imp (d1 ▸ ·) fun h => ?_)⟩
            have : s.rrx.owed = 12 := by simp [Receiver.owed, hc, hp, candidateLength]
            show n < 11
            omega
          · exact gone _ _
        · exact searching
    · rename_i c hc
      have owed : s.rrx.owed = 13 - c.bytes.length := by simp only [Receiver.owed, hc, candidateLength]
      unfold State.appendChar
      extract_lets bytes
      have length : bytes.length = c.bytes.length + 1 := by simp [bytes]
      split
      · exact gone _ _
      · split
        · refine ⟨e1, (h.imp (d1 ▸ ·) fun h => ?_)⟩
          show n < 13 - bytes.length
          omega
        · rename_i complete
          have locked : s1.dsc.state = .locked := by
            refine d1.trans (h.resolve_right ?_)
            simp only [candidateLength] at complete
            omega
          split
          · exact e1 ▸ (takeFrame_forgotten _ _ _ locked).stepless hn
          · exact gone _ _

/-- Begun and completed at one instant (R19, R20). -/
theorem takeChar_stepless {e n : Nat} (v : Byte) (hn : n < 13) (h : s.stepless e (n + 1)) :
    (s.takeChar v).stepless e n := completeChar_stepless v hn (s := s.beginChar) h

/-- Thirteen characters at most, from LOCKED on, step nothing (R22, R47). -/
theorem takeChars_epoch {e : Nat} (vs : List Byte) (hv : vs.length ≤ 13) (h : s.stepless e vs.length) :
    (forAll vs State.takeChar s).tsc.epoch = e := by
  induction vs generalizing s with
  | nil => exact h.1
  | cons v vs ih =>
    have fewer : vs.length < 13 := hv
    rw [forAll_cons]
    exact ih fewer.le (takeChar_stepless v fewer h)

/-! ### The bytes of the link (R183 to R185) -/

/-- The epoch stands, and the part is in LOCKED or a reply is in progress. -/
def State.answering (e : Nat) (s : State) : Prop :=
  s.tsc.epoch = e ∧ (s.dsc.state = .locked ∨ s.lkc.reply.isSome = true)

theorem keptRun_epoch (e : Nat) : KeptRun (fun s => s.tsc.epoch = e) :=
  (keptApart_epoch (fun x _ => x = e)).run ⟨fun _ _ h => h, fun _ h => h⟩ (fun _ _ h => h) (fun _ _ h => h) (fun _ _ h => h)

theorem keptPreset_epoch (e : Nat) : KeptPreset (fun s => s.tsc.epoch = e) := fun _ _ _ u h => by
  have k := (keptApart_epoch (fun x _ => x = e)).kept
  exact k.evalMaintenance u (k.place _ (k.checkpointNow u h))

/-- TSET is refused in LOCKED (R57). -/
theorem serveTset_locked (seconds : BitVec 40) (micros : BitVec 24) (u : BitVec 32) (hl : s.dsc.state = .locked) :
    serveTset seconds micros u s = (s, { result := .state }) := by
  simp only [serveTset, hl]

theorem sendReply_answering (kind tag : Byte) (a : Answer) : (s.sendReply kind tag a).answering s.tsc.epoch :=
  ⟨rfl, .inr rfl⟩

/-- A restart touches neither the epoch nor the link (R18, R190). -/
theorem restart_keepsLink (s : State) : s.restart.tsc.epoch = s.tsc.epoch ∧ s.restart.lkc = s.lkc := by
  have k := keptApart_epoch (fun e l => e = s.tsc.epoch ∧ l = s.lkc)
  have c : KeptConfig (fun x => x.tsc.epoch = s.tsc.epoch ∧ x.lkc = s.lkc) :=
    .of_free k.kept k.dsc (fun _ _ h => h) (fun _ _ h => h)
  exact c.restart s ⟨rfl, rfl⟩

theorem takeRestart_answering (tag : Byte) (hr : s.lkc.reply.isSome = false) :
    (s.takeRestart tag).answering s.tsc.epoch := by
  simp only [State.takeRestart, hr]
  split
  · exact nomatch ‹false = true›
  · split
    · exact sendReply_answering _ _ _
    · obtain ⟨he, hk⟩ := restart_keepsLink (s.sendReply Kind.rstrt.code tag { result := .ok })
      exact ⟨he, .inr (by rw [hk]; rfl)⟩

/-- A request whose owner leaves the epoch. -/
theorem takeRequest_answering (k : Kind) (tag : Byte) (serve : State → State × Answer) (hr : s.lkc.reply.isSome = false)
    (hs : (serve s).1.tsc.epoch = s.tsc.epoch) : (s.takeRequest k tag serve).answering s.tsc.epoch := by
  simp only [State.takeRequest, hr]
  split
  · exact nomatch ‹false = true›
  · split
    · exact sendReply_answering _ _ _
    · exact hs ▸ sendReply_answering _ _ _

/-- A complete frame judged (R184, R185): whatever it asks, it steps nothing and leaves a reply in progress. -/
theorem judgeFrameBytes_answering {e : Nat} (kind tag : Byte) (body : List Byte) (check : BitVec 16)
    (h : s.answering e) : (s.judgeFrameBytes kind tag body check).answering e := by
  obtain ⟨rfl, h⟩ := h
  unfold State.judgeFrameBytes
  split
  · exact ⟨rfl, h⟩
  split
  · exact ⟨rfl, h⟩
  rename_i free
  have locked : s.dsc.state = .locked := h.resolve_right free
  have hr : s.lkc.reply.isSome = false := by simpa using free
  unfold State.takeGoodFrame
  split
  · exact sendReply_answering _ _ _
  · rename_i k _
    split
    · exact sendReply_answering _ _ _
    · rename_i f hf
      split
      · exact takeRestart_answering tag hr
      · refine takeRequest_answering k tag f hr ?_
        exact (keptRun_epoch s.tsc.epoch).serve (fun a b c _ => by rw [serveTset_locked a b c locked])
          (keptPreset_epoch _) k body hf rfl

theorem setLkc_answering {e : Nat} (s : State) (x : LinkController) (hx : x.reply = s.lkc.reply) (h : s.answering e) :
    (s.setLkc x).answering e := ⟨h.1, h.2.imp_right (fun hr => hx ▸ hr)⟩

/-- Settles O59: outside samples, requests and loads nothing steps; a sample in LOCKED steps nothing, no frame can
complete a second candidate, and no request a second reply. -/
theorem lockedTimeIsNeverStepped : Obligations.LockedTimeIsNeverStepped := by
  intro c s t hl hp he
  have start : s.answering s.tsc.epoch := ⟨rfl, .inl hl⟩
  have judged (t : State) (kind tag : Byte) (body : List Byte) (check : BitVec 16) (h : t.answering s.tsc.epoch) :=
    judgeFrameBytes_answering kind tag body check h
  have long (kind tag : Byte) (body : List Byte) (check : BitVec 16) :=
    takeLongFrame_keeps setLkc_answering judged kind tag body check start
  have link := (keptRun_epoch s.tsc.epoch).link
  have base := (keptRun_epoch s.tsc.epoch).base
  have next {t' : State} (ht : t'.tsc.epoch = s.tsc.epoch)
      (he : .next t' = (.next t : Host.Outcome State Fault Refusal)) : t.tsc.epoch = s.tsc.epoch := by
    cases he; exact ht
  by_cases hc : sampling c = true
  · cases c
    case refaFrame m check => exact next (takeChars_epoch (m.characters check) (Nat.le_refl 13) ⟨rfl, .inl hl⟩) he
    case refaCharacter moment stop =>
      cases moment with
      | begins => exact next (t' := s.beginChar) rfl he
      | completes v => exact next (completeChar_stepless (n := 0) v (by decide) ⟨rfl, .inl hl⟩).1 he
    case refbPulse =>
      have k := keptApart_epoch (fun e _ => e = s.tsc.epoch)
      have he : execRefbPulse s = .next t := he
      unfold execRefbPulse at he
      split at he
      · cases he; rfl
      · exact next (k.takeRefEvent_locked _ _ (s := s.setRrx (s.rrx.acceptedPulse s.latch)) hl rfl) he
    case tset tag seconds micros u =>
      exact next (link.takeRequest _ _ _ (fun _ => by rw [serveTset_locked _ _ _ hl]) rfl) he
    case requestFrame kind tag body check =>
      have he : execRequestFrame kind tag body check s = .next t := he
      unfold execRequestFrame State.takeFrameBytes at he
      split at he
      · exact next (judgeFrameBytes_answering kind tag body check start).1 he
      · exact next (long kind tag body check).1 he
    case linkByte moment =>
      exact next (takeByteMoment_keeps setLkc_answering judged moment start).1 he
    case schw tag entries =>
      have he : execSchw tag entries s = .next t := he
      unfold execSchw at he
      dsimp only at he
      split at he
      · exact next (link.takeRequest _ _ _ (base.serveSchw entries) rfl) he
      · exact next (long _ _ _ _).1 he
    all_goals exact nomatch hc
  · exact exec_keeps (keptRun_epoch s.tsc.epoch) (fun h => absurd h hc) (fun _ => keptPreset_epoch _)
      (fun _ _ _ e => absurd e (hp _ _ _)) he rfl

end Sys2Proof.Machine

/-! PROOFS. The step on a waiting command, the power-on reset of an erased part, and what every step keeps at that reset. -/

namespace Sys2Proof.Machine

/-- Settles O1: the front of the queue is what `step` takes. -/
theorem frontCommandIsExecuted : Obligations.FrontCommandIsExecuted := fun _ _ => rfl

/-! ### The reset of an erased part (R172) -/

/-- The reset state is the power-on of itself. -/
theorem reset_powerOn : State.reset.powerOn 0 0 false = State.reset := by decide +kernel

/-- Settles O4: a power-on reads the store, the save in flight and the model's own two counts, and nothing else. -/
theorem resetIsThePowerOnOfAnErasedPart : Obligations.ResetIsThePowerOnOfAnErasedPart := by
  intro s hs hf hd hp
  have erased : s.stc.afterPowerLoss = State.reset.stc.afterPowerLoss := by
    simp only [StoreController.afterPowerLoss, hf, hs]
    rfl
  have values (store : Store) : s.powerOnValues 0 0 store = State.reset.powerOnValues 0 0 store := by
    simp only [State.powerOnValues, hd, hp]
    rfl
  have same : s.powerOn 0 0 false = State.reset.powerOn 0 0 false := by
    simp only [State.powerOn, erased, values]
  show Host.Outcome.next (s.powerOn 0 0 false) = _
  rw [same, reset_powerOn]

/-- Every line of the reset part is UNUSED (R91). -/
theorem reset_lineOk {i : Nat} (hi : 1 ≤ i ∧ i ≤ 32) : State.reset.lineOk i := by
  have kind : (State.reset.lineCfg i).kind = .unused := by
    show (nth (Vector.replicate 32 LineSettings.dflt) i).kind = .unused
    rw [nth_eq_getElem _ i hi, Vector.getElem_replicate]
    rfl
  have line : State.reset.line i = sampledLine false LineSettings.dflt := by
    show nth (Vector.replicate 32 _) i = _
    rw [nth_eq_getElem _ i hi, Vector.getElem_replicate]
    rfl
  unfold State.lineOk
  rw [line]
  exact Line.consistent_unused kind rfl rfl rfl rfl

/-- Every tally of the reset part is empty (R130). -/
theorem reset_tally {u : Nat} (hu : 1 ≤ u ∧ u ≤ 8) : (State.reset.unit u).tally = Tally.zero := by
  show (nth (Vector.replicate 8 _) u : GenUnit).tally = _
  rw [nth_eq_getElem _ u hu, Vector.getElem_replicate]

/-- Settles O58, conjunct by conjunct on the values of the reset. -/
theorem resetMeetsWhatStepsKeep : Obligations.ResetMeetsWhatStepsKeep := by
  have queue : State.reset.evq.consistent :=
    ⟨by decide, List.pairwise_singleton _ _, fun n e => by
      cases e
      exact ⟨by decide, by simp [State.reset]⟩, 0, by decide, by simp, by simp [State.reset]⟩
  have lists : State.reset.shiftsConsistent := by
    refine ⟨historyConsistent_nil (by decide) (by decide), ⟨Nat.zero_le _, List.Pairwise.nil⟩, fun x h => ?_, fun f x h => ?_⟩
    · exact nomatch (show Store.erased = .holds x from h)
    · exact nomatch (show (none : Option SaveInFlight) = some f from h)
  have lines : State.reset.linesConsistent := fun i hi => reset_lineOk (by simpa [lineExists] using hi)
  have tallies : State.reset.talliesInRange := fun u hu => by
    rw [reset_tally (by simpa [unitExists] using hu)]
    exact ⟨fun m => by cases m <;> exact ⟨by decide, by decide⟩, by decide, by decide⟩
  exact ⟨queue, ⟨by decide, by decide⟩, ⟨by decide, by decide, by decide⟩,
    ⟨by decide, by decide, by decide, by decide, by decide⟩, lists, lines, tallies, nofun⟩

end Sys2Proof.Machine

/-! PROOFS. The passage of time: what a run takes, a command sent ahead of its instant, one cycle on an empty queue, a
second boundary reached with nothing else before it, and the ends on the serial lines. -/

namespace Sys2Proof.Machine

variable {s : State}

/-! ### A run takes the time to its goal (entry 3) -/

/-- A property of the clock and the epoch. -/
theorem keptApart_clock (R : Nat → Nat → Nat → Nat → Nat → Prop) :
    KeptApart (fun s => R s.tsc.s s.tsc.n s.tsc.e s.tsc.eSub s.tsc.epoch) where
  tracker := fun _ _ h => h
  fired := fun _ _ h => h
  leap := fun _ _ _ h => h
  draw := fun _ _ h => h
  rrx := fun _ _ _ h => h
  ftx := fun _ _ h => h
  dsc := fun _ _ h => h
  shu := fun _ _ h => h
  stc := fun _ _ h => h
  queue := fun _ _ _ h => h
  notices := fun _ _ _ h => h
  unit := fun _ _ _ _ h => h
  nextEval := fun _ _ h => h

/-- An event of the part's own clock takes no time. -/
theorem happen_elapsed {ev : TimedEvent} (hi : ev.instant s ≠ none) : (ev.happen s).tsc.elapsed = s.tsc.elapsed := by
  have k := (keptApart_clock (fun _ _ e sub _ => e * 1000 + sub = s.tsc.elapsed)).kept
  exact k.event (fun _ _ h => h) (.of_free k (fun _ _ _ h => h)) ev hi rfl

/-- Neither do the events at a boundary, and its work. -/
theorem atBoundary_elapsed (s : State) : s.atBoundary.tsc.elapsed = s.tsc.elapsed := by
  have k := (keptApart_clock (fun _ _ e sub _ => e * 1000 + sub = s.tsc.elapsed)).kept
  have boundary (t : State) (h : t.tsc.elapsed = s.tsc.elapsed) : t.boundaryWork.tsc.elapsed = s.tsc.elapsed :=
    k.boundaryWork h
  simp only [State.atBoundary]
  split
  · exact boundary s rfl
  · refine boundary _ (forAll_keeps (fun t => t.tsc.elapsed = s.tsc.elapsed) _ _ (fun ev _ t h => ?_) _ rfl)
    split
    · rename_i hd
      exact (happen_elapsed (State.instant_of_isDue hd)).trans h
    · exact h

theorem passTime_elapsed (s : State) (ns : Nat) : (s.passTime ns).tsc.elapsed = s.tsc.elapsed + ns := by
  simp only [State.passTime]
  split
  · exact State.pass_elapsed s ns
  · rename_i h
    simp only [State.pass_elapsed, atBoundary_elapsed, TimeScale.toBoundary]
    omega

/-- The next instant lies at the goal or before it. -/
theorem nextInstant_le (s : State) (goal : Nat) : s.nextInstant goal ≤ goal := by
  have least (xs : List Nat) (m : Nat) : xs.foldl (fun m t => min m (t * 1000)) m ≤ m := by
    induction xs generalizing m with
    | nil => exact Nat.le_refl m
    | cons x xs ih => exact (ih _).trans (Nat.min_le_left _ _)
  exact least _ goal

/-- A run ends at its goal, or where it began when that lies behind. -/
theorem runTo_elapsed (s : State) (goal : Nat) : (s.runTo goal).tsc.elapsed = max s.tsc.elapsed goal := by
  have run (fuel : Nat) : ∀ s : State, s.tsc.elapsed ≤ goal → (State.runAux fuel goal s).tsc.elapsed = goal := by
    induction fuel with
    | zero => exact fun s h => (passTime_elapsed s _).trans (by omega)
    | succ n ih =>
      intro s h
      simp only [State.runAux]
      split
      · omega
      · split
        · rename_i ev hp
          have stands : ev.instant (s.setDraws (s.draws + 1)) ≠ none := by
            have := State.instant_of_pickDue hp
            cases ev <;> exact this
          exact ih _ ((happen_elapsed stands).trans_le h)
        · refine ih _ ?_
          have := nextInstant_le s goal
          have : s.stride goal ≤ s.nextInstant goal - s.tsc.elapsed := Nat.min_le_left _ _
          rw [passTime_elapsed]
          omega
  rcases Nat.le_total goal s.tsc.elapsed with h | h
  · rw [State.runTo_of_le h, Nat.max_eq_left h]
  · rw [State.runTo, run _ s h, Nat.max_eq_right h]

/-- A command that awaits an event, sent ahead of its instant: the run, and then the event when its timer still stands
(entry 3). -/
theorem sent_of_await {c : Instr} {ev : TimedEvent} {timer : State → Option Nat}
    (hc : ∀ s, exec c s = .next (s.await ev (timer s))) (hi : ∀ s x, ev.instant s = some x → timer s = some x) (s : State)
    (at' : Nat) (ht : timer s = some at') :
    let r := s.runToE at'
    r.tsc.elapsed = max s.tsc.elapsed (at' * 1000)
      ∧ (timer r = some at' → exec c s = exec c r) ∧ (timer r ≠ some at' → exec c s = .next r) := by
  intro r
  have he : r.tsc.elapsed = max s.tsc.elapsed (at' * 1000) := runTo_elapsed s _
  have again : r.runToE at' = r := State.runTo_of_le (by rw [he]; exact Nat.le_max_right _ _)
  refine ⟨he, fun hr => ?_, fun hr => ?_⟩
  · rw [hc, hc, ht, hr]
    simp only [State.await, again]
    rfl
  · rw [hc, ht]
    have : ev.instant r ≠ some at' := fun h => hr (hi r at' h)
    simp only [State.await]
    exact congrArg _ (if_neg this)

/-- A candidate in hand can only hold an instant of REF-A back (R29). -/
theorem undeferred_eq_some {r : Receiver} {x : Source} {t : Option Nat} {a : Nat} (h : r.undeferred x t = some a) :
    t = some a := (Option.filter_eq_some_iff.1 h).1

/-! ### A cycle on an empty queue (R3, R6) -/

/-- With no event up to a boundary and past it, a run to the boundary is its work alone (R6). -/
theorem runTo_boundary (hn : s.tsc.n < nsPerS) (hq : s.quiet (s.tsc.elapsed + s.tsc.toBoundary + 1)) :
    s.runTo (s.tsc.elapsed + s.tsc.toBoundary) = ((s.pass s.tsc.toBoundary).boundaryWork).pass 0 := by
  have ahead : 0 < s.tsc.toBoundary := by simp only [TimeScale.toBoundary]; omega
  have quiet : s.quiet (s.tsc.elapsed + s.tsc.toBoundary) := fun ev hev x hx => by
    have := hq ev hev x hx
    omega
  have nothing : (s.pass s.tsc.toBoundary).dueEvents = [] := by
    refine State.dueEvents_of_quiet (goal := s.tsc.elapsed + s.tsc.toBoundary + 1) (fun ev hev x hx => ?_) ?_
    · exact hq ev hev x ((TimedEvent.instant_setTsc ev s _).symm.trans hx)
    · rw [State.pass_elapsed]; omega
  have reached : s.passTime s.tsc.toBoundary = ((s.pass s.tsc.toBoundary).boundaryWork).pass 0 := by
    rw [State.passTime_toBoundary hn, State.atBoundary_of_nil nothing]
  have hend : s.tsc.elapsed + s.tsc.toBoundary ≤ (s.passTime s.tsc.toBoundary).tsc.elapsed :=
    (passTime_elapsed s _).ge
  rw [State.runTo, State.runAux_quiet quiet (by omega), Nat.add_sub_cancel_left, Nat.min_self]
  rw [State.runAux_of_le hend, reached]

/-- The time that passes in one cycle: whole ns, and the part of a ns kept for the next (R3). -/
theorem step_of_empty (hp : s.pending = []) : step s = .next s.tick := by
  simp only [step, hp]

/-- Time that passes in two parts passes as one. -/
theorem TimeScale.advance_advance (t : TimeScale) (a b : Nat) : (t.advance a).advance b = t.advance (a + b) := by
  have seconds : (((t.s + (t.n + a) / nsPerS) % secondsModulus) + ((t.n + a) % nsPerS + b) / nsPerS) % secondsModulus
      = (t.s + (t.n + (a + b)) / nsPerS) % secondsModulus := by
    rw [Nat.mod_add_mod]
    congr 1
    simp only [nsPerS]
    omega
  have ns : ((t.n + a) % nsPerS + b) % nsPerS = (t.n + (a + b)) % nsPerS := by rw [Nat.mod_add_mod, Nat.add_assoc]
  have e : t.e + (t.eSub + a) / 1000 + ((t.eSub + a) % 1000 + b) / 1000 = t.e + (t.eSub + (a + b)) / 1000 := by omega
  have sub : ((t.eSub + a) % 1000 + b) % 1000 = (t.eSub + (a + b)) % 1000 := by rw [Nat.mod_add_mod, Nat.add_assoc]
  simp only [TimeScale.advance, seconds, ns, e, sub]

/-- With nothing due in it a cycle passes, its boundary carried out where it falls (R3, R6). -/
theorem tick_of_quiet (hd : s.dueEvents = []) : s.tick = s.keepFrac.passTime s.tickNs := by
  have : s.due = [] := by rw [State.due, hd]; rfl
  simp only [State.tick, this, List.isEmpty_nil, if_true]

/-- Short of a second boundary a cycle moves the clock alone (R1, R3). -/
theorem tick_of_lt (hd : s.dueEvents = []) (hs : s.tsc.s < secondsModulus) (hn : s.tsc.n + s.tickNs < nsPerS) :
    s.tick = s.setTsc { s.tsc with
      n := s.tsc.n + s.tickNs, e := s.tsc.e + (s.tsc.eSub + s.tickNs) / 1000, eSub := (s.tsc.eSub + s.tickNs) % 1000
      frac := (s.tsc.frac + cycle s.dsc.c) % fracModulus } := by
  rw [tick_of_quiet hd, State.passTime_of_lt (s := s.keepFrac) hn]
  simp only [State.pass, State.keepFrac, State.setTsc, TimeScale.advance, Nat.div_eq_of_lt hn, Nat.mod_eq_of_lt hn,
    Nat.add_zero, Nat.mod_eq_of_lt hs]

/-- One of the due commands is queued, and time stands (entry 4). -/
theorem tick_of_due (hp : s.pending = []) (hd : s.due ≠ []) :
    ∃ c ∈ s.due, s.tick = { s with pending := [c], draws := s.draws + 1 } := by
  have some_due : s.dueEvents ≠ [] := fun e => hd (by rw [State.due, e]; rfl)
  obtain ⟨ev, picked⟩ : ∃ ev, s.pickDue = some ev := by
    have : freeOrder s.draws s.dueEvents ≠ [] := fun e => some_due (by
      simpa [e] using (freeOrder_perm s.draws s.dueEvents).symm)
    exact ⟨_, List.head?_eq_some_head this⟩
  have due : ev ∈ s.dueEvents := (freeOrder_perm s.draws s.dueEvents).mem_iff.1 (List.mem_of_mem_head? picked)
  refine ⟨ev.command s, List.mem_map_of_mem due, ?_⟩
  have : s.due.isEmpty = false := by simpa using hd
  simp only [State.tick, this, State.queueDue, hp, picked]
  rfl

/-- A cycle that takes the part over a second boundary (R3, R6). -/
theorem tick_of_boundary (hq : s.quiet (s.tsc.elapsed + s.tsc.toBoundary + 1)) (hn : s.tsc.n < nsPerS)
    (hb : nsPerS ≤ s.tsc.n + s.tickNs) :
    s.tick = (s.keepFrac.runTo (s.tsc.elapsed + s.tsc.toBoundary)).pass (s.tickNs - s.tsc.toBoundary) := by
  have hd : s.dueEvents = [] := State.dueEvents_of_quiet hq (by omega)
  have quiet : s.keepFrac.quiet (s.tsc.elapsed + s.tsc.toBoundary + 1) := fun ev hev x hx =>
    hq ev hev x ((TimedEvent.instant_setTsc ev s _).symm.trans hx)
  have run := runTo_boundary (s := s.keepFrac) hn quiet
  have nothing : (s.keepFrac.pass s.tsc.toBoundary).dueEvents = [] := by
    refine State.dueEvents_of_quiet (goal := s.tsc.elapsed + s.tsc.toBoundary + 1) (fun ev hev x hx => ?_) ?_
    · exact quiet ev hev x ((TimedEvent.instant_setTsc ev s.keepFrac _).symm.trans hx)
    · rw [State.pass_elapsed]
      exact Nat.lt_succ_self _
  have far : ¬ s.keepFrac.tsc.n + s.tickNs < nsPerS := Nat.not_lt.2 hb
  rw [tick_of_quiet hd, State.passTime, if_neg far]
  refine Eq.trans ?_ (congrArg (State.pass · (s.tickNs - s.tsc.toBoundary)) run).symm
  show (s.keepFrac.pass s.tsc.toBoundary).atBoundary.pass (s.tickNs - s.tsc.toBoundary) = _
  rw [State.atBoundary_of_nil nothing]
  simp only [State.pass, State.setTsc_tsc, TimeScale.advance_advance, Nat.zero_add]
  rfl

/-- SAVE_END sent ahead of its instant (entries 3 and 12). -/
theorem saveEnd_sent {f : SaveInFlight} {at' : Nat} (ok : Bool) (hf : s.stc.inFlight = some f)
    (hs : f.start + saveShortest = at') :
    (s.runToE at').tsc.elapsed = max s.tsc.elapsed (at' * 1000)
      ∧ ((s.runToE at').stc.inFlight = some f → exec (.saveEnd ok) s = exec (.saveEnd ok) (s.runToE at'))
      ∧ ((s.runToE at').stc.inFlight ≠ some f → exec (.saveEnd ok) s = .next (s.runToE at')) := by
  have he : (s.runToE at').tsc.elapsed = max s.tsc.elapsed (at' * 1000) := runTo_elapsed s _
  have again : (s.runToE at').runToE at' = s.runToE at' := State.runTo_of_le (he.symm ▸ Nat.le_max_right _ _)
  have row (t : State) (ht : t.stc.inFlight = some f) : exec (.saveEnd ok) t
      = if (t.runToE at').stc.inFlight = some f then .next ((t.runToE at').endSave f ok) else .next (t.runToE at') := by
    show execSaveEnd ok t = _
    rw [execSaveEnd, ht, ← hs]
  refine ⟨he, fun stands => ?_, fun moved => ?_⟩
  · rw [row s hf, row _ stands, again]
  · rw [row s hf, if_neg moved]

/-- Settles O2: a tick is `passTime` or a queued command; a command that awaits an event is a run and the event. -/
theorem emptyQueueLetsOneCyclePass : Obligations.EmptyQueueLetsOneCyclePass := by
  refine ⟨fun s hp => ?_, fun s => ?_⟩
  · intro steered ns left
    rw [step_of_empty hp]
    refine ⟨fun hd hs hn => ?_, fun hq hn hb => ?_, fun hd => ?_⟩
    · have nothing : s.dueEvents = [] := List.map_eq_nil_iff.1 hd
      exact congrArg _ (tick_of_lt nothing hs hn)
    · refine ⟨_, rfl, ?_⟩
      exact congrArg _ (tick_of_boundary hq hn hb)
    · obtain ⟨c, hc, e⟩ := tick_of_due hp hd
      exact ⟨c, hc, congrArg _ e⟩
  · intro sent
    have line (i : Nat) (h1 : 1 ≤ i) (h32 : i ≤ 32) : lineExists i = true := decide_eq_true ⟨h1, h32⟩
    have unit (u : Nat) (h1 : 1 ≤ u) (h8 : u ≤ 8) : unitExists u = true := decide_eq_true ⟨h1, h8⟩
    have awaited {c : Instr} {timer : State → Option Nat} (ev : TimedEvent)
        (hc : ∀ s, exec c s = .next (s.await ev (timer s))) (hi : ∀ s x, ev.instant s = some x → timer s = some x) :
        sent c timer := sent_of_await hc hi s
    clear_value sent
    refine ⟨awaited .feedEnd (fun _ => rfl) (fun _ _ => id), awaited .candidateTimeout (fun _ => rfl) (fun _ _ => id),
      fun x => awaited (.missing x) (fun _ => rfl) (fun _ _ => undeferred_eq_some),
      fun x => awaited (.absent x) (fun _ => rfl) (fun _ _ => undeferred_eq_some),
      awaited .revert (fun _ => rfl) (fun _ _ => id),
      fun i h1 h32 => ⟨awaited (.filter i) (fun _ => if_pos (line i h1 h32)) (fun _ _ => id),
        awaited (.quiet i) (fun _ => if_pos (line i h1 h32)) (fun _ _ => id)⟩,
      fun u h1 h8 => awaited (.discrepancy u) (fun _ => if_pos (unit u h1 h8)) (fun _ _ => id),
      awaited .periodic (fun _ => rfl) (fun _ _ => id), awaited .window (fun _ => rfl) (fun _ _ => id),
      awaited .autosave (fun _ => rfl) (fun _ _ => id), awaited .gap (fun _ => rfl) (fun _ _ => id),
      awaited .reply (fun _ => rfl) (fun _ _ => id), fun f ok hf => ?_⟩
    obtain ⟨he, stands, moved⟩ := saveEnd_sent ok hf rfl
    exact ⟨he, stands, moved⟩

/-! ### The ends on the serial lines -/

/-- A command that awaits an event at its own instant, with nothing before it: time is brought there and the event
happens (entry 3). -/
theorem await_instant {ev : TimedEvent} {t : Nat} (hi : ev.instant s = some t) (hq : s.quietTo t) :
    s.await ev (ev.instant s) = ev.happen (s.setTsc (s.tsc.reach t)) := by
  rw [hi]
  exact State.await_quiet hq ((TimedEvent.instant_setTsc ev s _).trans hi)

/-- Without an instant there is nothing to wait for. -/
theorem await_of_none {ev : TimedEvent} (hi : ev.instant s = none) : s.await ev (ev.instant s) = s := by rw [hi]; rfl

/-- Settles O10: nothing happens on the way, so each command moves the clock and ends what it names. -/
theorem lineActivityEnds : Obligations.LineActivityEnds := by
  intro s
  have none_of_map {α : Type} {o : Option α} (f : α → Nat) (h : o = none) : o.map f = none := by rw [h]; rfl
  have some_of_map {α : Type} {o : Option α} {x : α} (f : α → Nat) (h : o = some x) : o.map f = some (f x) := by
    rw [h]; rfl
  refine ⟨fun x hx hq => ?_, fun r hr hq => ?_, fun at' hg hq => ?_, fun h => ?_, fun h => ?_, fun h => ?_,
    fun at' hs => ⟨TimeScale.reach_e at' hs, TimeScale.reach_of_le⟩⟩
  · exact congrArg _ (await_instant (ev := .feedEnd) (some_of_map _ hx) hq)
  · exact congrArg _ (await_instant (ev := .reply) (some_of_map _ hr) hq)
  · exact congrArg _ (await_instant (ev := .gap) hg hq)
  · exact congrArg _ (await_of_none (ev := .feedEnd) (none_of_map _ h))
  · exact congrArg _ (await_of_none (ev := .reply) (none_of_map _ h))
  · exact congrArg _ (await_of_none (ev := .gap) h)

end Sys2Proof.Machine

/-! PROOFS. What placing a record, evaluating the class and handing a notice leave: the shape of the state after each, and
the bits of the flags and conditions. -/

namespace Sys2Proof.Machine

variable {s : State}

/-! ### The bits of NTC (R193) -/

/-- The bit number of a notice (12.2). -/
def Notice.index : Notice → Nat
  | .trip => 0 | .queueLoss => 1 | .refChange => 2 | .disciplineChange => 3 | .handoverDue => 4 | .handoverMissed => 5
  | .chatter => 6 | .storeFail => 7 | .restarted => 8 | .queueLevel => 9 | .maintDue => 10 | .discrepancy => 11
  | .supplyLow => 12 | .handoverOverdue => 13

theorem Notice.bit_eq (w : Notice) : w.bit = BitVec.twoPow 14 w.index := by cases w <;> rfl

/-- The bit of a notice holds at its own number and at no other's. -/
theorem Notice.getLsbD_bit (w v : Notice) : w.bit.getLsbD v.index = decide (v = w) := by
  cases w <;> cases v <;> rfl

/-- A set holds a notice when it meets its bit. -/
theorem Notice.meets_bit (x : BitVec 14) (w : Notice) : x &&& w.bit ≠ 0 ↔ x.getLsbD w.index = true := by
  rw [Notice.bit_eq, BitVec.and_twoPow]
  cases h : x.getLsbD w.index with
  | false => simp
  | true =>
    rw [if_pos rfl]
    refine ⟨fun _ => rfl, fun _ => ?_⟩
    cases w <;> decide

/-- A notice raised is flagged, and every other flag stands (R193). -/
theorem NoticeUnit.raise_flag (n : NoticeUnit) (w v : Notice) (mask : BitVec 14) :
    (n.raise w mask).flags.getLsbD v.index = (n.flags.getLsbD v.index || decide (v = w)) := by
  rw [(NoticeUnit.raise_flags n w mask).1, BitVec.getLsbD_or, Notice.getLsbD_bit]

/-- A condition handed is recorded as it is said to be, and every other stands (R193). -/
theorem NoticeUnit.hand_condition (n : NoticeUnit) (w v : Notice) (b : Bool) (mask : BitVec 14) :
    (n.hand w b mask).conditions.getLsbD v.index = if v = w then b else n.conditions.getLsbD v.index := by
  have inside : v.index < 14 := by cases v <;> decide
  unfold NoticeUnit.hand NoticeUnit.holds
  cases b with
  | true =>
    rw [if_pos rfl]
    split
    · rename_i h
      rw [decide_eq_true_eq, Notice.meets_bit] at h
      split
      · rename_i e; rw [e, h]
      · rfl
    · simp only [BitVec.getLsbD_or, Notice.getLsbD_bit]
      split <;> simp [*]
  | false =>
    rw [if_neg Bool.false_ne_true]
    simp only [BitVec.getLsbD_and, BitVec.getLsbD_not, inside, decide_true, Bool.true_and, Notice.getLsbD_bit]
    split <;> simp [*]

/-- A condition that begins to hold is flagged; no flag is lost (R193). -/
theorem NoticeUnit.hand_flag (n : NoticeUnit) (w v : Notice) (b : Bool) (mask : BitVec 14) :
    (n.hand w b mask).flags.getLsbD v.index
      = (n.flags.getLsbD v.index || (b && !n.conditions.getLsbD w.index && decide (v = w))) := by
  unfold NoticeUnit.hand NoticeUnit.holds
  cases b with
  | true =>
    rw [if_pos rfl]
    cases h : n.conditions.getLsbD w.index with
    | true => rw [if_pos (decide_eq_true ((Notice.meets_bit _ _).2 h))]; simp
    | false =>
      rw [if_neg (by rw [decide_eq_true_eq, Notice.meets_bit, h]; exact Bool.false_ne_true)]
      exact (n.raise_flag w v mask).trans (by simp)
  | false => simp

/-! ### Placing a record (R99) -/

/-- Placing writes the queue, the notices and the loss flag of the shift on duty. -/
theorem State.place_eq (s : State) (p : Placement) : ∃ loss,
    s.place p = ((s.setEvq (s.place p).evq).setNtc (s.place p).ntc).setCurrent { s.shu.current with loss := loss } := by
  simp only [State.place, State.placeSeq]
  split
  · exact ⟨s.shu.current.loss, rfl⟩
  · exact ⟨true, rfl⟩
  · exact ⟨true, rfl⟩

@[simp] theorem State.place_tsc (s : State) (p : Placement) : (s.place p).tsc = s.tsc := by
  obtain ⟨_, e⟩ := s.place_eq p; rw [e]; rfl
@[simp] theorem State.place_rrx (s : State) (p : Placement) : (s.place p).rrx = s.rrx := by
  obtain ⟨_, e⟩ := s.place_eq p; rw [e]; rfl
@[simp] theorem State.place_dsc (s : State) (p : Placement) : (s.place p).dsc = s.dsc := by
  obtain ⟨_, e⟩ := s.place_eq p; rw [e]; rfl
@[simp] theorem State.place_ftx (s : State) (p : Placement) : (s.place p).ftx = s.ftx := by
  obtain ⟨_, e⟩ := s.place_eq p; rw [e]; rfl
@[simp] theorem State.place_lqu (s : State) (p : Placement) : (s.place p).lqu = s.lqu := by
  obtain ⟨_, e⟩ := s.place_eq p; rw [e]; rfl
@[simp] theorem State.place_stc (s : State) (p : Placement) : (s.place p).stc = s.stc := by
  obtain ⟨_, e⟩ := s.place_eq p; rw [e]; rfl
@[simp] theorem State.place_lkc (s : State) (p : Placement) : (s.place p).lkc = s.lkc := by
  obtain ⟨_, e⟩ := s.place_eq p; rw [e]; rfl
@[simp] theorem State.place_cfg (s : State) (p : Placement) : (s.place p).cfg = s.cfg := by
  obtain ⟨_, e⟩ := s.place_eq p; rw [e]; rfl
@[simp] theorem State.place_draws (s : State) (p : Placement) : (s.place p).draws = s.draws := by
  obtain ⟨_, e⟩ := s.place_eq p; rw [e]; rfl
@[simp] theorem State.place_pending (s : State) (p : Placement) : (s.place p).pending = s.pending := by
  obtain ⟨_, e⟩ := s.place_eq p; rw [e]; rfl

/-- Of the shift unit, placing can change the loss flag of the shift on duty alone (R104). -/
theorem State.place_shu (s : State) (p : Placement) :
    ∃ loss, (s.place p).shu = { s.shu with current := { s.shu.current with loss := loss } } := by
  obtain ⟨loss, e⟩ := s.place_eq p
  exact ⟨loss, by rw [e]; rfl⟩

/-- Placing hands the level of the queue, after a loss with its notice (R104, R105). -/
theorem State.place_ntc (s : State) (p : Placement) : ∃ b,
    (s.place p).ntc = s.ntc.hand .queueLevel b s.cfg.noticeMask
      ∨ (s.place p).ntc = (s.ntc.raise .queueLoss s.cfg.noticeMask).hand .queueLevel b s.cfg.noticeMask := by
  simp only [State.place, State.placeSeq]
  split
  · exact ⟨_, .inl rfl⟩
  · exact ⟨_, .inr rfl⟩
  · exact ⟨_, .inr rfl⟩

/-- Placing a record loses no flag. -/
theorem State.place_flag {v : Notice} (p : Placement) (h : s.ntc.flags.getLsbD v.index = true) :
    (s.place p).ntc.flags.getLsbD v.index = true := by
  obtain ⟨b, e | e⟩ := s.place_ntc p
  · rw [e, NoticeUnit.hand_flag, h, Bool.true_or]
  · rw [e, NoticeUnit.hand_flag, NoticeUnit.raise_flag, h, Bool.true_or, Bool.true_or]

/-- Placing a record evaluates no condition but the level of the queue. -/
theorem State.place_condition {v : Notice} (p : Placement) (h : v ≠ .queueLevel) :
    (s.place p).ntc.conditions.getLsbD v.index = s.ntc.conditions.getLsbD v.index := by
  obtain ⟨b, e | e⟩ := s.place_ntc p
  · rw [e, NoticeUnit.hand_condition, if_neg h]
  · rw [e, NoticeUnit.hand_condition, if_neg h, (NoticeUnit.raise_flags _ _ _).2]

/-! ### Evaluating the class (R50, R148) -/

/-- An evaluation of the class writes it and the worst class of the shift on duty. -/
theorem State.evalClass_eq (s : State) : ∃ worst, s.evalClass =
    (s.setDsc { s.dsc with effClass := s.dsc.classNow }).setCurrent { s.shu.current with worstClass := worst } := by
  simp only [State.evalClass]
  split
  · rename_i h
    rw [h]
    exact ⟨s.shu.current.worstClass, rfl⟩
  · exact ⟨_, rfl⟩

@[simp] theorem State.evalClass_tsc (s : State) : s.evalClass.tsc = s.tsc := by
  obtain ⟨_, e⟩ := s.evalClass_eq; rw [e]; rfl
@[simp] theorem State.evalClass_rrx (s : State) : s.evalClass.rrx = s.rrx := by
  obtain ⟨_, e⟩ := s.evalClass_eq; rw [e]; rfl
@[simp] theorem State.evalClass_evq (s : State) : s.evalClass.evq = s.evq := by
  obtain ⟨_, e⟩ := s.evalClass_eq; rw [e]; rfl
@[simp] theorem State.evalClass_ftx (s : State) : s.evalClass.ftx = s.ftx := by
  obtain ⟨_, e⟩ := s.evalClass_eq; rw [e]; rfl
@[simp] theorem State.evalClass_lqu (s : State) : s.evalClass.lqu = s.lqu := by
  obtain ⟨_, e⟩ := s.evalClass_eq; rw [e]; rfl
@[simp] theorem State.evalClass_tlu (s : State) : s.evalClass.tlu = s.tlu := by
  obtain ⟨_, e⟩ := s.evalClass_eq; rw [e]; rfl
@[simp] theorem State.evalClass_stc (s : State) : s.evalClass.stc = s.stc := by
  obtain ⟨_, e⟩ := s.evalClass_eq; rw [e]; rfl
@[simp] theorem State.evalClass_lkc (s : State) : s.evalClass.lkc = s.lkc := by
  obtain ⟨_, e⟩ := s.evalClass_eq; rw [e]; rfl
@[simp] theorem State.evalClass_ntc (s : State) : s.evalClass.ntc = s.ntc := by
  obtain ⟨_, e⟩ := s.evalClass_eq; rw [e]; rfl
@[simp] theorem State.evalClass_cfg (s : State) : s.evalClass.cfg = s.cfg := by
  obtain ⟨_, e⟩ := s.evalClass_eq; rw [e]; rfl
@[simp] theorem State.evalClass_draws (s : State) : s.evalClass.draws = s.draws := by
  obtain ⟨_, e⟩ := s.evalClass_eq; rw [e]; rfl

/-! ### Reporting a change of discipline (R34, R56) -/

/-- A report keeps the time scale and the discipline, clears the counts of both sources unless supervision goes on, and
raises its notice. -/
theorem State.reportDisc_leaves (s : State) (old : DiscState) :
    (s.reportDisc old).tsc = s.tsc ∧ (s.reportDisc old).dsc = s.dsc ∧ (s.reportDisc old).rrx = s.rrx.told old s.dsc.state
      ∧ (s.reportDisc old).lkc = s.lkc ∧ (s.reportDisc old).stc = s.stc ∧ (s.reportDisc old).cfg = s.cfg
      ∧ (s.reportDisc old).ntc.flags.getLsbD 3 = true := by
  refine ⟨?_, ?_, ?_, ?_, ?_, ?_, ?_⟩ <;> simp only [State.reportDisc, State.setRrx_tsc, State.setRrx_dsc, State.setRrx_rrx,
    State.setRrx_lkc, State.setRrx_stc, State.setRrx_cfg, State.setRrx_ntc, State.raise_tsc, State.raise_dsc, State.raise_rrx,
    State.raise_lkc, State.raise_stc, State.raise_cfg, State.raise_ntc, State.place_tsc, State.place_dsc, State.place_rrx,
    State.place_lkc, State.place_stc, State.place_cfg]
  exact (NoticeUnit.raise_flag _ .disciplineChange .disciplineChange _).trans (Bool.or_true _)

end Sys2Proof.Machine

/-! PROOFS. Readings and short requests: TRD, TLRD, PINJ, REFS, STAT, LSTAT, TACQ, EINJ, EFCH and EREL, each judged by
`State.takeRequest_of_serve` and its body compared field by field with 12.4. -/

namespace Sys2Proof.Machine

variable {s : State} {k : Kind}

/-! ### When a request is served (R176, R179, R185) -/

/-- A kind that neither a save nor HOLDUP refuses. -/
theorem State.busy_of_served (hs : k.refusedInSave = false) (hh : k.servedInHoldup = true) (s : State) :
    s.busy k = false := by
  simp only [State.busy, hs, hh, Bool.and_false, Bool.not_true, Bool.or_false]

/-- A kind that HOLDUP alone refuses. -/
theorem State.busy_of_holdupOnly (hs : k.refusedInSave = false) (hh : k.servedInHoldup = false) (s : State) :
    s.busy k = s.stc.holdup := by
  simp only [State.busy, hs, hh, Bool.and_false, Bool.not_false, Bool.and_true, Bool.false_or]

/-- LKC sends what the owning block answers to an accepted request. -/
theorem State.takeRequest_of_serve {serve : State → State × Answer} {m : State} {a : Answer} (tag : Byte) (ha : s.accepts k)
    (e : serve s = (m, a)) : s.takeRequest k tag serve = m.answered k.code tag a.result a.body := by
  obtain ⟨-, -, served⟩ := s.takeRequest_cases k tag serve
  rw [served ha, e]

/-! ### TRD (R16) -/

/-- Settles O11: TRD is refused by nothing but a reply, and its body agrees field by field; days and minutes are read from
the minute count. -/
theorem trdReadsTheTimeScale : Obligations.TrdReadsTheTimeScale := by
  intro tag s hr local' leap body
  have hleap : [byteOf (pendingLeapCode s.tsc.pendingLeap)]
      ++ beSigned 1 ((s.tsc.pendingLeap.map (·.target)).getD 0) = leap := by
    simp only [leap]
    rcases s.tsc.pendingLeap with _ | ⟨_ | _, target⟩ <;> rfl
  have hday : s.localMinute.day = local' / 86400 := by
    show local' / 60 / 1440 = _
    omega
  have hminute : s.localMinute.minute = (local' % 86400 / 60).toNat := by
    show (local' / 60 % 1440).toNat = _
    omega
  have hbody : s.trdBody = body := by
    simp only [body, ← hleap, ← hday, ← hminute]
    simp only [State.trdBody, List.append_assoc]
    rfl
  rw [← hbody]
  exact congrArg _ (State.takeRequest_of_serve (serve := serveTrd) tag ⟨hr, State.busy_of_served (k := .trd) rfl rfl s⟩ rfl)

/-! ### TLRD (R128, R132, R133, R139) -/

/-- A minute-long remainder of a timer, as the reply shows it (R198). -/
theorem DiscTimer.bytes_eq (t : DiscTimer) (now : Nat) :
    [byteOf t.code, byteOf (t.remaining now)] = (match t with
      | .stopped => [0, 0]
      | .running x => [1, byteOf (max ((x - now + 999999) / 1000000) 1)]
      | .expired => [2, 0]) := by
  rcases t with _ | x | _
  · rfl
  · rw [DiscTimer.remaining, remaining_some_seconds]; rfl
  · rfl

/-- An accumulator as a checkpoint would leave it: that of the mode in force is booked, the others stand (R118, R120). -/
theorem GenUnit.reading_get (g : GenUnit) (now : Nat) (m : Mode) (hm : m ≠ .none) :
    (g.reading now).get m = if g.mode ≠ m then g.tally.accs.get m else (g.tally.accs.get m).book (g.open' now) := by
  simp only [GenUnit.reading, GenUnit.checkpoint]
  by_cases hg : g.mode = .none
  · rw [if_pos hg, hg, if_pos hm.symm]
  · rw [if_neg hg]
    simp only [Accs.get_set _ _ _ _ hg]
    by_cases h : g.mode = m
    · rw [if_pos h.symm, if_neg (not_not.2 h), h]
    · rw [if_neg (Ne.symm h), if_pos h]

/-- Time booked fits, or the accumulator is held at its largest value (R118, R120). -/
theorem Acc.book_eq (a : Acc) (d : Nat) :
    a.book d = if max32 < a.secs + (a.rem + d) / 1000000 then ⟨max32, 999999⟩
      else ⟨a.secs + (a.rem + d) / 1000000, (a.rem + d) % 1000000⟩ := by
  simp only [Acc.book, Acc.overflows, decide_eq_true_eq]

/-- EOH is the sum of its parts, held at its largest value (R132, R133). -/
theorem State.eoh_eq (s : State) (u : Nat) :
    s.eoh u = min ((s.unit u).tally.baseline + weightedSum ((s.unit u).reading s.tsc.e) (s.unitCfg u) / 9216
      + (s.unit u).tally.starts * (s.unitCfg u).startWeight + (s.unit u).tally.trips * (s.unitCfg u).tripWeight) max32 :=
  rfl

/-- TLU judges the unit (R128). -/
theorem serveTlrd_cases (unit : Byte) (s : State) :
    (1 ≤ unit.toNat ∧ unit.toNat ≤ 8 → serveTlrd unit s = (s, { result := .ok, body := s.tlrdBody unit.toNat }))
      ∧ (¬(1 ≤ unit.toNat ∧ unit.toNat ≤ 8) → serveTlrd unit s = (s, { result := .param })) := by
  simp only [serveTlrd, unitExists, decide_eq_true_eq]
  exact ⟨fun h => if_pos h, fun h => if_neg h⟩

/-- Settles O12: `serveTlrd_cases` judges the unit, `GenUnit.reading_get` reads the accumulators, and the EOH is spelled in
another order. -/
theorem tlrdReadsTheTallies : Obligations.TlrdReadsTheTallies := by
  refine ⟨?_, ?_⟩
  · intro tag unit s hr u g now inMode after timer body
    obtain ⟨inside, outside⟩ := serveTlrd_cases unit s
    have ha : s.accepts .tlrd := ⟨hr, State.busy_of_served rfl rfl s⟩
    have hafter (m : Mode) (hm : m ≠ .none) : (g.reading now).get m = after m := by
      simp only [after]
      rw [GenUnit.reading_get g now m hm]
      simp only [Acc.book_eq]
      rfl
    have hunit : byteOf u = unit := BitVec.ofNat_toNat ..
    have htimer : [byteOf g.timer.code, byteOf (g.timer.remaining now)] = timer := DiscTimer.bytes_eq g.timer now
    have haccs : (g.reading now).bytes = [Mode.still, .spin, .gen, .pump, .cond, .indet].flatMap (fun m =>
        beBytes 4 (after m).secs ++ beBytes 3 (after m).rem) := by
      refine Eq.trans (b := [Mode.still, .spin, .gen, .pump, .cond, .indet].flatMap (fun m =>
        beBytes 4 ((g.reading now).get m).secs ++ beBytes 3 ((g.reading now).get m).rem)) rfl ?_
      refine List.flatMap_congr (fun m hm => ?_)
      rw [hafter m (by rintro rfl; exact absurd hm (by decide))]
    have hbody : s.tlrdBody u = body := by
      simp only [body, ← htimer, ← haccs]
      simp only [State.tlrdBody, hunit]
      rfl
    refine ⟨fun h => ?_, fun h => ?_⟩
    · rw [← hbody]
      exact congrArg _ (State.takeRequest_of_serve tag ha (inside h))
    · exact congrArg _ (State.takeRequest_of_serve tag ha (outside h))
  · intro u s a w t sigma total
    have hsum : weightedSum a w = sigma := by
      simp only [sigma, weightedSum, List.map_cons, List.map_nil, List.sum_cons, List.sum_nil, Accs.get]
      omega
    have hmin : s.eoh u = min total max32 := by
      rw [State.eoh_eq]
      simp only [total, ← hsum]
      rfl
    rw [hmin]
    simp only [max32]
    split <;> omega

/-! ### PINJ and REFS (R35, R40) -/

/-- RRX judges PINJ: STATE in FREE, then PARAM for another source (R35). -/
theorem servePinj_cases (source : Byte) (value : BitVec 32) (count : Byte) (s : State) :
    (s.dsc.state = .free → servePinj source value count s = (s, { result := .state }))
      ∧ (s.dsc.state ≠ .free → source ≠ 1 → source ≠ 2 → servePinj source value count s = (s, { result := .param }))
      ∧ (s.dsc.state ≠ .free → source = 1 →
          servePinj source value count s = (s.setSrc .a (s.rrx.srcA.inject value count), { result := .ok }))
      ∧ (s.dsc.state ≠ .free → source = 2 →
          servePinj source value count s = (s.setSrc .b (s.rrx.srcB.inject value count), { result := .ok })) := by
  refine ⟨fun h => if_pos h, fun h h1 h2 => ?_, fun h h1 => ?_, fun h h2 => ?_⟩
  · rw [servePinj, if_neg h, sourceOfCode, if_neg h1, if_neg h2]
  · subst h1
    exact if_neg h
  · subst h2
    exact if_neg h

/-- Settles O16: `servePinj_cases` judges the request. -/
theorem pinjSetsOneInjection : Obligations.PinjSetsOneInjection := by
  intro tag source value count s hr hold injected
  obtain ⟨free, other, a, b⟩ := servePinj_cases source value count s
  have ha : s.accepts .pinj := ⟨hr, (State.busy_of_holdupOnly rfl rfl s).trans hold⟩
  exact ⟨fun h => congrArg _ (State.takeRequest_of_serve tag ha (free h)),
    fun h h1 h2 => congrArg _ (State.takeRequest_of_serve tag ha (other h h1 h2)),
    fun h h1 => congrArg _ (State.takeRequest_of_serve tag ha (a h h1)),
    fun h h2 => congrArg _ (State.takeRequest_of_serve tag ha (b h h2))⟩

/-- RRX judges REFS (R40). -/
theorem serveRefs_cases (selector : Byte) (s : State) :
    (selector = 0 → serveRefs selector s = (s, { result := .ok, body := s.refsBody }))
      ∧ (selector = 1 → serveRefs selector s = (s.setRrx s.rrx.clearCounters, { result := .ok, body := s.refsBody }))
      ∧ (selector ≠ 0 → selector ≠ 1 → serveRefs selector s = (s, { result := .param })) := by
  refine ⟨fun h => if_pos h, fun h => ?_, fun h0 h1 => ?_⟩
  · subst h; rfl
  · rw [serveRefs, if_neg h0, if_neg h1]

/-- A source's bytes as 12.4 lays them out. -/
theorem SourceData.bytes_eq (d : SourceData) :
    d.bytes = [(match d.state with | .absent => 0 | .qualifying => 1 | .usable => 2 | .faulted => 3 : Byte),
        byteOf d.qualify, byteOf d.out, byteOf d.release]
      ++ (match d.lastSample with
          | none => List.replicate 9 0
          | some e => 1 :: beSigned 8 e)
      ++ (match d.lastMark with
          | none => List.replicate 11 0
          | some l => [1, byteOf l.epoch, byteOf l.cls] ++ beBytes 5 l.s ++ beBytes 3 (l.n / 1000))
      ++ (match d.injection with
          | none => List.replicate 5 0
          | some i => beSigned 4 i.value ++ [byteOf i.remaining]) := by
  have hstate : byteOf d.state.code
      = (match d.state with | .absent => 0 | .qualifying => 1 | .usable => 2 | .faulted => 3 : Byte) := by
    cases d.state <;> rfl
  rw [SourceData.bytes, hstate]
  cases d.lastSample <;> cases d.lastMark <;> rfl

/-- Settles O17: `serveRefs_cases` judges the request, and the body agrees field by field. -/
theorem refsReadsAndMayClear : Obligations.RefsReadsAndMayClear := by
  intro tag selector s hr r a b left frame source selection preferred state body
  obtain ⟨zero, one, other⟩ := serveRefs_cases selector s
  have hleft : remaining s.tsc.e 1000000 (r.revert.map (·.expiry)) = left := by
    simp only [left]
    rcases r.revert with _ | w
    · rfl
    · exact remaining_some_seconds _ _
  have hframe : r.frameBytes = frame := by
    simp only [frame, Receiver.frameBytes]
    rcases r.lastFrame with _ | f <;> rfl
  have hsource (d : SourceData) : d.bytes = source d := d.bytes_eq
  have hselection : byteOf (selectionCode r.selection) = selection := by
    simp only [selection]; rcases r.selection with _ | _ | _ <;> rfl
  have hpreferred : byteOf (prefCode s.cfg.prefSource) = preferred := by
    simp only [preferred]; cases s.cfg.prefSource <;> rfl
  have hstate : byteOf r.state.code = state := by
    simp only [state]; cases r.state <;> rfl
  have hbody : s.refsBody = body := by
    simp only [body, ← hleft, ← hframe, ← hsource, ← hselection, ← hpreferred, ← hstate]
    simp only [State.refsBody, Receiver.counterBytes, List.append_assoc]
    rfl
  have held : s.stc.holdup = true → exec (.refs tag selector) s = .next (s.answered 0x13 tag .busy []) := fun h =>
    congrArg _ ((State.takeRequest_of_busy_holdup (State.busy_of_holdupOnly rfl rfl s) hr tag (serveRefs selector)).1 h)
  have ha (h : s.stc.holdup = false) : s.accepts .refs := ⟨hr, (State.busy_of_holdupOnly rfl rfl s).trans h⟩
  rw [← hbody]
  exact ⟨held, fun h h0 => congrArg _ (State.takeRequest_of_serve tag (ha h) (zero h0)),
    fun h h1 => congrArg _ (State.takeRequest_of_serve tag (ha h) (one h1)),
    fun h h0 h1 => congrArg _ (State.takeRequest_of_serve tag (ha h) (other h0 h1))⟩

/-! ### The summary byte (R187) -/

/-- Six bits in a byte, from bit 0 on. -/
theorem byteOf_bits (a b c d e f : Bool) :
    let x := byteOf ((if a then 1 else 0) + (if b then 2 else 0) + (if c then 4 else 0) + (if d then 8 else 0)
      + (if e then 16 else 0) + (if f then 32 else 0))
    x.getLsbD 0 = a ∧ x.getLsbD 1 = b ∧ x.getLsbD 2 = c ∧ x.getLsbD 3 = d ∧ x.getLsbD 4 = e ∧ x.getLsbD 5 = f := by
  revert a b c d e f
  decide

/-- Each bit of the summary byte (R187, 12.2). -/
theorem State.summary_bits (s : State) :
    s.summary.getLsbD 0 = s.ntc.flags.getLsbD 8 ∧ s.summary.getLsbD 1 = s.lkc.linkErr
      ∧ s.summary.getLsbD 2 = s.ntc.attn ∧ s.summary.getLsbD 3 = decide (s.dsc.effClass ≤ s.cfg.feedClassLimit)
      ∧ s.summary.getLsbD 4 = s.stc.inFlight.isSome ∧ s.summary.getLsbD 5 = s.evq.hasData := by
  have restarted : s.ntc.flags &&& Notice.restarted.bit ≠ 0 ↔ s.ntc.flags.getLsbD 8 = true := Notice.meets_bit _ .restarted
  have bits := byteOf_bits (s.ntc.flags.getLsbD 8) s.lkc.linkErr s.ntc.attn (decide (s.dsc.effClass ≤ s.cfg.feedClassLimit))
    s.stc.inFlight.isSome s.evq.hasData
  simp only [State.summary, restarted]
  simpa only [decide_eq_true_eq] using bits

/-! ### STAT and LSTAT (R188, R194) -/

/-- Settles O37: neither is ever refused but for a reply in progress; the body is that of 12.4. -/
theorem statAndLstatReadAndClear : Obligations.StatAndLstatReadAndClear := by
  refine ⟨fun tag s hr => ?_, fun tag s hr => ?_⟩
  · exact congrArg _ (State.takeRequest_of_serve (serve := serveStat) tag ⟨hr, State.busy_of_served (k := .stat) rfl rfl s⟩ rfl)
  · intro l cleared
    have hbody : l.statBody = beBytes 2 l.noise ++ beBytes 2 l.gapErr ++ beBytes 2 l.length ++ beBytes 2 l.check
        ++ beBytes 2 l.overrun ++ [if l.linkErr then 1 else 0] := by
      simp only [LinkController.statBody, List.flatMap_cons, List.flatMap_nil, List.append_assoc, List.append_nil]
      rfl
    refine ⟨?_, ?_⟩
    · rw [← hbody]
      exact congrArg _ (State.takeRequest_of_serve (serve := serveLstat) tag
        ⟨hr, State.busy_of_served (k := .lstat) rfl rfl s⟩ rfl)
    · rw [State.summary_bits cleared |>.2.1]

/-! ### TACQ (R58) -/

/-- Supervision does not run in ACQUIRE, so a report of it clears the counts of both sources (R34). -/
theorem Receiver.told_acquire (r : Receiver) (old : DiscState) :
    r.told old .acquire = { r with srcA := { r.srcA with out := 0, release := 0 }
                                   srcB := { r.srcB with out := 0, release := 0 } } := by
  simp only [Receiver.told, DiscState.supervised, Bool.and_false, Bool.false_eq_true, if_false]

/-- TACQ is taken in LOCKED, and in HOLDOVER with a source in the view (R58). -/
theorem Discipline.mayAcquire_iff (d : Discipline) :
    d.mayAcquire = true ↔ d.state = .locked ∨ d.state = .holdover ∧ d.view.isSome = true := by
  simp only [Discipline.mayAcquire]
  cases d.state <;> simp

/-- Settles O19: `Discipline.mayAcquire_iff` judges the request; a taken one evaluates the class and reports ACQUIRE. -/
theorem tacqAsksForAFreshAcquisition : Obligations.TacqAsksForAFreshAcquisition := by
  intro tag s hr hold
  have ha : s.accepts .tacq := ⟨hr, (State.busy_of_holdupOnly rfl rfl s).trans hold⟩
  refine ⟨fun h => ?_, fun h => ?_⟩
  · have served : serveTacq s = (s.acquire, { result := .ok }) := if_pos ((s.dsc.mayAcquire_iff).2 h)
    obtain ⟨-, hdsc, hrrx, hlkc, -, -, hflag⟩ := (((s.setDsc { s.dsc.restart with
      state := .acquire, oneShot := true, lock := 0 }).evalClass).reportDisc_leaves s.dsc.state)
    rw [State.evalClass_dsc] at hdsc hrrx
    have dsc : s.acquire.dsc = { s.dsc with state := .acquire, oneShot := true, lock := 0, sum := 0, count := 0, prev := none
                                            effClass := s.acquire.dsc.classNow } := by
      rw [State.acquire, hdsc]; rfl
    refine ⟨s.acquire, _, ?_, rfl, congrArg _ (State.takeRequest_of_serve tag ha served), dsc, ?_, hflag, ?_⟩
    · rw [State.acquire, hlkc, State.evalClass_lkc]; rfl
    · show s.acquire.rrx = _
      rw [State.acquire, hrrx, State.evalClass_rrx]
      exact Receiver.told_acquire _ _
    · refine Unchanged.trans ?_ (sendReply_unchanged _ (by decide) _ _ _)
      exact ((setDsc_unchanged s (by decide) _).trans (evalClass_unchanged _ (by decide) (by decide))).trans
        (reportDisc_unchanged _ (by decide) (by decide) _)
  · have served : serveTacq s = (s, { result := .state }) := if_neg (fun e => h ((s.dsc.mayAcquire_iff).1 e))
    exact congrArg _ (State.takeRequest_of_serve tag ha served)

/-! ### EINJ (R89) -/

/-- A byte above 1 is neither 0 nor 1. -/
theorem one_lt_toNat_iff (b : Byte) : 1 < b.toNat ↔ b ≠ 0 ∧ b ≠ 1 := by
  have zero : b = 0 ↔ b.toNat = 0 := BitVec.toNat_inj.symm
  have one : b = 1 ↔ b.toNat = 1 := BitVec.toNat_inj.symm
  rw [Ne, Ne, zero, one]
  omega

/-- LQU judges EINJ: the line and the level, then an UNUSED line (R89). -/
theorem serveEinj_cases (line level : Byte) (s : State) :
    (¬(1 ≤ line.toNat ∧ line.toNat ≤ 32) ∨ (level ≠ 0 ∧ level ≠ 1) → serveEinj line level s = (s, { result := .param }))
      ∧ (1 ≤ line.toNat → line.toNat ≤ 32 → (level = 0 ∨ level = 1) → (s.lineCfg line.toNat).kind = .unused →
          serveEinj line level s = (s, { result := .state }))
      ∧ (1 ≤ line.toNat → line.toNat ≤ 32 → (level = 0 ∨ level = 1) → (s.lineCfg line.toNat).kind ≠ .unused →
          serveEinj line level s = (s.injectLine line.toNat (decide (level = 1)), { result := .ok })) := by
  have outside : lineExists line.toNat = false ↔ ¬(1 ≤ line.toNat ∧ line.toNat ≤ 32) := decide_eq_false_iff_not
  have inside (h1 : 1 ≤ line.toNat) (h32 : line.toNat ≤ 32) (hl : level = 0 ∨ level = 1) :
      ¬(lineExists line.toNat = false ∨ 1 < level.toNat) := by
    rw [outside, one_lt_toNat_iff]
    rintro (h | ⟨h0, h1⟩)
    · exact h ⟨by assumption, h32⟩
    · exact hl.elim h0 h1
  refine ⟨fun h => if_pos ?_, fun h1 h32 hl hk => ?_, fun h1 h32 hl hk => ?_⟩
  · rwa [outside, one_lt_toNat_iff]
  · rw [serveEinj, if_neg (inside h1 h32 hl), if_pos hk]
  · rw [serveEinj, if_neg (inside h1 h32 hl), if_neg hk]

/-- The one record of an EINJ, by the kind of the line (R89). -/
theorem State.injectedRecord_eq (s : State) (i : Nat) (level : Bool) :
    s.injectedRecord i level =
      { detail := if (s.lineCfg i).kind = .trip then
            (if level then s.tripDetail (s.lineCfg i).unit else .tripclr (s.lineCfg i).unit)
          else .edge level (s.lineCfg i).kind (s.lineCfg i).unit
        source := i, injected := true, station := decide ((s.lineCfg i).unit = 0), date := some s.dateNow } := by
  simp only [State.injectedRecord]
  split
  · cases level <;> rfl
  · rfl

/-- Settles O21: `serveEinj_cases` judges the request, and `State.injectedRecord_eq` gives its record. -/
theorem einjPlacesOneInjectedRecord : Obligations.EinjPlacesOneInjectedRecord := by
  intro tag line level s hr hold i c g trip detail record
  have ha : s.accepts .einj := ⟨hr, (State.busy_of_holdupOnly rfl rfl s).trans hold⟩
  obtain ⟨param, state, served⟩ := serveEinj_cases line level s
  refine ⟨fun h => congrArg _ (State.takeRequest_of_serve tag ha (param h)),
    fun h1 h32 hl hk => congrArg _ (State.takeRequest_of_serve tag ha (state h1 h32 hl hk)), fun h1 h32 hl hk => ?_⟩
  intro placed told
  have hrecord : s.injectedRecord i (decide (level = 1)) = record := by
    rw [State.injectedRecord_eq]
    simp only [record, detail, decide_eq_true_eq]
    rfl
  have htold : s.injectLine i (decide (level = 1)) = told := by
    have cfg : (s.place record).lineCfg i = s.lineCfg i := by simp only [State.lineCfg, State.place_cfg]
    simp only [State.injectLine, hrecord, State.exempt, State.notifyTrip, cfg, told, placed, Bool.and_eq_true,
      decide_eq_true_eq, c]
    by_cases ht : (s.lineCfg i).kind = .trip ∧ level = 1
    · simp only [ht, true_and, and_self, if_true]
    · rw [if_neg ht, if_neg (fun h => ht ⟨h.1, h.2.1⟩)]
  rw [← htold]
  exact congrArg _ (State.takeRequest_of_serve tag ha (served h1 h32 hl hk))

end Sys2Proof.Machine

/-! PROOFS. The event queue: EFCH and EREL, and what becomes of an arriving record under the two policies. -/

namespace Sys2Proof.Machine

variable {s : State}

/-! ### EFCH (R107) -/

/-- A change of the first elements of a list is a change of each by its place. -/
theorem map_take_append_drop {α : Type} (f : α → α) (xs : List α) (k : Nat) :
    (xs.take k).map f ++ xs.drop k = xs.mapIdx (fun i x => if i < k then f x else x) := by
  induction xs generalizing k with
  | nil => simp
  | cons x xs ih =>
    cases k with
    | zero => simpa using ih 0
    | succ k => simpa [List.mapIdx_cons] using ih k

/-- EVQ judges the number wanted (R107). -/
theorem serveEfch_cases (wanted : Byte) (s : State) :
    (1 ≤ wanted.toNat → wanted.toNat ≤ 8 → serveEfch wanted s
        = (s.setEvq (s.evq.deliver wanted.toNat), { result := .ok, body := s.evq.fetchBody wanted.toNat }))
      ∧ (¬(1 ≤ wanted.toNat ∧ wanted.toNat ≤ 8) → serveEfch wanted s = (s, { result := .param })) :=
  ⟨fun h1 h8 => if_pos ⟨h1, h8⟩, fun h => if_neg h⟩

/-- Settles O23: `serveEfch_cases` judges the request; records and counts agree with 12.3 and 12.4. -/
theorem efchHandsAndMarksTheOldest : Obligations.EfchHandsAndMarksTheOldest := by
  intro tag wanted s hr k q marked flags body
  have ha : s.accepts .efch := ⟨hr, State.busy_of_served rfl rfl s⟩
  obtain ⟨served, param⟩ := serveEfch_cases wanted s
  have hmarked : q.deliver k = { q with records := marked } :=
    congrArg (fun x => { q with records := x }) (map_take_append_drop _ q.records k)
  have hbody : q.fetchBody k = body := by
    simp only [EventQueue.fetchBody, hmarked, List.length_take]
    rfl
  refine ⟨fun h1 h8 => ?_, fun h => congrArg _ (State.takeRequest_of_serve tag ha (param h))⟩
  have e := State.takeRequest_of_serve tag ha (served h1 h8)
  rw [show s.evq.deliver wanted.toNat = _ from hmarked, show s.evq.fetchBody wanted.toNat = _ from hbody] at e
  exact congrArg _ e

/-! ### EREL (R108) -/

/-- No delivered record of the number is held. -/
theorem EventQueue.releasable_none {q : EventQueue} {seq : Nat} (h : ∀ r ∈ q.records, ¬(r.seq = seq ∧ r.delivered = true)) :
    q.releasable seq = none := by
  rw [EventQueue.releasable, Option.map_eq_none_iff, List.findIdx?_eq_none_iff]
  intro r hr
  have := h r hr
  simpa using this

/-- A release goes up to the delivered record of its number. -/
theorem EventQueue.releasable_some {q : EventQueue} {seq : Nat} {older newer : List Record} {r : Record}
    (hq : q.records = older ++ r :: newer) (hs : r.seq = seq) (hd : r.delivered = true) (ho : ∀ x ∈ older, x.seq ≠ seq) :
    q.releasable seq = some (older.length + 1) := by
  have : q.records.findIdx? (fun r => r.seq == seq && r.delivered) = some older.length := by
    rw [hq, List.findIdx?_append, List.findIdx?_eq_none_iff.2 (fun x hx => by simp [ho x hx])]
    simp [List.findIdx?_cons, hs, hd]
  rw [EventQueue.releasable, this]; rfl

/-- Settles O24: a release removes what `EventQueue.releasable` counts. -/
theorem erelReleasesUpToADeliveredRecord : Obligations.ErelReleasesUpToADeliveredRecord := by
  intro tag seq s hr
  have ha : s.accepts .erel := ⟨hr, State.busy_of_served rfl rfl s⟩
  refine ⟨fun h => ?_, fun older r newer hq hs hd ho => ?_⟩
  · have served : serveErel seq s = (s, { result := .param }) := by
      rw [serveErel, EventQueue.releasable_none h]
    exact congrArg _ (State.takeRequest_of_serve tag ha served)
  · have left : s.evq.release (older.length + 1) = { s.evq with records := newer } := by
      simp only [EventQueue.release, hq, List.drop_append, List.drop_of_length_le (Nat.le_succ older.length)]
      simp
    have served : serveErel seq s = ((s.setEvq { s.evq with records := newer }).evalWatermark,
        { result := .ok, body := beBytes 2 (older.length + 1) ++ beBytes 2 newer.length }) := by
      simp only [serveErel, EventQueue.releasable_some hq hs hd ho, left]
    exact congrArg _ (State.takeRequest_of_serve tag ha served)

/-! ### An arriving record (R98 to R104) -/

/-- The newest record is a marker. -/
def EventQueue.newestIsMarker (q : EventQueue) : Bool := (q.records.getLast?.map (·.detail.isMarker)).getD false

/-- Whether the policy finds room for an arriving record (R100, R102). -/
def EventQueue.hasRoom (q : EventQueue) (policy : QueuePolicy) (trip : Bool) : Prop :=
  match policy with
  | .stop => q.records.length ≤ 318
  | .overwrite => q.records.length < 320 ∨ (∃ r ∈ q.records, r.delivered = false ∧ r.detail.isTrip = false)
      ∨ (trip = true ∧ ∃ r ∈ q.records, r.delivered = false ∧ r.detail.isTrip = true)

/-- The record that the OVERWRITE policy removes: the oldest undelivered one that is no TRIP, or with none of those for a
TRIP the oldest undelivered TRIP (R102). -/
def EventQueue.removed (q : EventQueue) : Record → Bool :=
  if q.records.any Record.yields then Record.yields else Record.yieldsToTrip

/-- A record of each kind that the OVERWRITE policy may remove (R102). -/
theorem Record.yields_iff (x : Record) : x.yields = true ↔ x.delivered = false ∧ x.detail.isTrip = false := by
  simp [Record.yields]

theorem Record.yieldsToTrip_iff (x : Record) : x.yieldsToTrip = true ↔ x.delivered = false ∧ x.detail.isTrip = true := by
  simp [Record.yieldsToTrip]

/-- Below the capacity an arriving record is appended (R98, R100, R102). -/
theorem EventQueue.place_below {q : EventQueue} {policy : QueuePolicy} {r : Record} (marker : Record) {n : Nat}
    (hn : q.nextSeq = some n) (room : q.hasRoom policy r.detail.isTrip) (below : q.records.length < 320) :
    q.place policy r marker = (q.append n r, .placed n) := by
  rw [EventQueue.place, hn]
  cases policy with
  | stop => exact if_pos room
  | overwrite => exact if_pos below

/-- At the capacity OVERWRITE removes a record for it (R102). -/
theorem EventQueue.place_over {q : EventQueue} {policy : QueuePolicy} {r : Record} (marker : Record) {n : Nat}
    (hn : q.nextSeq = some n) (room : q.hasRoom policy r.detail.isTrip) (full : q.records.length = 320) :
    policy = .overwrite ∧ (∃ x ∈ q.records, q.removed x = true)
      ∧ q.place policy r marker = (({ q with
          records := q.records.eraseP q.removed, overwritten := satAdd q.overwritten 1 max32 }).append n r, .placedOver n) := by
  cases policy with
  | stop => exact absurd (show q.records.length ≤ 318 from room) (by omega)
  | overwrite =>
    have notBelow : ¬ q.records.length < queueCapacity := by unfold queueCapacity; omega
    refine ⟨rfl, ?_⟩
    rw [EventQueue.place, hn]
    simp only [EventQueue.placeOverwrite, notBelow, if_false, EventQueue.removed]
    by_cases hy : q.records.any Record.yields = true
    · simp only [hy, if_true]
      exact ⟨List.any_eq_true.1 hy, rfl⟩
    · rcases room with below | ⟨x, hx, h⟩ | ⟨trip, x, hx, h⟩
      · omega
      · exact absurd (List.any_eq_true.2 ⟨x, hx, x.yields_iff.2 h⟩) hy
      · have ht : q.records.any Record.yieldsToTrip = true := List.any_eq_true.2 ⟨x, hx, x.yieldsToTrip_iff.2 h⟩
        simp only [hy, if_false, trip, ht, Bool.and_self, if_true, Bool.false_eq_true]
        exact ⟨⟨x, hx, x.yieldsToTrip_iff.2 h⟩, rfl⟩

/-- Without room under OVERWRITE a record is lost (R102). -/
theorem EventQueue.placeOverwrite_lost {q : EventQueue} {r : Record} (n : Nat)
    (room : ¬ q.hasRoom .overwrite r.detail.isTrip) : q.placeOverwrite n r = (q.countLoss r.detail.isTrip, .lost) := by
  simp only [EventQueue.hasRoom, not_or, not_and, not_exists] at room
  obtain ⟨notBelow, noYield, noTrip⟩ := room
  have hy : ¬ q.records.any Record.yields = true := by
    rw [List.any_eq_true]
    rintro ⟨x, hx, h⟩
    obtain ⟨h1, h2⟩ := x.yields_iff.1 h
    exact noYield x hx h1 h2
  have ht : ¬ (r.detail.isTrip && q.records.any Record.yieldsToTrip) = true := by
    rw [Bool.and_eq_true, List.any_eq_true]
    rintro ⟨trip, x, hx, h⟩
    obtain ⟨h1, h2⟩ := x.yieldsToTrip_iff.1 h
    exact noTrip trip x hx h1 h2
  have full : ¬ q.records.length < queueCapacity := notBelow
  rw [EventQueue.placeOverwrite, if_neg full, if_neg hy, if_neg ht]

/-- With the numbers exhausted, under OVERWRITE, and in a full queue under STOP a lost record is counted alone
(R98, R100, R102). -/
theorem EventQueue.place_lost {q : EventQueue} {policy : QueuePolicy} {r : Record} (marker : Record)
    (h : q.nextSeq = none ∨ ¬ q.hasRoom policy r.detail.isTrip)
    (alone : q.nextSeq = none ∨ policy = .overwrite ∨ q.records.length = 320 ∧ q.newestIsMarker = false) :
    q.place policy r marker = (q.countLoss r.detail.isTrip, .lost) := by
  rw [EventQueue.place]
  cases hn : q.nextSeq with
  | none => rfl
  | some n =>
    have some_ne : q.nextSeq ≠ none := by rw [hn]; exact Option.some_ne_none n
    have room := h.resolve_left some_ne
    cases policy with
    | overwrite => exact EventQueue.placeOverwrite_lost n room
    | stop =>
      obtain ⟨full, newest⟩ := (alone.resolve_left some_ne).resolve_left (by decide)
      have h318 : ¬ q.records.length ≤ 318 := by omega
      have h319 : ¬ q.records.length = 319 := by omega
      have hm : ¬ (q.records.getLast?.map (·.detail.isMarker)).getD false = true := by
        rw [show (q.records.getLast?.map (·.detail.isMarker)).getD false = false from newest]
        exact Bool.false_ne_true
      simp only [EventQueue.placeStop, if_neg h318, if_neg hm, if_neg h319]

/-- Under STOP the first loss at 319 records places a marker (R100). -/
theorem EventQueue.place_marker {q : EventQueue} (r marker : Record) {n : Nat} (hn : q.nextSeq = some n)
    (h : q.records.length = 319) (newest : q.newestIsMarker = false) :
    q.place .stop r marker = ((q.countLoss r.detail.isTrip).append n marker, .lost) := by
  have h318 : ¬ q.records.length ≤ 318 := by omega
  have hm : ¬ (q.records.getLast?.map (·.detail.isMarker)).getD false = true := by
    rw [show (q.records.getLast?.map (·.detail.isMarker)).getD false = false from newest]
    exact Bool.false_ne_true
  simp only [EventQueue.place, hn, EventQueue.placeStop, if_neg h318, if_neg hm, if_pos h]

/-- Under STOP a newest marker absorbs what is lost (R101). -/
theorem EventQueue.place_absorbed {q : EventQueue} (r marker : Record) {n : Nat} (hn : q.nextSeq = some n)
    (h : 319 ≤ q.records.length) (newest : q.newestIsMarker = true) :
    q.place .stop r marker = ({ q.countLoss r.detail.isTrip with
      records := mapNewest (fun m => { m with detail := m.detail.absorb r.detail.isTrip }) q.records }, .lost) := by
  have h318 : ¬ q.records.length ≤ 318 := by omega
  have hm : (q.records.getLast?.map (·.detail.isMarker)).getD false = true := newest
  simp only [EventQueue.place, hn, EventQueue.placeStop, if_neg h318, if_pos hm]

/-- Whatever way a record is lost, it is counted (R100 to R102). -/
theorem EventQueue.place_counted {q : EventQueue} {policy : QueuePolicy} {r : Record} (marker : Record)
    (hd : q.records.length ≤ 320) (h : q.nextSeq = none ∨ ¬ q.hasRoom policy r.detail.isTrip) :
    (q.place policy r marker).2 = .lost
      ∧ (q.place policy r marker).1.lostTotal = satAdd q.lostTotal 1 max32
      ∧ (q.place policy r marker).1.lostTrips = satAdd q.lostTrips (if r.detail.isTrip then 1 else 0) max16
      ∧ (q.place policy r marker).1.overwritten = q.overwritten := by
  by_cases alone : q.nextSeq = none ∨ policy = .overwrite ∨ q.records.length = 320 ∧ q.newestIsMarker = false
  · rw [EventQueue.place_lost marker h alone]
    exact ⟨rfl, rfl, rfl, rfl⟩
  · have some_ne : q.nextSeq ≠ none := fun e => alone (.inl e)
    obtain ⟨n, hn⟩ := Option.ne_none_iff_exists'.1 some_ne
    cases policy with
    | overwrite => exact absurd (.inr (.inl rfl)) alone
    | stop =>
      have deep : ¬ q.records.length ≤ 318 := h.resolve_left some_ne
      cases newest : q.newestIsMarker with
      | true =>
        rw [EventQueue.place_absorbed r marker hn (by omega) newest]
        exact ⟨rfl, rfl, rfl, rfl⟩
      | false =>
        have notFull : q.records.length ≠ 320 := fun e => alone (.inr (.inr ⟨e, newest⟩))
        rw [EventQueue.place_marker r marker hn (by omega) newest]
        exact ⟨rfl, rfl, rfl, rfl⟩

/-- A change of the newest record. -/
theorem mapNewest_append (f : Record → Record) (older : List Record) (r : Record) :
    mapNewest f (older ++ [r]) = older ++ [f r] := by
  induction older with
  | nil => rfl
  | cons x xs ih =>
    cases xs with
    | nil => rfl
    | cons y ys => exact congrArg (x :: ·) ih

/-- The queue after a placement. -/
theorem State.place_evq (s : State) (p : Placement) :
    (s.place p).evq = (s.evq.place s.cfg.queuePolicy (s.recordOf p)
      (s.recordOf { detail := .overflow 1 (if p.detail.isTrip then 1 else 0) })).1 := by
  simp only [State.place, State.placeSeq]
  split <;> rfl

/-- A record lost or removed is reported (R104). -/
theorem State.place_reported {p : Placement} (h : ∀ n, (s.evq.place s.cfg.queuePolicy (s.recordOf p)
      (s.recordOf { detail := .overflow 1 (if p.detail.isTrip then 1 else 0) })).2 ≠ .placed n) :
    (s.place p).ntc.flags.getLsbD 1 = true ∧ (s.place p).shu.current.loss = true := by
  have flag (t : State) : t.reportLoss.evalWatermark.ntc.flags.getLsbD 1 = true := by
    refine (NoticeUnit.hand_flag _ .queueLevel .queueLoss _ _).trans ?_
    rw [show t.reportLoss.ntc.flags.getLsbD Notice.queueLoss.index = true from
      (NoticeUnit.raise_flag _ .queueLoss .queueLoss _).trans (Bool.or_true _), Bool.true_or]
  simp only [State.place, State.placeSeq]
  split
  · rename_i hf
    exact absurd hf (h _)
  · exact ⟨flag _, rfl⟩
  · exact ⟨flag _, rfl⟩

/-- The removal of the first record that a choice picks. -/
theorem eraseP_first {α : Type} {pick : α → Bool} {older newer : List α} {r : α} (hr : pick r = true)
    (ho : ∀ x ∈ older, pick x = false) : (older ++ r :: newer).eraseP pick = older ++ newer := by
  rw [List.eraseP_append_right _ (fun x hx => by rw [ho x hx]; exact Bool.false_ne_true), List.eraseP_cons_of_pos hr]

/-- Which record OVERWRITE removes (R102). -/
theorem EventQueue.eraseP_removed {q : EventQueue} {older newer : List Record} {r : Record}
    (hq : q.records = older ++ r :: newer) (hd : r.delivered = false)
    (h : r.detail.isTrip = false ∧ (∀ y ∈ older, y.delivered = true ∨ y.detail.isTrip = true)
      ∨ r.detail.isTrip = true ∧ (∀ y ∈ q.records, y.delivered = true ∨ y.detail.isTrip = true)
        ∧ ∀ y ∈ older, y.delivered = true) : q.records.eraseP q.removed = older ++ newer := by
  have mem : r ∈ q.records := by rw [hq]; exact List.mem_append_right _ List.mem_cons_self
  rcases h with ⟨plain, before⟩ | ⟨trip, noPlain, before⟩
  · have hy : r.yields = true := r.yields_iff.2 ⟨hd, plain⟩
    rw [EventQueue.removed, if_pos (List.any_eq_true.2 ⟨r, mem, hy⟩), hq]
    refine eraseP_first hy (fun x hx => ?_)
    rcases before x hx with h | h <;> simp [Record.yields, h]
  · have none : ¬ q.records.any Record.yields = true := by
      rw [List.any_eq_true]
      rintro ⟨x, hx, h⟩
      obtain ⟨h1, h2⟩ := x.yields_iff.1 h
      rcases noPlain x hx with h | h
      · rw [h1] at h; exact Bool.false_ne_true h
      · rw [h2] at h; exact Bool.false_ne_true h
    rw [EventQueue.removed, if_neg none, hq]
    refine eraseP_first (r.yieldsToTrip_iff.2 ⟨hd, trip⟩) (fun x hx => ?_)
    simp [Record.yieldsToTrip, before x hx]

/-- Settles O25: the lemmas on `EventQueue.place`, one for each way a record can go. -/
theorem placingOrLosingIsCounted : Obligations.PlacingOrLosingIsCounted := by
  intro p s hd q q' depth isTrip marker room
  have hroom : room ↔ q.hasRoom s.cfg.queuePolicy p.detail.isTrip := by
    simp only [room, EventQueue.hasRoom]
    cases s.cfg.queuePolicy <;> exact Iff.rfl
  generalize hm : s.recordOf { detail := .overflow 1 (if p.detail.isTrip then 1 else 0) } = m
  have hq' : q' = (q.place s.cfg.queuePolicy (s.recordOf p) m).1 := hm ▸ s.place_evq p
  have reported := State.place_reported (s := s) (p := p)
  rw [hm] at reported
  refine ⟨fun n hn hr => ?_, fun n older r newer hn hp full hq hu h => ?_, fun h => ?_, fun h alone => ?_,
    fun n hn hp h319 newest => ?_, fun older r a b hn hp h319 hq ha => ?_⟩
  · rw [hroom] at hr
    rcases Nat.lt_or_eq_of_le hd with below | full
    · have e := EventQueue.place_below (r := s.recordOf p) m hn hr below
      rw [e] at hq'
      rw [hq']
      refine ⟨⟨_, List.getLast?_concat, rfl, rfl, rfl, rfl, rfl, rfl, rfl⟩, rfl, rfl, rfl,
        fun _ => ⟨List.dropLast_concat, rfl⟩, fun e => absurd e (Nat.ne_of_lt below)⟩
    · obtain ⟨-, removes, e⟩ := EventQueue.place_over (r := s.recordOf p) m hn hr full
      rw [e] at hq'
      obtain ⟨hflag, hloss⟩ := reported (fun n => by rw [e]; exact Fate.noConfusion)
      obtain ⟨x, hx, hpick⟩ := removes
      have len : (q.records.eraseP q.removed).length = 319 := by
        rw [List.length_eraseP_of_mem hx hpick, full]
      rw [hq']
      refine ⟨⟨_, List.getLast?_concat, rfl, rfl, rfl, rfl, rfl, rfl, rfl⟩, rfl, rfl, rfl,
        fun below => absurd full (Nat.ne_of_lt below), fun _ => ⟨?_, rfl, hflag, hloss⟩⟩
      simp only [EventQueue.append, List.length_append, List.length_singleton, len]
  · have erased := EventQueue.eraseP_removed hq hu (h.imp_right And.right)
    have hr : q.hasRoom s.cfg.queuePolicy p.detail.isTrip := by
      have mem : r ∈ q.records := by rw [hq]; exact List.mem_append_right _ List.mem_cons_self
      rw [hp]
      rcases h with ⟨plain, -⟩ | ⟨trip, tripr, -⟩
      · exact .inr (.inl ⟨r, mem, hu, plain⟩)
      · exact .inr (.inr ⟨trip, r, mem, hu, tripr⟩)
    obtain ⟨-, -, e⟩ := EventQueue.place_over (r := s.recordOf p) m hn hr full
    rw [hq', e]
    exact List.dropLast_concat.trans erased
  · rw [hroom] at h
    obtain ⟨lost, total, trips, kept⟩ := EventQueue.place_counted (r := s.recordOf p) m hd h
    obtain ⟨hflag, hloss⟩ := reported (fun n => by rw [lost]; exact Fate.noConfusion)
    rw [hq']
    exact ⟨total, trips, kept, hflag, hloss⟩
  · rw [hroom] at h
    rw [hq', EventQueue.place_lost (r := s.recordOf p) m h alone]
    exact ⟨rfl, rfl⟩
  · rw [hq', hp, EventQueue.place_marker (s.recordOf p) m hn h319 newest, ← hm]
    rfl
  · obtain ⟨n, hn⟩ := Option.isSome_iff_exists.1 hn
    have newest : q.newestIsMarker = true := by
      rw [EventQueue.newestIsMarker, hq, List.getLast?_concat]
      simp [ha, Detail.isMarker]
    rw [hq', hp, EventQueue.place_absorbed (s.recordOf p) m hn h319 newest]
    refine ⟨?_, rfl⟩
    show mapNewest _ q.records = _
    rw [hq, mapNewest_append, ha]
    rfl

end Sys2Proof.Machine

/-! PROOFS. The link: the frame of a reply, a request row as the frame that carries it, the judgement of a whole frame, and
the bytes of a frame one after another. -/

namespace Sys2Proof.Machine

variable {s : State}

/-! ### The frame of a reply (R182, R186) -/

/-- A count divided and rounded up. -/
theorem ceilDiv_bounds (x : Nat) {k : Nat} (hk : 0 < k) : x ≤ ceilDiv x k * k ∧ ceilDiv x k * k < x + k := by
  simp only [ceilDiv]
  have := Nat.div_add_mod (x + k - 1) k
  have := Nat.mod_lt (x + k - 1) hk
  rw [Nat.mul_comm]
  omega

/-- The link rate as 12.1 gives it for the straps. -/
theorem baud_eq (rate : BitVec 2) :
    baud rate = if rate = 0 then 19200 else if rate = 1 then 57600 else if rate = 2 then 115200 else 230400 := by
  revert rate
  decide

/-- Settles O40: the reply is the spelled frame, its end is a division rounded up, and the summary is read bit by bit. -/
theorem replyFramesAreLaidOut : Obligations.ReplyFramesAreLaidOut := by
  intro kind tag r body s sent covered frame rate
  have hrate : baud s.lkc.rate = rate := baud_eq s.lkc.rate
  have positive : 0 < rate := by
    rw [← hrate, baud_eq]
    split_ifs <;> decide
  have hframe : replyFrame kind tag { result := r, body := body } s.summary = frame := rfl
  have hend : s.tsc.e + linkTime s.lkc.rate frame.length - s.tsc.e = ceilDiv (frame.length * 10 * 1000000) rate := by
    rw [Nat.add_sub_cancel_left, linkTime, hrate]
  obtain ⟨atLeast, less⟩ := ceilDiv_bounds (frame.length * 10 * 1000000) positive
  refine ⟨s.tsc.e + linkTime s.lkc.rate frame.length, rfl, ?_, ?_, s.summary_bits⟩
  · rw [hend]; exact atLeast
  · rw [hend]; exact less

/-! ### A request row and its frame (12.4) -/

/-- Two neighbouring cuts of a field joined are one cut. -/
theorem extract_append {w : Nat} (v : BitVec w) (p a b : Nat) :
    v.extractLsb' (p + b) a ++ v.extractLsb' p b = v.extractLsb' p (a + b) := by
  refine BitVec.eq_of_getLsbD_eq (fun i hi => ?_)
  simp only [BitVec.getLsbD_append, BitVec.getLsbD_extractLsb']
  split_ifs with h
  · simp [h, hi]
  · have : i - b < a := by omega
    simp only [this, hi, decide_true, Bool.true_and]
    congr 1
    omega

/-- A field of three, four or five bytes is read back from them (R197). -/
theorem joined24 (v : BitVec 24) : v.extractLsb' 16 8 ++ v.extractLsb' 8 8 ++ v.extractLsb' 0 8 = v := by
  change v.extractLsb' (0 + 8 + 8) 8 ++ v.extractLsb' (0 + 8) 8 ++ v.extractLsb' 0 8 = v
  rw [extract_append v (0 + 8), extract_append v 0]
  exact BitVec.extractLsb'_eq_self

theorem joined32 (v : BitVec 32) :
    field32 (v.extractLsb' 24 8) (v.extractLsb' 16 8) (v.extractLsb' 8 8) (v.extractLsb' 0 8) = v := by
  change v.extractLsb' (0 + 8 + 8 + 8) 8 ++ v.extractLsb' (0 + 8 + 8) 8 ++ v.extractLsb' (0 + 8) 8 ++ v.extractLsb' 0 8 = v
  rw [extract_append v (0 + 8 + 8), extract_append v (0 + 8), extract_append v 0]
  exact BitVec.extractLsb'_eq_self

theorem joined40 (v : BitVec 40) :
    v.extractLsb' 32 8 ++ v.extractLsb' 24 8 ++ v.extractLsb' 16 8 ++ v.extractLsb' 8 8 ++ v.extractLsb' 0 8 = v := by
  change v.extractLsb' (0 + 8 + 8 + 8 + 8) 8 ++ v.extractLsb' (0 + 8 + 8 + 8) 8 ++ v.extractLsb' (0 + 8 + 8) 8
    ++ v.extractLsb' (0 + 8) 8 ++ v.extractLsb' 0 8 = v
  rw [extract_append v (0 + 8 + 8 + 8), extract_append v (0 + 8 + 8), extract_append v (0 + 8), extract_append v 0]
  exact BitVec.extractLsb'_eq_self

/-- What LKC does with a request that its kind serves. -/
def State.takeKind (s : State) (k : Kind) (tag : Byte) (serve : State → State × Answer) : State :=
  if k = .rstrt then s.takeRestart tag else s.takeRequest k tag serve

/-- It is enough to show one kind, one body and one service for a row. -/
theorem request_served {c : Instr} {k k' : Kind} {tag tag' : Byte} {body body' : List Byte} {serve : State → State × Answer}
    (hc : requestOf c = some (k, tag, body)) (hs : k.serve body = some serve)
    (he : ∀ s, exec c s = .next (s.takeKind k tag serve)) (h : requestOf c = some (k', tag', body')) :
    ∃ serve, k'.serve body' = some serve ∧ ∀ s, exec c s = .next (s.takeKind k' tag' serve) := by
  rw [hc] at h
  obtain ⟨rfl, rfl, rfl⟩ : k = k' ∧ tag = tag' ∧ body = body' := by simpa using h
  exact ⟨serve, hs, he⟩

/-- A request row whose body fits a frame: its kind serves the body, and the row is that request taken (12.4, R185). -/
theorem exec_request {c : Instr} {k : Kind} {tag : Byte} {body : List Byte} (h : requestOf c = some (k, tag, body))
    (fits : body.length ≤ 248) : ∃ serve, k.serve body = some serve ∧ ∀ s, exec c s = .next (s.takeKind k tag serve) := by
  cases c with
  | rstrt | trd | refs | tacq | disc | einj | lnst | efls | efch | tlrd | schr | hrel | hacc | shhs | shst | save | dflt
  | stat | lstat | idnt | cfgr => exact request_served rfl rfl (fun _ => rfl) h
  | tset tag seconds micros uncertainty =>
    refine request_served rfl rfl (fun s => ?_) h
    rw [joined40, joined24, joined32]
    rfl
  | pinj | tlps | mset | cfgw | erel =>
    refine request_served rfl rfl (fun s => ?_) h
    rw [joined32]
    rfl
  | hopn tag crew window =>
    cases window <;> exact request_served rfl rfl (fun _ => rfl) h
  | tack tag crew seq =>
    refine request_served rfl rfl (fun s => ?_) h
    rw [joined32]
    rfl
  | tackAll tag crew => exact request_served rfl rfl (fun _ => rfl) h
  | schw tag entries =>
    have hb : (schwBody entries).length ≤ 248 := by
      cases h
      exact fits
    have few : entries.length < 2 ^ 8 := by
      simp only [schwBody, List.length_cons, Laws.length_entryBytes] at hb
      omega
    have count : (byteOf entries.length).toNat = entries.length := (BitVec.toNat_ofNat _ _).trans (Nat.mod_eq_of_lt few)
    refine request_served rfl (serve := serveSchw entries) ?_ (fun s => if_pos (Nat.add_le_add_right hb 2)) h
    show (schwEntries (byteOf entries.length).toNat (entries.flatMap ScheduleWrite.bytes)).map serveSchw = _
    rw [count, Laws.schwEntries_bytes]
    rfl
  | _ => exact nomatch h

/-- A reply in progress turns every request away (R185). -/
theorem State.takeKind_of_reply (h : s.lkc.reply.isSome = true) (k : Kind) (tag : Byte) (serve : State → State × Answer) :
    s.takeKind k tag serve = s.linkError .overrun := by
  rw [State.takeKind]
  split
  · exact if_pos h
  · exact if_pos h

/-- So does R185 case 3. -/
theorem State.takeKind_of_busy (h : s.lkc.reply = none) {k : Kind} (hb : s.busy k = true) (tag : Byte)
    (serve : State → State × Answer) : s.takeKind k tag serve = s.answered k.code tag .busy [] := by
  have free : ¬ s.lkc.reply.isSome = true := by rw [h]; exact Bool.false_ne_true
  rw [State.takeKind]
  split
  · rename_i hk
    subst hk
    rw [State.takeRestart, if_neg free, if_pos hb]
    rfl
  · exact (s.takeRequest_cases k tag serve).2.1 h hb

/-- The kinds that a save refuses, and those that HOLDUP does not (R176, R179). -/
theorem Kind.refusedInSave_iff (k : Kind) :
    k.refusedInSave = true ↔ k ∈ [Kind.cfgw, .tlps, .mset, .schw, .dflt, .rstrt] := by cases k <;> decide

theorem Kind.servedInHoldup_iff (k : Kind) :
    k.servedInHoldup = true ↔ k ∈ [Kind.stat, .lstat, .idnt, .trd, .tlrd, .shst, .efch, .erel] := by cases k <;> decide

/-- Settles O38: every row is its request taken (`exec_request`), and the two turnings away are said once. -/
theorem requestsTurnedAwayChangeNothing : Obligations.RequestsTurnedAwayChangeNothing := by
  intro c k tag body s h fits
  obtain ⟨serve, -, taken⟩ := exec_request h fits
  refine ⟨fun hr => ?_, fun hr hb => ?_⟩
  · rw [taken, State.takeKind_of_reply hr]
    rfl
  · have busy : s.busy k = true := by
      rw [State.busy, Bool.or_eq_true, Bool.and_eq_true, Bool.and_eq_true, Kind.refusedInSave_iff, Bool.not_eq_true',
        ← Bool.not_eq_true, Kind.servedInHoldup_iff]
      exact hb
    rw [taken, State.takeKind_of_busy hr busy]

/-! ### The judgement of a whole frame (R184, R185) -/

/-- A frame that fits is judged. -/
theorem exec_requestFrame_of_fits (kind tag : Byte) {body : List Byte} (fits : body.length ≤ 248) (check : BitVec 16) :
    exec (.requestFrame kind tag body check) s = .next (s.judgeFrameBytes kind tag body check) :=
  congrArg _ (if_pos (Nat.add_le_add_right fits 2))

/-- The check, then the reply in progress, then the kind and its body (R184, R185). -/
theorem State.judgeFrameBytes_cases (s : State) (kind tag : Byte) (body : List Byte) (check : BitVec 16) :
    (check ≠ crc16 (requestCovered kind tag body) → s.judgeFrameBytes kind tag body check = s.linkError .check)
      ∧ (check = crc16 (requestCovered kind tag body) → s.lkc.reply.isSome = true →
          s.judgeFrameBytes kind tag body check = s.linkError .overrun)
      ∧ (check = crc16 (requestCovered kind tag body) → s.lkc.reply = none →
          s.judgeFrameBytes kind tag body check = s.takeGoodFrame kind tag body) := by
  refine ⟨fun h => if_pos h, fun h hr => ?_, fun h hr => ?_⟩
  · rw [State.judgeFrameBytes, if_neg (not_not.2 h), if_pos hr]
  · rw [State.judgeFrameBytes, if_neg (not_not.2 h), if_neg (by rw [hr]; exact Bool.false_ne_true)]

/-- A good frame by its kind and its body (R185). -/
theorem State.takeGoodFrame_cases (s : State) (kind tag : Byte) (body : List Byte) :
    (Kind.ofCode kind = none → s.takeGoodFrame kind tag body = s.answered kind tag .unknown [])
      ∧ (∀ k, Kind.ofCode kind = some k → k.serve body = none →
          s.takeGoodFrame kind tag body = s.answered kind tag .badlen [])
      ∧ ∀ k serve, Kind.ofCode kind = some k → k.serve body = some serve →
          s.takeGoodFrame kind tag body = s.takeKind k tag serve := by
  refine ⟨fun h => ?_, fun k h hs => ?_, fun k serve h hs => ?_⟩
  · simp only [State.takeGoodFrame, h]; rfl
  · simp only [State.takeGoodFrame, h, hs]; rfl
  · simp only [State.takeGoodFrame, h, hs]; rfl

/-- A KIND byte that no kind has. -/
theorem Kind.ofCode_none {kind : Byte} (h : ∀ k : Kind, k.code ≠ kind) : Kind.ofCode kind = none := by
  rw [Kind.ofCode, List.find?_eq_none]
  intro k _
  simpa using h k

/-- The kinds without a body serve no other (12.4). -/
theorem Kind.serve_bodiless {k : Kind}
    (h : k.code ∈ [0x01, 0x02, 0x03, 0x04, 0x07, 0x08, 0x10, 0x12, 0x14, 0x22, 0x41, 0x42]) {body : List Byte}
    (hb : body ≠ []) : k.serve body = none := by
  obtain ⟨b, bs, rfl⟩ := List.exists_cons_of_ne_nil hb
  cases k <;> first | rfl | exact absurd h (by decide)

/-- Each of the KIND bytes without a body is that of a kind (12.4). -/
theorem Kind.exists_of_bodiless : ∀ kind ∈ ([0x01, 0x02, 0x03, 0x04, 0x07, 0x08, 0x10, 0x12, 0x14, 0x22, 0x41, 0x42] :
    List Byte), ∃ k : Kind, k.code = kind := by
  have found : ∀ kind ∈ ([0x01, 0x02, 0x03, 0x04, 0x07, 0x08, 0x10, 0x12, 0x14, 0x22, 0x41, 0x42] : List Byte),
      ∃ k ∈ Kind.all, k.code = kind := by decide
  exact fun kind h => (found kind h).imp (fun _ h => h.2)

/-- Settles O39: the lemmas on `judgeFrameBytes` and `takeGoodFrame`, in the order of R184 and R185. -/
theorem framesAreJudgedInOrder : Obligations.FramesAreJudgedInOrder := by
  intro kind tag body check s fits right kinds bodiless
  obtain ⟨wrong, overrun, good⟩ := s.judgeFrameBytes_cases kind tag body check
  obtain ⟨unknown, badlen, -⟩ := s.takeGoodFrame_cases kind tag body
  rw [exec_requestFrame_of_fits kind tag fits check]
  refine ⟨fun h => ?_, fun h hr => ?_, fun h hr hk => ?_, fun h hr hk hb => ?_⟩
  · rw [wrong h]; rfl
  · rw [overrun h hr]; rfl
  · have none : Kind.ofCode kind = none := Kind.ofCode_none (fun k e => hk (by subst e; cases k <;> decide))
    rw [good h hr, unknown none]
  · obtain ⟨k, rfl⟩ := Kind.exists_of_bodiless kind hk
    rw [good h hr, badlen k (Laws.Kind.ofCode_code k) (Kind.serve_bodiless hk hb)]

/-- Only a schedule can have a body that no frame holds (12.4). -/
theorem schw_of_long {c : Instr} {k : Kind} {tag : Byte} {body : List Byte} (h : requestOf c = some (k, tag, body))
    (long : 248 < body.length) : ∃ entries, c = .schw tag entries := by
  cases c with
  | schw tag' entries => cases h; exact ⟨entries, rfl⟩
  | hopn tag' crew window => cases window <;> cases h <;> exact absurd long (Nat.not_lt.2 (by simp))
  | _ => cases h <;> exact absurd long (Nat.not_lt.2 (by simp [bytes32]))

/-- Settles O41: a row and its frame are both its request taken; of a schedule that no frame holds both are the long frame. -/
theorem framesCarryTheRequests : Obligations.FramesCarryTheRequests := by
  intro c k tag body s h
  rcases Nat.lt_or_ge 248 body.length with long | fits
  · have tooLong : ¬ body.length + 2 ≤ maxRequestLen := by unfold maxRequestLen; omega
    obtain ⟨entries, rfl⟩ := schw_of_long h long
    cases h
    exact ⟨_, congrArg Host.Outcome.next (if_neg tooLong), if_neg tooLong⟩
  · obtain ⟨serve, served, taken⟩ := exec_request h fits
    obtain ⟨-, overrun, good⟩ := s.judgeFrameBytes_cases k.code tag body (crc16 (requestCovered k.code tag body))
    rw [exec_requestFrame_of_fits k.code tag fits]
    refine ⟨_, rfl, ?_⟩
    rw [taken]
    cases hr : s.lkc.reply with
    | none => rw [good rfl hr, (s.takeGoodFrame_cases k.code tag body).2.2 k serve (Laws.Kind.ofCode_code k) served]
    | some r =>
      have reply : s.lkc.reply.isSome = true := by rw [hr]; rfl
      rw [overrun rfl reply, State.takeKind_of_reply reply]

end Sys2Proof.Machine

/-! PROOFS. Bytes on the link and characters on REF-A: what each moment does, and a whole frame as its bytes or characters
one after another. -/

namespace Sys2Proof.Machine

variable {s : State}

/-- Moments that are all taken, as one state after another. -/
theorem execAll_moments {moments : Byte → List Instr} {take : Byte → State → State}
    (h : ∀ b s t cs, ExecAll cs (take b s) t → ExecAll (moments b ++ cs) s t) (bytes : List Byte) (s : State) :
    ExecAll (bytes.flatMap moments) s (forAll bytes take s) := by
  induction bytes generalizing s with
  | nil => rfl
  | cons b bs ih => exact h b s _ _ (ih _)

/-! ### Bytes on LRXD (R183) -/

/-- The bytes of a frame, each begun and completed. -/
theorem execAll_byteMoments (bytes : List Byte) (s : State) :
    ExecAll (byteMoments bytes) s (forAll bytes State.takeByte s) :=
  execAll_moments (moments := fun b => [.linkByte .begins, .linkByte (.completes b)])
    (fun _ _ _ _ h => ⟨_, rfl, _, rfl, h⟩) bytes s

/-- LKC in HUNT with no byte begun and no gap timer. -/
def State.idle (s : State) : Prop := s.lkc.receive = none ∧ s.lkc.gap = none ∧ s.lkc.begun = false

/-- A part whose link is idle has nothing to end there. -/
theorem State.idle.endFrame_eq (h : s.idle) : s.endFrame = s := by
  obtain ⟨hr, hg, -⟩ := h
  rw [State.endFrame, ← hr]
  conv in none => rw [← hg]
  rfl

/-- A byte of a frame depends on what ends the frame and what goes on with it alone. -/
theorem frameByte_congr {t : State} (ends : t.endFrame = s.endFrame) (goes : ∀ all, t.inFrame all = s.inFrame all)
    (bytes : List Byte) (b : Byte) : t.frameByte bytes b = s.frameByte bytes b := by
  simp only [State.frameByte, ends, goes]

/-- A byte that has begun completes in HUNT or in a frame; without a start bit there is no byte (R183, R196). -/
theorem completeByte_cases (b : Byte) (s : State) :
    (s.lkc.begun = false → s.completeByte b = s)
      ∧ (s.lkc.begun = true → s.lkc.receive = none → b = 0xA7 →
          s.completeByte b = (s.setLkc { s.lkc with begun := false }).inFrame [b])
      ∧ (s.lkc.begun = true → s.lkc.receive = none → b ≠ 0xA7 →
          s.completeByte b = (s.setLkc { s.lkc with begun := false }).noise)
      ∧ (∀ bytes, s.lkc.begun = true → s.lkc.receive = some bytes →
          s.completeByte b = (s.setLkc { s.lkc with begun := false }).frameByte bytes b) := by
  refine ⟨fun hb => ?_, fun hb hr h => ?_, fun hb hr h => ?_, fun bytes hb hr => ?_⟩
  · simp only [State.completeByte, hb, Bool.false_eq_true, if_false]
  · simp only [State.completeByte, hb, hr, h, if_true]
  · simp only [State.completeByte, hb, hr, h, if_true, if_false]
  · simp only [State.completeByte, hb, hr, if_true]

/-- With no byte begun a falling edge is a start bit (R183). -/
theorem takeByte_of_not_begun (hb : s.lkc.begun = false) (b : Byte) : s.takeByte b = s.beginByte.completeByte b := by
  have : s.takeByteMoment .begins = s.beginByte := if_neg (by rw [hb]; exact Bool.false_ne_true)
  rw [State.takeByte, this]
  rfl

/-- On an idle link a byte that has completed leaves what it has made of the frame alone. -/
theorem State.idle.begun_eq (h : s.idle) (receive : Option (List Byte)) (gap : Option Nat) :
    s.setLkc { s.lkc with begun := false, receive := receive, gap := gap }
      = s.setLkc { s.lkc with receive := receive, gap := gap } := by
  obtain ⟨-, -, hb⟩ := h
  rw [← hb]

/-- A byte begun and completed with a frame in assembly is a byte of that frame. -/
theorem takeByte_inFrame (h : s.idle) (bytes : List Byte) (b : Byte) :
    (s.inFrame bytes).takeByte b = s.frameByte bytes b := by
  have begun : (s.inFrame bytes).lkc.begun = false := h.2.2
  rw [takeByte_of_not_begun begun, (completeByte_cases b _).2.2.2 bytes rfl rfl]
  refine frameByte_congr (s := s) ?_ (fun all => ?_) bytes b
  · exact h.begun_eq _ _
  · exact h.begun_eq _ _

/-- SOF in HUNT begins a frame. -/
theorem takeByte_sof (h : s.idle) : s.takeByte 0xA7 = s.inFrame [0xA7] := by
  rw [takeByte_of_not_begun h.2.2, (completeByte_cases _ s.beginByte).2.1 rfl h.1 rfl]
  exact h.begun_eq _ _

/-- The judgement of LEN (R183). -/
theorem frameByte_len (len : Byte) :
    (len.toNat < 2 ∨ 250 < len.toNat → s.frameByte [0xA7] len = s.endFrame.linkError .length)
      ∧ (2 ≤ len.toNat → len.toNat ≤ 250 → s.frameByte [0xA7] len = s.inFrame [0xA7, len]) := by
  constructor
  · intro h
    have : (decide (len.toNat < 2) || decide (maxRequestLen < len.toNat)) = true := by
      rw [Bool.or_eq_true, decide_eq_true_eq, decide_eq_true_eq]
      exact h
    simp only [State.frameByte, List.cons_append, List.nil_append, List.isEmpty_nil, this, Bool.and_self, if_true]
  · intro h2 h250
    have : (decide (len.toNat < 2) || decide (maxRequestLen < len.toNat)) = false := by
      rw [Bool.or_eq_false_iff, decide_eq_false_iff_not, decide_eq_false_iff_not]
      exact ⟨Nat.not_lt.2 h2, Nat.not_lt.2 h250⟩
    have more : ¬ 0 = len.toNat + 2 := by omega
    simp only [State.frameByte, List.cons_append, List.nil_append, List.isEmpty_nil, this, Bool.and_false,
      Bool.false_eq_true, if_false, List.length_nil, more]

/-- A byte after LEN is kept, or it is the last (R183). -/
theorem frameByte_rest (len : Byte) (rest : List Byte) (b : Byte) :
    (rest.length + 1 < len.toNat + 2 → s.frameByte (0xA7 :: len :: rest) b = s.inFrame (0xA7 :: len :: (rest ++ [b])))
      ∧ (rest.length + 1 = len.toNat + 2 →
          s.frameByte (0xA7 :: len :: rest) b = s.endFrame.completeFrame (rest ++ [b])) := by
  have some_rest : (rest ++ [b]).isEmpty = false := by simp
  have count : (rest ++ [b]).length = rest.length + 1 := by simp
  constructor
  · intro h
    have more : ¬ rest.length + 1 = len.toNat + 2 := by omega
    simp only [State.frameByte, List.cons_append, some_rest, Bool.false_and, Bool.false_eq_true, if_false, count, more]
  · intro h
    simp only [State.frameByte, List.cons_append, some_rest, Bool.false_and, Bool.false_eq_true, if_false, count, h, if_true]

/-- The bytes that a frame in assembly still wants complete it (R183). -/
theorem takeBytes_complete (h : s.idle) {len : Byte} (xs : List Byte) : ∀ rest : List Byte, xs ≠ [] →
    rest.length + xs.length = len.toNat + 2 →
    forAll xs State.takeByte (s.inFrame (0xA7 :: len :: rest)) = s.completeFrame (rest ++ xs) := by
  induction xs with
  | nil => exact fun _ h => absurd rfl h
  | cons x xs ih =>
    intro rest _ hl
    rw [List.length_cons] at hl
    rw [forAll_cons, takeByte_inFrame h]
    obtain ⟨more, last⟩ := frameByte_rest (s := s) len rest x
    cases xs with
    | nil => rw [last (by simpa using hl), h.endFrame_eq]; rfl
    | cons y ys =>
      rw [more (by simp only [List.length_cons] at hl; omega), ih (rest ++ [x]) (by simp) (by simp at hl ⊢; omega),
        List.append_assoc, List.singleton_append]

/-- A 16-bit value is read back from its two bytes (R197). -/
theorem ofBytes_beBytes (v : BitVec 16) : BitVec.ofNat 16 (ofBytes (beBytes 2 v.toNat)) = v := by
  have hv := v.isLt
  apply BitVec.eq_of_toNat_eq
  simp only [ofBytes, beBytes, List.foldl_cons, List.foldl_nil, BitVec.toNat_ofNat]
  omega

/-- The bytes after LEN of a whole frame are judged as its kind, tag, body and check. -/
theorem completeFrame_eq (kind tag : Byte) (body : List Byte) (check : BitVec 16) :
    s.completeFrame (kind :: tag :: (body ++ beBytes 2 check.toNat)) = s.judgeFrameBytes kind tag body check := by
  have two : (body ++ beBytes 2 check.toNat).length - 2 = body.length := by
    rw [List.length_append]; exact Nat.add_sub_cancel _ 2
  simp only [State.completeFrame, two, List.take_left, List.drop_left, ofBytes_beBytes]

/-- A frame that its LEN ends leaves the link idle. -/
theorem idle_linkError_endFrame (h : s.lkc.begun = false) : (s.endFrame.linkError .length).idle := ⟨rfl, rfl, h⟩

/-- Settles O42: SOF begins the frame, LEN is judged, and the bytes after it complete the frame or are judged in HUNT. -/
theorem bytesCarryTheFrame : Obligations.BytesCarryTheFrame := by
  refine ⟨?_, ?_⟩
  · intro kind tag body check s fits hr hg hb
    have idle : s.idle := ⟨hr, hg, hb⟩
    refine ⟨_, rfl, ?_⟩
    have len : (byteOf (body.length + 2)).toNat = body.length + 2 :=
      (BitVec.toNat_ofNat _ _).trans (Nat.mod_eq_of_lt (by omega))
    have bytes : [0xA7] ++ requestCovered kind tag body ++ beBytes 2 check.toNat
        = 0xA7 :: byteOf (body.length + 2) :: kind :: tag :: (body ++ beBytes 2 check.toNat) := rfl
    obtain ⟨outside, inside⟩ := frameByte_len (s := s) (byteOf (body.length + 2))
    have taken : forAll ([0xA7] ++ requestCovered kind tag body ++ beBytes 2 check.toNat) State.takeByte s
        = s.takeFrameBytes kind tag body check := by
      rw [bytes, forAll_cons, takeByte_sof idle, forAll_cons, takeByte_inFrame idle]
      rcases Nat.lt_or_ge 250 (body.length + 2) with long | short
      · have tooLong : ¬ body.length + 2 ≤ maxRequestLen := Nat.not_le.2 long
        rw [outside (.inr (by omega)), State.takeFrameBytes, if_neg tooLong]
        rfl
      · rw [inside (by omega) (by omega), takeBytes_complete idle _ [] (by simp) (by simp [len, beBytes]),
          State.takeFrameBytes, if_pos (show body.length + 2 ≤ maxRequestLen from short)]
        exact completeFrame_eq kind tag body check
    rw [← taken]
    exact execAll_byteMoments _ s
  · intro kind tag body check s long ended
    have tooLong : ¬ body.length + 2 ≤ maxRequestLen := by unfold maxRequestLen; omega
    exact ⟨_, congrArg Host.Outcome.next (if_neg tooLong), execAll_byteMoments _ ended⟩

/-- Settles O43: a start bit stops the gap timer, and a byte that completes is one of `completeByte_cases`. -/
theorem huntAndLengthAreJudged : Obligations.HuntAndLengthAreJudged := by
  intro b s l
  obtain ⟨nothing, sof, noise, frame⟩ := completeByte_cases b s
  refine ⟨fun hb => ?_, fun hb => congrArg _ (if_pos hb), fun hb => congrArg _ (nothing hb), fun hb hr h => ?_,
    fun hb hr h => ?_, fun hb hr h => ?_, fun hb hr h2 h250 => ?_, fun len rest hb hr h => ?_⟩
  · exact congrArg _ (if_neg (by rw [hb]; exact Bool.false_ne_true))
  · exact congrArg _ (noise hb hr h)
  · exact congrArg _ ((sof hb hr h).trans (by rw [h]; rfl))
  · exact congrArg _ ((frame _ hb hr).trans ((frameByte_len b).1 h))
  · exact congrArg _ ((frame _ hb hr).trans ((frameByte_len b).2 h2 h250))
  · exact congrArg _ ((frame _ hb hr).trans ((frameByte_rest len rest b).1 h))

/-! ### Characters on REF-A (R19 to R21) -/

/-- The characters of a frame, each begun and completed. -/
theorem execAll_characterMoments (bytes : List Byte) (s : State) :
    ExecAll (characterMoments bytes) s (forAll bytes State.takeChar s) :=
  execAll_moments (moments := fun b => [.refaCharacter .begins true, .refaCharacter (.completes b) true])
    (fun _ _ _ _ h => ⟨_, rfl, _, rfl, h⟩) bytes s

/-- The window of SYNC lets a mark pass that is expected; HUNT has no window (R21). -/
theorem Receiver.inWindow_iff (s : State) (mark : Latch) :
    s.rrx.inWindow mark.e = true ↔ (s.rrx.state = .sync → s.expects mark) := by
  rw [Receiver.inWindow]
  cases hs : s.rrx.state with
  | hunt => simp
  | sync =>
    simp only [forall_const, State.expects]
    cases hl : s.rrx.srcA.lastMark with
    | none => simp
    | some l =>
      simp only [Option.map_some, Option.getD_some, expectedMark, List.any_eq_true, mem_numbers, decide_eq_true_eq,
        Option.some.injEq]
      constructor
      · rintro ⟨n, ⟨h1, h7⟩, h⟩
        exact ⟨l, n, rfl, h1, h7, h⟩
      · rintro ⟨_, n, rfl, h1, h7, h⟩
        exact ⟨n, ⟨h1, h7⟩, h⟩

/-- The receiver after a character has completed, before it is searched or appended (R20). -/
def State.charTaken (s : State) (v : Byte) (l : Latch) : State :=
  s.setRrx { s.rrx with begun := none, prevChar := some (v, l) }

/-- A character that has begun completes: it is searched, or appended to the candidate in hand; without a start bit there
is no character (R20, R41). -/
theorem completeChar_cases (v : Byte) (s : State) :
    (s.rrx.begun = none → s.completeChar v = s)
      ∧ (∀ l, s.rrx.begun = some l → s.rrx.candidate = none →
          s.completeChar v = (s.charTaken v l).searchPair s.rrx.prevChar v)
      ∧ (∀ l c, s.rrx.begun = some l → s.rrx.candidate = some c → s.completeChar v = (s.charTaken v l).appendChar c v) := by
  refine ⟨fun hb => ?_, fun l hb hc => ?_, fun l c hb hc => ?_⟩
  · simp only [State.completeChar, hb]
  · simp only [State.completeChar, hb]
    split
    · rfl
    · rename_i h
      exact nomatch h.symm.trans hc
  · simp only [State.completeChar, hb]
    split
    · rename_i h
      exact nomatch h.symm.trans hc
    · rename_i h
      cases h.symm.trans hc
      rfl

/-- The sync-pair search (R20). -/
theorem searchPair_cases (prev : Option (Byte × Latch)) (v : Byte) (s : State) :
    ((v ≠ 0x3C ∨ ∀ mark, prev ≠ some (0xC3, mark)) → s.searchPair prev v = s)
      ∧ (∀ mark, v = 0x3C → prev = some (0xC3, mark) → s.searchPair prev v = s.openCandidate mark) := by
  refine ⟨fun h => ?_, fun mark hv hp => ?_⟩
  · rcases prev with _ | ⟨p, mark⟩
    · rfl
    · refine if_neg (fun ⟨hp, hv⟩ => ?_)
      subst hp
      exact h.elim (fun h => h hv) (fun h => h mark rfl)
  · rw [hp]
    exact if_pos ⟨rfl, hv⟩

/-- Settles O44: `completeChar_cases`, `searchPair_cases` and the laws of candidates; a whole frame is its characters. -/
theorem charactersCarryTheFrame : Obligations.CharactersCarryTheFrame := by
  refine ⟨?_, fun m check s => ⟨_, rfl, execAll_characterMoments _ s⟩⟩
  intro v stopHigh s r
  obtain ⟨nothing, search, append⟩ := completeChar_cases v s
  refine ⟨fun hb => ?_, fun hb => ?_, fun hb => congrArg _ (nothing hb), fun l hb => ?_⟩
  · show Host.Outcome.next (s.setRrx { s.rrx with begun := some (s.rrx.begun.getD s.latch) }) = _
    rw [show s.rrx.begun = none from hb]
    rfl
  · obtain ⟨l, hb⟩ := Option.isSome_iff_exists.1 hb
    show Host.Outcome.next (s.setRrx { s.rrx with begun := some (s.rrx.begun.getD s.latch) }) = _
    rw [show s.rrx.begun = some l from hb, Option.getD_some, ← hb]
    rfl
  · intro taken
    refine ⟨fun hc h => ?_, fun mark hc hv hp ht hw => ?_, fun c hc short ht => ?_⟩
    · exact congrArg _ ((search l hb hc).trans ((searchPair_cases _ _ _).1 h))
    · have window : (s.charTaken v l).rrx.inWindow mark.e = true := (Receiver.inWindow_iff (s.charTaken v l) mark).2 hw
      rcases (s.charTaken v l).openCandidate_cases mark with ⟨-, -, e⟩ | ⟨closed, -⟩
      · exact congrArg _ ((search l hb hc).trans (((searchPair_cases _ _ _).2 mark hv hp).trans e))
      · rcases closed with closed | late
        · rw [window] at closed; exact absurd closed.symm Bool.false_ne_true
        · exact absurd ht (Nat.not_lt.2 late)
    · have more : c.bytes.length + 1 < candidateLength := Nat.succ_lt_succ short
      exact congrArg _ ((append l c hb hc).trans (((s.charTaken v l).appendChar_cases c v).2.1 ht more))

end Sys2Proof.Machine

/-! PROOFS. The tallies: one change for each of several units, the units that a selector names, TLPS, MSET, the periodic
evaluation and the discrepancy timers. -/

namespace Sys2Proof.Machine

variable {s : State}

/-! ### What a frame leaves -/

/-- The whole time scale, when no piece of it is said to change. -/
theorem Unchanged.tsc_eq {L : List Part} {s t : State} (h : Unchanged L s t) (hc : .clock ∉ L) (he : .epoch ∉ L)
    (hl : .leap ∉ L) (ht : .tracker ∉ L) : t.tsc = s.tsc := by
  obtain ⟨h1, h2, h3, h4, h5⟩ := h .clock hc
  obtain ⟨h6, h7⟩ := h .leap hl
  obtain ⟨h8, h9⟩ := h .tracker ht
  have h10 : t.tsc.epoch = s.tsc.epoch := h .epoch he
  rcases ht : t.tsc
  rcases hs : s.tsc
  simp_all

/-- The configuration of a unit. -/
theorem Unchanged.unitCfg_eq {L : List Part} {s t : State} (h : Unchanged L s t) (hc : .cfg ∉ L) (u : Nat) :
    t.unitCfg u = s.unitCfg u := by
  have : t.cfg = s.cfg := h .cfg hc
  rw [State.unitCfg, this]
  rfl

/-- Time brought to an instant moves the clock alone. -/
theorem reach_unchanged {L : List Part} (h : .clock ∈ L) (s : State) (at' : Nat) :
    Unchanged L s (s.setTsc (s.tsc.reach at')) := by
  rw [TimeScale.reach]
  split
  · exact Unchanged.refl _ _
  · exact setTsc_advance_unchanged s h _

/-! ### One change for each of several units -/

/-- A unit written and read. -/
theorem State.unit_setUnit (s : State) (u v : Nat) (x : GenUnit) (h : 1 ≤ u ∧ u ≤ 8) :
    (s.setUnit u x).unit v = if v = u then x else s.unit v := by
  show nth (setNth s.tlu.units u x) v = _
  split
  · rename_i e; subst e; exact nth_setNth_self _ _ _ h
  · rename_i e; exact nth_setNth_other _ _ _ _ e

/-- A change for each unit of a list that touches no other unit: what it makes of each one, and what it keeps. -/
theorem forAll_units {us : List Nat} (nodup : us.Nodup) {f : Nat → State → State} {P : State → Prop}
    {Q : Nat → GenUnit → Prop} {s : State} (keep : ∀ u ∈ us, ∀ t, P t → P (f u t))
    (other : ∀ u ∈ us, ∀ t v, v ≠ u → (f u t).unit v = t.unit v)
    (hit : ∀ u ∈ us, ∀ t, P t → t.unit u = s.unit u → Q u ((f u t).unit u)) (h : P s) :
    (∀ u ∈ us, Q u ((forAll us f s).unit u)) ∧ (∀ u, u ∉ us → (forAll us f s).unit u = s.unit u) ∧ P (forAll us f s) := by
  have untouched (xs : List Nat) (hx : ∀ x ∈ xs, x ∈ us) (v : Nat) (hv : v ∉ xs) (t : State) :
      (forAll xs f t).unit v = t.unit v := by
    induction xs generalizing t with
    | nil => rfl
    | cons x xs ih =>
      rw [forAll_cons, ih (fun y hy => hx y (List.mem_cons_of_mem _ hy)) (fun hm => hv (List.mem_cons_of_mem _ hm))]
      exact other x (hx x List.mem_cons_self) t v (fun e => hv (e ▸ List.mem_cons_self))
  refine ⟨?_, fun u hu => untouched us (fun _ h => h) u hu s, forAll_keeps P us f keep s h⟩
  intro u hu
  obtain ⟨before, after, rfl⟩ := List.append_of_mem hu
  have notBefore : u ∉ before := fun hb => (List.nodup_append.1 nodup).2.2 u hb u List.mem_cons_self rfl
  have notAfter : u ∉ after := (List.nodup_cons.1 (List.nodup_append.1 nodup).2.1).1
  have split (t : State) : forAll (before ++ u :: after) f t = forAll after f (f u (forAll before f t)) :=
    List.foldl_append
  have kept : P (forAll before f s) :=
    forAll_keeps P before f (fun x hx => keep x (List.mem_append_left _ hx)) s h
  rw [split, untouched after (fun x hx => List.mem_append_right _ (List.mem_cons_of_mem _ hx)) u notAfter]
  exact hit u hu _ kept (untouched before (fun x hx => List.mem_append_left _ hx) u notBefore s)

/-! ### The units that a selector names (R198) -/

theorem numbers_eq_range' (k : Nat) : numbers k = List.range' 1 k := by
  rw [numbers, List.range'_eq_map_range]
  exact List.map_congr_left (fun x _ => Nat.add_comm x 1)

/-- A selector names units of the part, each once. -/
theorem State.selectUnits_some {selector n : Byte} {us : List Nat} (h : s.selectUnits selector n = some us) :
    us.Nodup ∧ ∀ u ∈ us, 1 ≤ u ∧ u ≤ 8 := by
  have all : (numbers 8).Nodup ∧ ∀ u ∈ numbers 8, 1 ≤ u ∧ u ≤ 8 := ⟨by decide, fun u => (mem_numbers 8 u).1⟩
  simp only [State.selectUnits] at h
  split at h
  · split at h
    · rename_i hn
      cases h
      exact ⟨List.nodup_singleton _, fun u hu => by rw [List.mem_singleton.1 hu]; exact of_decide_eq_true hn⟩
    · cases h
  · split at h
    · split at h
      · cases h
        exact ⟨all.1.filter _, fun u hu => all.2 u (List.mem_of_mem_filter hu)⟩
      · cases h
    · split at h
      · cases h
        exact all
      · cases h

/-- The units that 12.4 gives for a selector. -/
theorem State.selectUnits_eq (s : State) (selector n : Byte) :
    s.selectUnits selector n =
      if selector = 1 then (if 1 ≤ n.toNat ∧ n.toNat ≤ 8 then some [n.toNat] else none)
      else if selector = 2 then
        (if 1 ≤ n.toNat ∧ n.toNat ≤ 7 then some ((List.range' 1 8).filter (fun u => (s.unitCfg u).group = n.toNat)) else none)
      else if selector = 3 then some (List.range' 1 8) else none := by
  have hgroup : (fun u => (s.unitCfg u).group == n.toNat) = fun u => decide ((s.unitCfg u).group = n.toNat) :=
    funext fun u => Bool.beq_eq_decide_eq _ _
  simp only [State.selectUnits, unitExists, decide_eq_true_eq, numbers_eq_range', hgroup]

/-! ### Equivalent hours (R132) -/

/-- A reading depends on the mode, the checkpoint instant and the accumulators alone. -/
theorem GenUnit.reading_congr {g g' : GenUnit} (hm : g'.mode = g.mode) (he : g'.ecp = g.ecp)
    (ha : g'.tally.accs = g.tally.accs) (now : Nat) : g'.reading now = g.reading now := by
  simp only [GenUnit.reading, GenUnit.checkpoint, GenUnit.open', hm, he]
  split
  · exact ha
  · rw [ha]

/-- EOH depends on the reading, the counts and the baseline alone: not on the limit, its flag, SAT, the entry or the timer. -/
theorem GenUnit.eoh_congr {g g' : GenUnit} (hm : g'.mode = g.mode) (he : g'.ecp = g.ecp)
    (ha : g'.tally.accs = g.tally.accs) (hs : g'.tally.starts = g.tally.starts) (ht : g'.tally.trips = g.tally.trips)
    (hb : g'.tally.baseline = g.tally.baseline) (w : UnitSettings) (now : Nat) : g'.eoh w now = g.eoh w now := by
  rw [GenUnit.eoh, GenUnit.eoh, GenUnit.reading_congr hm he ha, hs, ht, hb]

/-- A tally written that keeps accumulators, counts and baseline keeps EOH. -/
theorem State.eoh_setTally (s : State) {u : Nat} (hu : 1 ≤ u ∧ u ≤ 8) {x : Tally} (ha : x.accs = (s.unit u).tally.accs)
    (hs : x.starts = (s.unit u).tally.starts) (ht : x.trips = (s.unit u).tally.trips)
    (hb : x.baseline = (s.unit u).tally.baseline) : (s.setTally u x).eoh u = s.eoh u := by
  rw [State.eoh, State.setTally, State.unit_setUnit _ _ _ _ hu, if_pos rfl]
  exact GenUnit.eoh_congr (g := s.unit u) (g' := { s.unit u with tally := x }) rfl rfl ha hs ht hb _ _

/-! ### MSET (R134, R138) -/

/-- A limit set is evaluated at once. -/
theorem State.limitUnit_unit (s : State) (limit u v : Nat) (h : 1 ≤ u ∧ u ≤ 8) :
    (s.limitUnit limit u).unit v = if v = u then { s.unit u with tally := { (s.unit u).tally with
      limit := limit, due := decide (limit ≤ s.eoh u) } } else s.unit v := by
  have hu : (s.setTally u { (s.unit u).tally with limit := limit }).unit u
      = { s.unit u with tally := { (s.unit u).tally with limit := limit } } :=
    (s.unit_setUnit u u _ h).trans (if_pos rfl)
  rw [State.limitUnit, State.evalMaintenance_unit _ _ _ (decide_eq_true h)]
  split
  · rw [State.eoh_setTally s h (x := { (s.unit u).tally with limit := limit }) rfl rfl rfl rfl, hu]
  · rename_i hv
    exact (s.unit_setUnit u v _ h).trans (if_neg hv)

/-- Settles O27: `limitUnit_unit` for each selected unit. -/
theorem msetSetsTheLimit : Obligations.MsetSetsTheLimit := by
  intro tag selector n limit s ha units
  have hunits : s.selectUnits selector n = units := s.selectUnits_eq selector n
  refine ⟨fun h => ?_, fun us h => ?_⟩
  · have served : serveMset selector n limit s = (s, { result := .param }) := by rw [serveMset, hunits, h]
    exact congrArg _ (State.takeRequest_of_serve tag ha served)
  · have served : serveMset selector n limit s
        = (forAll us (State.limitUnit limit.toNat) s, { result := .ok, body := [byteOf us.length] }) := by
      rw [serveMset, hunits, h]
    obtain ⟨nodup, inside⟩ := State.selectUnits_some (hunits.trans h)
    have limited (u : Nat) (hu : u ∈ us) (t : State) (ht : Unchanged (.tlu :: Part.recording) s t) (same : t.unit u = s.unit u) :
        (t.limitUnit limit.toNat u).unit u = { s.unit u with tally := { (s.unit u).tally with
          limit := limit.toNat, due := decide (limit.toNat ≤ s.eoh u) } } := by
      have hcfg : t.cfg = s.cfg := ht .cfg (by decide)
      have htsc : t.tsc = s.tsc := ht.tsc_eq (by decide) (by decide) (by decide) (by decide)
      have eoh : t.eoh u = s.eoh u := by simp only [State.eoh, same, State.unitCfg, hcfg, htsc]
      rw [t.limitUnit_unit _ u u (inside u hu), if_pos rfl, same, eoh]
    obtain ⟨hit, other, unchanged⟩ := forAll_units (s := s) nodup (f := State.limitUnit limit.toNat)
      (P := Unchanged (.tlu :: Part.recording) s)
      (Q := fun u x => x = { s.unit u with tally := { (s.unit u).tally with
        limit := limit.toNat, due := decide (limit.toNat ≤ s.eoh u) } })
      (fun u _ t ht => ht.trans (limitUnit_unchanged t (by decide) (by decide) _ _))
      (fun u hu t v hv => (t.limitUnit_unit _ u v (inside u hu)).trans (if_neg hv))
      limited (Unchanged.refl _ _)
    exact ⟨_, congrArg _ (State.takeRequest_of_serve tag ha served), hit, other, unchanged⟩

/-! ### TLPS (R129) -/

/-- The field of a code; 0 and the codes above 9 name none (R198). -/
theorem TallyField.ofCode_cases (b : Byte) :
    (b.toNat = 0 ∨ 9 < b.toNat → TallyField.ofCode b = none)
      ∧ (1 ≤ b.toNat → b.toNat ≤ 9 → ∃ f, TallyField.ofCode b = some f ∧ f.code = b.toNat) := by
  have bounds (f : TallyField) : 1 ≤ f.code ∧ f.code ≤ 9 := by cases f <;> decide
  constructor
  · intro h
    rw [TallyField.ofCode, List.find?_eq_none]
    intro f _ e
    have := bounds f
    rw [beq_iff_eq] at e
    omega
  · intro h1 h9
    have listed : ∃ f ∈ [TallyField.stillS, .spinS, .genS, .pumpS, .condS, .indetS, .starts, .trips, .baseline],
        f.code = b.toNat := by
      generalize b.toNat = k at h1 h9
      revert k
      decide
    cases h : TallyField.ofCode b with
    | some f => exact ⟨f, rfl, by simpa using List.find?_some h⟩
    | none =>
      obtain ⟨f, hf, e⟩ := listed
      exact absurd (beq_iff_eq.2 e) (List.find?_eq_none.1 h f hf)

/-- A field of 16 bits takes no larger value, and every value fits one of 32 (R129). -/
theorem TallyField.fits_iff (f : TallyField) (value : BitVec 32) :
    value.toNat ≤ f.max ↔ ¬((f.code = 7 ∨ f.code = 8) ∧ 65535 < value.toNat) := by
  have := value.isLt
  cases f <;> simp [TallyField.max, TallyField.code, max16, max32] <;> omega

/-- TLU judges the units, the field and its value (R129). -/
theorem serveTlps_cases (selector n field : Byte) (value : BitVec 32) (s : State) :
    (s.selectUnits selector n = none → serveTlps selector n field value s = (s, { result := .param }))
      ∧ (TallyField.ofCode field = none → serveTlps selector n field value s = (s, { result := .param }))
      ∧ (∀ f, TallyField.ofCode field = some f → ¬ value.toNat ≤ f.max →
          serveTlps selector n field value s = (s, { result := .param }))
      ∧ (∀ us f, s.selectUnits selector n = some us → TallyField.ofCode field = some f → value.toNat ≤ f.max →
          serveTlps selector n field value s
            = (forAll us (State.presetUnit f value.toNat) s, { result := .ok, body := [byteOf us.length] })) := by
  refine ⟨fun h => ?_, fun h => ?_, fun f hf h => ?_, fun us f hu hf h => ?_⟩
  · simp only [serveTlps, h]
  · rw [serveTlps, h]
    cases s.selectUnits selector n <;> rfl
  · rw [serveTlps, hf]
    cases s.selectUnits selector n with
    | none => rfl
    | some us => exact if_neg h
  · simp only [serveTlps, hu, hf, h, if_true]

/-- What a preset changes of a tally: the field, with its remainder, and no other (R129). -/
theorem Tally.preset_field (t : Tally) (f g : TallyField) (v : Nat) :
    (t.preset f v).field g = if g = f then v else t.field g := by
  cases f <;> cases g <;> rfl

theorem Tally.preset_rem (t : Tally) {f : TallyField} (v : Nat) {mode : Mode} (h : mode.code = f.code) :
    ((t.preset f v).accs.get mode).rem = 0 := by
  cases f <;> cases mode <;> first | rfl | exact absurd h (by decide)

/-- SAT stands exactly when some seconds field is at its largest value (R129 step 3). -/
theorem Accs.saturated_iff (a : Accs) :
    a.saturated = true ↔ ∃ mode, mode ≠ Mode.none ∧ (a.get mode).secs = 4294967295 := by
  simp only [Accs.saturated, List.any_eq_true, beq_iff_eq]
  constructor
  · rintro ⟨x, hx, h⟩
    simp only [List.mem_cons, List.not_mem_nil, or_false] at hx
    rcases hx with rfl | rfl | rfl | rfl | rfl | rfl
    · exact ⟨.still, by decide, h⟩
    · exact ⟨.spin, by decide, h⟩
    · exact ⟨.gen, by decide, h⟩
    · exact ⟨.pump, by decide, h⟩
    · exact ⟨.cond, by decide, h⟩
    · exact ⟨.indet, by decide, h⟩
  · rintro ⟨mode, hm, h⟩
    refine ⟨a.get mode, ?_, h⟩
    cases mode with
    | none => exact absurd rfl hm
    | _ => simp [Accs.get]

/-- A unit as a preset leaves it before its evaluation (R129 steps 1 to 3). -/
def GenUnit.preset (g : GenUnit) (f : TallyField) (v now : Nat) : GenUnit :=
  { g.checkpoint now with tally := (g.checkpoint now).tally.preset f v }

/-- A unit evaluated (R134). -/
def GenUnit.evaluated (g : GenUnit) (w : UnitSettings) (now : Nat) : GenUnit :=
  { g with tally := { g.tally with due := decide (g.tally.limit ≤ g.eoh w now) } }

/-- An evaluation leaves EOH. -/
theorem GenUnit.eoh_evaluated (g : GenUnit) (w w' : UnitSettings) (now now' : Nat) :
    (g.evaluated w now).eoh w' now' = g.eoh w' now' := 
  GenUnit.eoh_congr (g := g) (g' := g.evaluated w now) rfl rfl rfl rfl rfl rfl _ _

/-- The evaluation of a unit, and what it leaves of every other. -/
theorem State.evalMaintenance_unit_eq (s : State) (u v : Nat) (h : 1 ≤ u ∧ u ≤ 8) :
    (s.evalMaintenance u).unit v = if v = u then (s.unit u).evaluated (s.unitCfg u) s.tsc.e else s.unit v :=
  s.evalMaintenance_unit u v (decide_eq_true h)

/-- The unit of a preset, and what it leaves of every other. -/
theorem State.presetUnit_unit (s : State) (f : TallyField) (value u v : Nat) (h : 1 ≤ u ∧ u ≤ 8) :
    (s.presetUnit f value u).unit v
      = if v = u then ((s.unit u).preset f value s.tsc.e).evaluated (s.unitCfg u) s.tsc.e else s.unit v := by
  have placed (t : State) (p : Placement) (w : Nat) : (t.place p).unit w = t.unit w := by
    rw [State.unit, State.place_tlu]; rfl
  have checkpointed (w : Nat) : (s.checkpointNow u).unit w = if w = u then (s.unit u).checkpoint s.tsc.e else s.unit w :=
    s.checkpoint_unit u s.tsc.e w (decide_eq_true h)
  have preset (w : Nat) : ((s.checkpointNow u).setTally u (((s.checkpointNow u).unit u).tally.preset f value)).unit w
      = if w = u then (s.unit u).preset f value s.tsc.e else s.unit w := by
    rw [State.setTally, State.unit_setUnit _ _ _ _ h, checkpointed u, if_pos rfl, checkpointed w]
    split <;> rfl
  rw [State.presetUnit, State.evalMaintenance_unit_eq _ u v h, placed, placed, preset, if_pos rfl, preset]
  split
  · have cfg : (((s.checkpointNow u).setTally u (((s.checkpointNow u).unit u).tally.preset f value)).place
        { detail := .preset u f value, source := u }).unitCfg u = s.unitCfg u := by
      rw [State.unitCfg, State.place_cfg]; rfl
    rw [cfg, State.place_tsc]
    rfl
  · rfl

/-- A change of a table that a reading does not see. -/
theorem map_setNth {α β : Type} [Inhabited α] {k : Nat} (v : Vector α k) (i : Nat) (x : α) (g : α → β) (h : g x = g (nth v i)) :
    (setNth v i x).map g = v.map g := by
  unfold setNth
  split
  · rfl
  · rename_i hi
    apply Vector.ext
    intro j hj
    simp only [Vector.getElem_map, Vector.getElem_setIfInBounds]
    split
    · rename_i e
      rw [h, nth, if_neg hi]
      subst e
      simp [hj]
    · rfl

/-- The starts and trips of each unit in the shift on duty. -/
def State.shiftCounts (s : State) : Vector (Nat × Nat) 8 := s.shu.current.units.map (fun x => (x.starts, x.trips))

/-- A checkpoint counts no start and no trip of the shift (R148). -/
theorem State.shiftCounts_checkpoint (s : State) (u t : Nat) : (s.checkpoint u t).shiftCounts = s.shiftCounts := by
  show (s.shu.current.addTime u _ _).units.map _ = _
  cases hm : (s.unit u).mode with
  | gen | pump => exact map_setNth _ _ _ _ rfl
  | _ => rfl

theorem State.shiftCounts_place (s : State) (p : Placement) : (s.place p).shiftCounts = s.shiftCounts := by
  obtain ⟨loss, e⟩ := s.place_shu p
  rw [State.shiftCounts, e]
  rfl

theorem State.shiftCounts_evalMaintenance (s : State) (u : Nat) : (s.evalMaintenance u).shiftCounts = s.shiftCounts := by
  simp only [State.evalMaintenance]
  split_ifs
  · exact State.shiftCounts_place _ _
  · rfl
  · exact State.shiftCounts_place _ _
  · rfl

theorem State.shiftCounts_presetUnit (s : State) (f : TallyField) (v u : Nat) :
    (s.presetUnit f v u).shiftCounts = s.shiftCounts := by
  rw [State.presetUnit, State.shiftCounts_evalMaintenance, State.shiftCounts_place]
  exact s.shiftCounts_checkpoint u _

/-- Settles O26: `presetUnit_unit` for each selected unit. -/
theorem tlpsPresetsOneField : Obligations.TlpsPresetsOneField := by
  intro tag selector n field value s ha units
  have hunits : s.selectUnits selector n = units := s.selectUnits_eq selector n
  obtain ⟨noUnits, noField, tooLarge, served⟩ := serveTlps_cases selector n field value s
  obtain ⟨unnamed, named⟩ := TallyField.ofCode_cases field
  have seven : field = 7 ↔ field.toNat = 7 := BitVec.toNat_inj.symm
  have eight : field = 8 ↔ field.toNat = 8 := BitVec.toNat_inj.symm
  have zero : field = 0 ↔ field.toNat = 0 := BitVec.toNat_inj.symm
  refine ⟨fun h => ?_, fun us hu h1 h9 hfit => ?_⟩
  · have param : serveTlps selector n field value s = (s, { result := .param }) := by
      rcases h with none | none | above | ⟨wide, large⟩
      · exact noUnits (hunits.trans none)
      · exact noField (unnamed (.inl (zero.1 none)))
      · exact noField (unnamed (.inr above))
      · rw [seven, eight] at wide
        obtain ⟨f, hf, code⟩ := named (by omega) (by omega)
        exact tooLarge f hf (fun fits => (f.fits_iff value).1 fits ⟨by rwa [code], large⟩)
    exact congrArg _ (State.takeRequest_of_serve tag ha param)
  · obtain ⟨f, hf, code⟩ := named h1 h9
    have fits : value.toNat ≤ f.max := (f.fits_iff value).2 (fun ⟨wide, large⟩ => by
      rw [code, ← seven, ← eight] at wide
      exact Nat.not_lt.2 (hfit wide) large)
    obtain ⟨nodup, inside⟩ := State.selectUnits_some (hunits.trans hu)
    have preset (u : Nat) (hu : u ∈ us) (t : State) (ht : Unchanged (.tlu :: Part.recording) s t ∧ t.shiftCounts = s.shiftCounts)
        (same : t.unit u = s.unit u) : (t.presetUnit f value.toNat u).unit u
          = ((s.unit u).preset f value.toNat s.tsc.e).evaluated (s.unitCfg u) s.tsc.e := by
      have hcfg := ht.1.unitCfg_eq (by decide) u
      have htsc : t.tsc = s.tsc := ht.1.tsc_eq (by decide) (by decide) (by decide) (by decide)
      rw [t.presetUnit_unit f _ u u (inside u hu), if_pos rfl, same, hcfg, htsc]
    obtain ⟨hit, other, unchanged, counts⟩ := forAll_units (s := s) nodup (f := State.presetUnit f value.toNat)
      (P := fun t => Unchanged (.tlu :: Part.recording) s t ∧ t.shiftCounts = s.shiftCounts)
      (Q := fun u x => x = ((s.unit u).preset f value.toNat s.tsc.e).evaluated (s.unitCfg u) s.tsc.e)
      (fun u _ t ht => ⟨ht.1.trans (presetUnit_unchanged t (by decide) (by decide) _ _ _),
        (t.shiftCounts_presetUnit f _ u).trans ht.2⟩)
      (fun u hu t v hv => (t.presetUnit_unit f _ u v (inside u hu)).trans (if_neg hv))
      preset ⟨Unchanged.refl _ _, rfl⟩
    refine ⟨f, _, code, congrArg _ (State.takeRequest_of_serve tag ha (served us f (hunits.trans hu) hf fits)),
      fun u hu => ?_, fun u hu mode hmode => ?_, other, counts, unchanged⟩
    · have hcfg := unchanged.unitCfg_eq (by decide) u
      have htsc := unchanged.tsc_eq (by decide) (by decide) (by decide) (by decide)
      have eoh : (forAll us (State.presetUnit f value.toNat) s).eoh u
          = ((s.unit u).preset f value.toNat s.tsc.e).eoh (s.unitCfg u) s.tsc.e := by
        rw [State.eoh, hit u hu, htsc, hcfg, GenUnit.eoh_evaluated]
      obtain ⟨hmode, hentry, -, htimer, -⟩ := (s.unit u).checkpoint_keeps s.tsc.e
      rw [eoh, hit u hu]
      refine ⟨(Tally.preset_field _ f f _).trans (if_pos rfl), fun g hg => (Tally.preset_field _ f g _).trans (if_neg hg),
        Accs.saturated_iff _, hmode, hentry, htimer, decide_eq_true_iff⟩
    · rw [hit u hu]
      exact Tally.preset_rem _ _ (hmode.trans code.symm)

/-! ### The periodic evaluation and the discrepancy timers (R123, R134, R136) -/

/-- The periodic evaluation names its next instant and evaluates every unit. -/
theorem State.evalPeriodic_leaves (s : State) :
    s.evalPeriodic.tlu.nextEval = s.tlu.nextEval + 60000000
      ∧ (∀ u, 1 ≤ u → u ≤ 8 → s.evalPeriodic.unit u = (s.unit u).evaluated (s.unitCfg u) s.tsc.e)
      ∧ Unchanged (.tlu :: Part.recording) s s.evalPeriodic := by
  generalize hm : s.setTlu { s.tlu with nextEval := s.tlu.nextEval + evaluationPeriod } = m
  have first : Unchanged (.tlu :: Part.recording) s m := hm ▸ setTlu_unchanged s (by decide) _
  have evaluated (u : Nat) (hu : u ∈ numbers 8) (t : State) (ht : Unchanged (.tlu :: Part.recording) s t ∧ t.tlu.nextEval = m.tlu.nextEval)
      (same : t.unit u = m.unit u) : (t.evalMaintenance u).unit u = (s.unit u).evaluated (s.unitCfg u) s.tsc.e := by
    have hcfg := ht.1.unitCfg_eq (by decide) u
    have htsc := ht.1.tsc_eq (by decide) (by decide) (by decide) (by decide)
    rw [t.evalMaintenance_unit_eq u u ((mem_numbers 8 u).1 hu), if_pos rfl, same, hcfg, htsc, ← hm]
    rfl
  have nextEval (t : State) (u : Nat) : (t.evalMaintenance u).tlu.nextEval = t.tlu.nextEval := by
    have tlu : (t.evalMaintenance u).tlu
        = (t.setTally u { (t.unit u).tally with due := decide ((t.unit u).tally.limit ≤ t.eoh u) }).tlu := by
      simp only [State.evalMaintenance]
      split_ifs <;> simp only [State.hand_tlu, State.place_tlu]
    rw [tlu]
    rfl
  obtain ⟨hit, -, unchanged, next⟩ := forAll_units (s := m) (us := numbers 8) (by decide) (f := State.evalMaintenance)
    (P := fun t => Unchanged (.tlu :: Part.recording) s t ∧ t.tlu.nextEval = m.tlu.nextEval)
    (Q := fun u x => x = (s.unit u).evaluated (s.unitCfg u) s.tsc.e)
    (fun u _ t ht => ⟨ht.1.trans (evalMaintenance_unchanged t (by decide) (by decide) _), (nextEval t u).trans ht.2⟩)
    (fun u hu t v hv => (t.evalMaintenance_unit_eq u v ((mem_numbers 8 u).1 hu)).trans (if_neg hv))
    evaluated ⟨first, rfl⟩
  have hperiodic : s.evalPeriodic = forAll (numbers 8) State.evalMaintenance m := by rw [← hm]; rfl
  rw [hperiodic]
  exact ⟨next.trans (by rw [← hm]; rfl), fun u h1 h8 => hit u ((mem_numbers 8 u).2 ⟨h1, h8⟩), unchanged⟩

/-- What holds of one entry of a table holds of some entry. -/
theorem any_of_nth {α : Type} [Inhabited α] {k : Nat} {v : Vector α k} {i : Nat} {p : α → Bool} (h : 1 ≤ i ∧ i ≤ k)
    (hp : p (nth v i) = true) : v.toList.any p = true := by
  have h0 : i ≠ 0 := by omega
  have hi : i - 1 < k := by omega
  rw [nth, if_neg h0, Vector.getElem?_eq_getElem hi, Option.getD_some] at hp
  rw [List.any_eq_true]
  exact ⟨_, Vector.mem_toList_iff.2 (Vector.getElem_mem hi), hp⟩

/-- With room a record is put after the newest (R98, R99). -/
theorem State.place_records {n : Nat} (p : Placement) (hn : s.evq.nextSeq = some n) (room : s.evq.records.length ≤ 318) :
    (s.place p).evq.records = s.evq.records ++ [{ s.recordOf p with seq := n }] := by
  rw [State.place, State.placeSeq_of_room p hn room]
  rfl

/-- A unit's expiry: its timer, its record and the condition (R123). -/
theorem State.expireDiscrepancy_leaves (s : State) {u : Nat} (hu : 1 ≤ u ∧ u ≤ 8) :
    (s.expireDiscrepancy u).unit u = { s.unit u with timer := .expired }
      ∧ (∀ v, v ≠ u → (s.expireDiscrepancy u).unit v = s.unit v)
      ∧ (s.expireDiscrepancy u).ntc.conditions.getLsbD 11 = true
      ∧ (∀ n, s.evq.nextSeq = some n → s.evq.records.length ≤ 318 → ∃ r,
          (s.expireDiscrepancy u).evq.records = s.evq.records ++ [r] ∧ r.seq = n ∧ r.source = u
          ∧ r.detail = .discrep u (s.statusLevel u .breaker) (s.statusLevel u .speed) (s.statusLevel u .pump)
              (s.statusLevel u .cond)) := by
  have units (v : Nat) : (s.expireDiscrepancy u).unit v = if v = u then { s.unit u with timer := .expired } else s.unit v := by
    rw [State.unit, State.expireDiscrepancy, State.evalDiscrepancy, State.hand_tlu, State.place_tlu]
    exact s.unit_setUnit u v _ hu
  refine ⟨(units u).trans (if_pos rfl), fun v hv => (units v).trans (if_neg hv), ?_, fun n hn room => ?_⟩
  · have expired : (s.expireDiscrepancy u).someDiscrepancy = true :=
      any_of_nth hu (decide_eq_true (by
        show ((s.expireDiscrepancy u).unit u).timer = _
        rw [units, if_pos rfl]))
    refine (NoticeUnit.hand_condition _ .discrepancy .discrepancy _ _).trans ((if_pos rfl).trans ?_)
    exact expired
  · exact ⟨_, State.place_records (s := s.setUnit u _) _ hn room, rfl, rfl, rfl⟩

/-- Settles O28: the two events awaited at their instants. -/
theorem tallyTimersAct : Obligations.TallyTimersAct := by
  intro s
  refine ⟨fun hq => ?_, fun u at' h1 h8 ht hq => ?_, fun u h1 h8 ht => ?_⟩
  · have happens := await_instant (ev := .periodic) (s := s) rfl hq
    generalize hm : s.setTsc (s.tsc.reach s.tlu.nextEval) = m at happens
    obtain ⟨next, units, unchanged⟩ := m.evalPeriodic_leaves
    have tsc := unchanged.tsc_eq (by decide) (by decide) (by decide) (by decide)
    have unitsOf (u : Nat) : m.unit u = s.unit u := by rw [← hm]; rfl
    refine ⟨m.evalPeriodic, congrArg Host.Outcome.next happens, ?_, ?_, fun u h1 h8 => ?_, ?_⟩
    · rw [next, ← hm]; rfl
    · rw [tsc, ← hm]; rfl
    · have eoh : m.evalPeriodic.eoh u = (s.unit u).eoh (m.unitCfg u) m.tsc.e := by
        rw [State.eoh, units u h1 h8, GenUnit.eoh_evaluated, unchanged.unitCfg_eq (by decide) u, tsc, unitsOf]
      rw [eoh, units u h1 h8, unitsOf, GenUnit.evaluated]
    · exact (hm ▸ reach_unchanged (by decide) s _ : Unchanged _ s m).trans (unchanged.mono (by decide))
  · have instant : TimedEvent.instant s (.discrepancy u) = some at' := by
      show (s.unit u).timer.expiry = _
      rw [ht]; rfl
    have happens := await_instant instant hq
    have row : exec (.discrepancyTimerExpiry u) s = .next (s.await (.discrepancy u) (TimedEvent.instant s (.discrepancy u))) :=
      if_pos (decide_eq_true ⟨h1, h8⟩)
    obtain ⟨unit, others, condition, record⟩ := (s.setTsc (s.tsc.reach at')).expireDiscrepancy_leaves ⟨h1, h8⟩
    have unchanged := expireDiscrepancy_unchanged (s.setTsc (s.tsc.reach at')) (L := .tlu :: .clock :: Part.recording)
      (by decide) (by decide) u
    have tsc : ((s.setTsc (s.tsc.reach at')).expireDiscrepancy u).tsc = s.tsc.reach at' :=
      (expireDiscrepancy_unchanged _ (L := .tlu :: Part.recording) (by decide) (by decide) u).tsc_eq (by decide) (by decide)
        (by decide) (by decide)
    exact ⟨_, row.trans (congrArg Host.Outcome.next happens), tsc, unit, others, condition,
      fun room n hn => record n hn room, (reach_unchanged (by decide) s at').trans unchanged⟩
  · have instant : TimedEvent.instant s (.discrepancy u) = none := by
      show (s.unit u).timer.expiry = _
      cases h : (s.unit u).timer with
      | running at' => exact absurd h (ht at')
      | stopped | expired => rfl
    have row : exec (.discrepancyTimerExpiry u) s = .next (s.await (.discrepancy u) (TimedEvent.instant s (.discrepancy u))) :=
      if_pos (decide_eq_true ⟨h1, h8⟩)
    exact row.trans (congrArg Host.Outcome.next (await_of_none instant))

end Sys2Proof.Machine

/-! PROOFS. Saves: the checkpoint of every unit with its evaluation, the snapshot, the start, queueing and end of a save, the
autosave expiry and HOLDUP. -/

namespace Sys2Proof.Machine

variable {s : State}

/-! ### Every unit checkpointed and evaluated (R121, R135) -/

/-- A checkpoint and an evaluation of every unit. -/
theorem State.checkpointAll_unit (s : State) {u : Nat} (hu : 1 ≤ u ∧ u ≤ 8) :
    s.checkpointAll.unit u = ((s.unit u).checkpoint s.tsc.e).evaluated (s.unitCfg u) s.tsc.e := by
  have mem := (mem_numbers 8 u).2 hu
  generalize hm : forAll (numbers 8) State.checkpointNow s = m
  have checkpointed : m.unit u = (s.unit u).checkpoint s.tsc.e ∧ Unchanged [.tlu, .current] s m := by
    obtain ⟨hit, -, unchanged⟩ := forAll_units (s := s) (us := numbers 8) (by decide) (f := State.checkpointNow)
      (P := Unchanged [.tlu, .current] s) (Q := fun v x => x = (s.unit v).checkpoint s.tsc.e)
      (fun v _ t ht => ht.trans (checkpoint_unchanged t (by decide) (by decide) _ _))
      (fun v hv t w hw => (t.checkpoint_unit v _ w (decide_eq_true ((mem_numbers 8 v).1 hv))).trans (if_neg hw))
      (fun v hv t ht same => by
        rw [State.checkpointNow, t.checkpoint_unit v _ v (decide_eq_true ((mem_numbers 8 v).1 hv)), if_pos rfl, same,
          ht.tsc_eq (by decide) (by decide) (by decide) (by decide)])
      (Unchanged.refl _ _)
    exact hm ▸ ⟨hit u mem, unchanged⟩
  obtain ⟨hunit, hsame⟩ := checkpointed
  obtain ⟨hit, -, -⟩ := forAll_units (s := m) (us := numbers 8) (by decide) (f := State.evalMaintenance)
    (P := Unchanged (.tlu :: Part.recording) s) (Q := fun v x => x = (m.unit v).evaluated (s.unitCfg v) s.tsc.e)
    (fun v _ t ht => ht.trans (evalMaintenance_unchanged t (by decide) (by decide) _))
    (fun v hv t w hw => (t.evalMaintenance_unit_eq v w ((mem_numbers 8 v).1 hv)).trans (if_neg hw))
    (fun v hv t ht same => by
      rw [t.evalMaintenance_unit_eq v v ((mem_numbers 8 v).1 hv), if_pos rfl, same, ht.unitCfg_eq (by decide) v,
        ht.tsc_eq (by decide) (by decide) (by decide) (by decide)])
    (hsame.mono (by decide))
  have all : s.checkpointAll = forAll (numbers 8) State.evalMaintenance m := by rw [← hm]; rfl
  rw [all, hit u mem, hunit]

/-- Every monitored unit is booked up to this instant. -/
theorem State.checkpointAll_ecp (s : State) {u : Nat} (hu : 1 ≤ u ∧ u ≤ 8) (h : (s.unit u).mode ≠ .none) :
    (s.checkpointAll.unit u).ecp = some s.tsc.e := by
  rw [s.checkpointAll_unit hu, GenUnit.evaluated, GenUnit.checkpoint, if_neg h]

/-- What a change leaves of the flags and conditions of other notices. -/
def NoticesLeft (vs : List Notice) (s t : State) : Prop :=
  (∀ v : Notice, s.ntc.flags.getLsbD v.index = true → t.ntc.flags.getLsbD v.index = true)
    ∧ ∀ v : Notice, v ∉ vs → t.ntc.conditions.getLsbD v.index = s.ntc.conditions.getLsbD v.index

theorem NoticesLeft.refl (vs : List Notice) (s : State) : NoticesLeft vs s s := ⟨fun _ h => h, fun _ _ => rfl⟩

theorem NoticesLeft.trans {vs : List Notice} {s t u : State} (h : NoticesLeft vs s t) (h' : NoticesLeft vs t u) :
    NoticesLeft vs s u := ⟨fun v hv => h'.1 v (h.1 v hv), fun v hv => (h'.2 v hv).trans (h.2 v hv)⟩

theorem NoticesLeft.place {vs : List Notice} (hv : .queueLevel ∈ vs) (s : State) (p : Placement) :
    NoticesLeft vs s (s.place p) :=
  ⟨fun _ h => State.place_flag p h, fun v h => State.place_condition p (fun e => h (by rw [e]; exact hv))⟩

theorem NoticesLeft.hand {vs : List Notice} (s : State) {w : Notice} (hw : w ∈ vs) (b : Bool) :
    NoticesLeft vs s (s.hand w b) := by
  refine ⟨fun v h => ?_, fun v h => ?_⟩
  · rw [State.hand_ntc, NoticeUnit.hand_flag, h, Bool.true_or]
  · rw [State.hand_ntc, NoticeUnit.hand_condition, if_neg (fun e => h (by rw [e]; exact hw))]

theorem NoticesLeft.raise {vs : List Notice} (s : State) (w : Notice) : NoticesLeft vs s (s.raise w) := by
  refine ⟨fun v h => ?_, fun v _ => rfl⟩
  rw [State.raise_ntc, NoticeUnit.raise_flag, h, Bool.true_or]

/-- A state that differs from `s` in other blocks alone. -/
theorem NoticesLeft.of_eq {vs : List Notice} {s t : State} (h : t.ntc = s.ntc) : NoticesLeft vs s t := by
  refine ⟨fun v hv => ?_, fun v _ => ?_⟩ <;> rw [h]
  exact hv

theorem NoticesLeft.evalMaintenance {vs : List Notice} (hq : .queueLevel ∈ vs) (hm : .maintDue ∈ vs) (s : State) (u : Nat) :
    NoticesLeft vs s (s.evalMaintenance u) := by
  have tally (x : Tally) : NoticesLeft vs s (s.setTally u x) := .of_eq rfl
  simp only [State.evalMaintenance]
  split_ifs
  · exact (tally _).trans (.place hq _ _)
  · exact tally _
  · exact ((tally _).trans (.place hq _ _)).trans (.hand _ hm _)
  · exact (tally _).trans (.hand _ hm _)

theorem NoticesLeft.checkpointAll {vs : List Notice} (hq : .queueLevel ∈ vs) (hm : .maintDue ∈ vs) (s : State) :
    NoticesLeft vs s s.checkpointAll :=
  (forAll_rel (NoticesLeft vs) (.refl vs) (fun _ _ _ => .trans) (numbers 8) State.checkpointNow
      (fun _ _ _ => .of_eq rfl) s).trans
    (forAll_rel (NoticesLeft vs) (.refl vs) (fun _ _ _ => .trans) (numbers 8) State.evalMaintenance
      (fun u _ t => .evalMaintenance hq hm t u) _)

/-! ### The start of a save (R173, R174) -/

/-- The snapshot is taken of the state as it stands once every unit is checkpointed. -/
theorem State.takeSnapshot_eq {f : SaveInFlight} (hf : s.stc.inFlight = some f) :
    s.takeSnapshot = s.checkpointAll.setStc { s.stc with
      inFlight := some { f with snapshot := some s.checkpointAll.snapshot.stored } } := by
  have stc : s.checkpointAll.stc = s.stc :=
    checkpointAll_unchanged s (L := .tlu :: Part.recording) (by decide) (by decide) .stc (by decide)
  simp only [State.takeSnapshot, stc, hf, Option.map_some]

/-- The save that starts here, recorded with its snapshot. -/
def State.saveStarted (s : State) (t : Trigger) : SaveInFlight :=
  { trigger := t, start := s.tsc.e, snapshot := some (s.beginSave t).checkpointAll.snapshot.stored, draw := s.draws }

/-- A snapshot holds no item of STC. -/
theorem State.snapshot_setStc (s : State) (x : StoreController) : (s.setStc x).snapshot = s.snapshot := rfl

/-- A save changes no unit but by its checkpoint. -/
theorem State.unit_setStc (s : State) (x : StoreController) (u : Nat) : (s.setStc x).unit u = s.unit u := rfl

/-- The items of a snapshot are those of the state (R170). -/
theorem State.snapshot_items (s : State) :
    s.snapshot.cfg = s.cfg ∧ s.snapshot.schedule = s.shu.schedule ∧ s.snapshot.current = s.shu.current
      ∧ s.snapshot.openTrips = s.shu.openTrips ∧ s.snapshot.overflow = s.shu.overflow ∧ s.snapshot.history = s.shu.history
      ∧ s.snapshot.f = s.dsc.f ∧ s.snapshot.leap = s.tsc.leap
      ∧ ∀ u, 1 ≤ u → u ≤ 8 → nth s.snapshot.tallies u = (s.unit u).tally := by
  refine ⟨rfl, rfl, rfl, rfl, rfl, rfl, rfl, rfl, fun u h1 h8 => ?_⟩
  have h0 : u ≠ 0 := by omega
  have hu : u - 1 < 8 := by omega
  show nth (s.tlu.units.map (·.tally)) u = (nth s.tlu.units u).tally
  simp only [nth, h0, if_false, Vector.getElem?_eq_getElem hu, Option.getD_some, Vector.getElem_map]

/-- An image is stored with its format byte and the check over it (R170, R199). -/
theorem Image.stored_eq (i : Image) :
    i.stored.image = i ∧ i.stored.format = 0x32 ∧ i.stored.check = crc16 (0x32 :: Config.imageBytes i) := ⟨rfl, rfl, rfl⟩

/-- The start of a save is recorded, every unit checkpointed, and the snapshot taken. -/
theorem State.startSave_eq (s : State) (t : Trigger) :
    s.startSave t = (s.beginSave t).checkpointAll.setStc { s.stc with inFlight := some (s.saveStarted t) } :=
  State.takeSnapshot_eq (s := s.beginSave t) rfl

@[simp] theorem State.startSave_stc (s : State) (t : Trigger) :
    (s.startSave t).stc = { s.stc with inFlight := some (s.saveStarted t) } := by
  rw [State.startSave_eq]; rfl

/-- The snapshot that a start takes is that of the state it leaves. -/
theorem State.snapshot_startSave (s : State) (t : Trigger) :
    (s.startSave t).snapshot = (s.beginSave t).checkpointAll.snapshot := by
  rw [State.startSave_eq, State.snapshot_setStc]

theorem NoticesLeft.startSave {vs : List Notice} (hq : .queueLevel ∈ vs) (hm : .maintDue ∈ vs) (s : State) (t : Trigger) :
    NoticesLeft vs s (s.startSave t) := by
  rw [State.startSave_eq]
  exact (NoticesLeft.of_eq (t := s.beginSave t) rfl).trans
    ((NoticesLeft.checkpointAll hq hm _).trans (NoticesLeft.of_eq (State.setStc_ntc _ _)))

theorem NoticesLeft.requestSave {vs : List Notice} (hq : .queueLevel ∈ vs) (hm : .maintDue ∈ vs) (s : State) (t : Trigger) :
    NoticesLeft vs s (s.requestSave t) := by
  rw [State.requestSave]
  split
  · exact .of_eq rfl
  · exact .startSave hq hm s t

/-- A save is due while none is in flight, or waits behind the one that is (R173). -/
theorem State.requestSave_stc (s : State) (t : Trigger) :
    (s.stc.inFlight = none → (s.requestSave t).stc = { s.stc with inFlight := some (s.saveStarted t) })
      ∧ (s.stc.inFlight.isSome = true → (s.requestSave t).stc = { s.stc with queued := some (s.stc.queued.getD t) }) := by
  obtain ⟨starts, waits⟩ := s.requestSave_cases t
  exact ⟨fun h => (congrArg State.stc (starts h)).trans (s.startSave_stc t), fun h => congrArg State.stc (waits h)⟩

/-! ### HOLDUP (R179) -/

/-- Settles O7: the save is requested with HOLDUP asserted, then the condition is handed. -/
theorem holdupChangesOfLevel : Obligations.HoldupChangesOfLevel := by
  intro s
  refine ⟨fun h => ?_, fun h => if_pos h, fun h => if_pos h, fun h => if_neg (by rw [h]; exact Bool.false_ne_true)⟩
  have row : exec .holdupAssertion s = .next (((s.setHoldup true).requestSave .holdup).hand .supplyLow true) :=
    if_neg (by rw [h]; exact Bool.false_ne_true)
  obtain ⟨starts, waits⟩ := (s.setHoldup true).requestSave_stc .holdup
  obtain ⟨-, conditions⟩ := NoticesLeft.requestSave (vs := [.queueLevel, .maintDue]) (by decide) (by decide)
    (s.setHoldup true) .holdup
  have before : ((s.setHoldup true).requestSave .holdup).ntc.conditions.getLsbD 12 = s.ntc.conditions.getLsbD 12 :=
    conditions .supplyLow (by decide)
  have unchanged : Unchanged Part.saving s (((s.setHoldup true).requestSave .holdup).hand .supplyLow true) :=
    ((setStc_unchanged s (by decide) _).trans (requestSave_unchanged _ (List.Subset.refl _) _)).trans
      (hand_unchanged _ (by decide) _ _)
  have stc : ((s.setHoldup true).requestSave .holdup).stc.holdup = true
      ∧ ((s.setHoldup true).requestSave .holdup).stc.store = s.stc.store := by
    cases hf : s.stc.inFlight with
    | none => rw [starts hf]; exact ⟨rfl, rfl⟩
    | some f => rw [waits (by rw [State.setHoldup, State.setStc_stc, hf]; rfl)]; exact ⟨rfl, rfl⟩
  refine ⟨_, row, stc.1, ?_, fun hc => ?_, fun hf => ?_, fun hf => ?_, stc.2, unchanged⟩
  · exact NoticeUnit.hand_condition _ .supplyLow .supplyLow true _
  · refine (NoticeUnit.hand_flag _ .supplyLow .supplyLow true _).trans ?_
    rw [show ((s.setHoldup true).requestSave .holdup).ntc.conditions.getLsbD Notice.supplyLow.index = false from
      before.trans hc]
    exact Bool.or_true _
  · rw [State.hand_stc, starts hf]
    exact ⟨_, rfl, rfl, rfl, rfl, rfl⟩
  · rw [State.hand_stc, waits hf]
    refine ⟨rfl, rfl, ?_⟩
    rw [((s.setHoldup true).requestSave_cases .holdup).2 hf]
    exact ((setStc_unchanged s (by decide) _).trans (setStc_unchanged _ (by decide) _)).trans
      (hand_unchanged _ (by decide) _ _)

/-! ### SAVE (R174, R177) -/

/-- Settles O33: SAVE requests a save, which starts, waits, or is absorbed. -/
theorem saveStartsQueuesOrIsAbsorbed : Obligations.SaveStartsQueuesOrIsAbsorbed := by
  intro tag s hr
  have accepted (h : s.stc.holdup = false) : s.accepts .save := ⟨hr, (State.busy_of_holdupOnly rfl rfl s).trans h⟩
  have served (h : s.stc.holdup = false) : exec (.save tag) s = .next ((s.requestSave .save).answered 0x07 tag .ok []) :=
    congrArg _ (State.takeRequest_of_serve (serve := serveSave) tag (accepted h) rfl)
  obtain ⟨starts, waits⟩ := s.requestSave_cases .save
  refine ⟨fun h => ?_, fun h hf hq => ?_, fun h hf hq => ?_, fun h hf => ?_⟩
  · exact congrArg _ ((State.takeRequest_of_busy_holdup (State.busy_of_holdupOnly rfl rfl s) hr tag serveSave).1 h)
  · rw [served h, waits hf, hq]
    rfl
  · obtain ⟨q, hq⟩ := Option.isSome_iff_exists.1 hq
    have absorbed : s.requestSave .save = s := by
      rw [waits hf, hq, Option.getD_some, ← hq]
    rw [served h, absorbed]
  · have unchanged := startSave_unchanged s (List.Subset.refl _) .save
    have ecp (u : Nat) (hu : 1 ≤ u ∧ u ≤ 8) (hm : (s.unit u).mode ≠ .none) : ((s.startSave .save).unit u).ecp = some s.tsc.e := by
      rw [State.startSave_eq, State.unit_setStc]
      exact (s.beginSave .save).checkpointAll_ecp hu hm
    have stc := s.startSave_stc .save
    rw [State.saveStarted, ← State.snapshot_startSave] at stc
    rw [served h, starts hf]
    generalize s.startSave .save = m at unchanged ecp stc
    obtain ⟨image, format, check⟩ := m.snapshot.stored_eq
    refine ⟨m, { trigger := .save, start := s.tsc.e, snapshot := some m.snapshot.stored, draw := s.draws },
      m.snapshot.stored, ?_⟩
    intro i
    have items := m.snapshot_items
    rw [← image] at items check
    exact ⟨rfl, stc, rfl, rfl, rfl, format, check, items, fun u h1 h8 hm => ecp u ⟨h1, h8⟩ hm, unchanged⟩

/-! ### The end of a save and the autosave expiry (R175, R178) -/

/-- The store after a write: the snapshot, or one that is CORRUPT. -/
theorem SaveInFlight.written_cases {f : SaveInFlight} {x : StoredImage} (hx : f.snapshot = some x) :
    f.written true = .holds x ∧ f.written false = .broken := by
  simp only [SaveInFlight.written, hx, and_self]

/-- The end of a save up to the start of the one that waits. -/
def State.saveOver (s : State) (f : SaveInFlight) (ok : Bool) : State :=
  let s1 := (s.setStc (s.stc.outcome f ok)).reportSave f.trigger ok
  s1.setStc { s1.stc with
    lastEnd := s.tsc.e, autosave := autosaveAt s.tsc.e s.cfg.autosaveHours, inFlight := none, queued := none }

/-- A report places one record, and on FAIL raises a notice. -/
theorem State.reportSave_leaves (s : State) (t : Trigger) (ok : Bool) :
    (s.reportSave t ok).stc = s.stc ∧ (s.reportSave t ok).tsc = s.tsc ∧ (s.reportSave t ok).cfg = s.cfg
      ∧ (s.reportSave t ok).evq = (s.place { detail := .store ok t }).evq
      ∧ (ok = false → (s.reportSave t ok).ntc.flags.getLsbD 7 = true) := by
  cases ok with
  | true =>
    exact ⟨State.place_stc _ _, State.place_tsc _ _, State.place_cfg _ _, rfl, fun h => absurd h (by decide)⟩
  | false =>
    refine ⟨State.place_stc _ _, State.place_tsc _ _, State.place_cfg _ _, rfl, fun _ => ?_⟩
    exact (NoticeUnit.raise_flag _ .storeFail .storeFail _).trans (Bool.or_true _)

/-- After the end of a save the one that waits starts at once (R175 step 5). -/
theorem State.endSave_eq (s : State) (f : SaveInFlight) (ok : Bool) :
    s.endSave f ok = match s.stc.queued with
      | none => s.saveOver f ok
      | some q => (s.saveOver f ok).startSave q := by
  obtain ⟨stc, tsc, cfg, -, -⟩ := (s.setStc (s.stc.outcome f ok)).reportSave_leaves f.trigger ok
  simp only [State.endSave, State.nextSave, State.setAutosave, State.saveOver, stc, tsc, cfg, State.setStc_stc,
    State.setStc_tsc, State.setStc_cfg]
  rfl

/-- The store and STC's own values after the end of a save, whatever waits (R175). -/
theorem State.saveOver_leaves (s : State) {f : SaveInFlight} {x : StoredImage} (ok : Bool) (hx : f.snapshot = some x) :
    (s.saveOver f ok).stc = { s.stc with
        store := if ok then .holds x else .broken, state := if ok then .valid else .corrupt, lastEnd := s.tsc.e
        autosave := autosaveAt s.tsc.e s.cfg.autosaveHours, inFlight := none, queued := none }
      ∧ (s.saveOver f ok).tsc = s.tsc ∧ (s.saveOver f ok).evq = ((s.setStc (s.stc.outcome f ok)).place
          { detail := .store ok f.trigger }).evq
      ∧ (ok = false → (s.saveOver f ok).ntc.flags.getLsbD 7 = true)
      ∧ Unchanged Part.saving s (s.saveOver f ok) := by
  obtain ⟨written, broken⟩ := SaveInFlight.written_cases hx
  obtain ⟨stc, tsc, -, evq, flag⟩ := (s.setStc (s.stc.outcome f ok)).reportSave_leaves f.trigger ok
  refine ⟨?_, ?_, ?_, flag, ?_⟩
  · rw [State.saveOver, State.setStc_stc, stc, State.setStc_stc, StoreController.outcome]
    cases ok with
    | true => rw [written]; rfl
    | false => rw [broken]; rfl
  · rw [State.saveOver, State.setStc_tsc, tsc, State.setStc_tsc]
  · rw [State.saveOver, State.setStc_evq, evq]
  · exact ((setStc_unchanged s (by decide) _).trans (reportSave_unchanged _ (by decide) _ _)).trans
      (setStc_unchanged _ (by decide) _)

/-- What the end of a save leaves, with the one that waits started (R175). -/
theorem State.endSave_leaves (s : State) {f : SaveInFlight} {x : StoredImage} (ok : Bool) (hx : f.snapshot = some x) :
    ((s.endSave f ok).stc.store = (if ok then .holds x else .broken)
        ∧ (s.endSave f ok).stc.state = (if ok then .valid else .corrupt) ∧ (s.endSave f ok).stc.lastEnd = s.tsc.e
        ∧ (s.endSave f ok).stc.autosave = autosaveAt s.tsc.e s.cfg.autosaveHours ∧ (s.endSave f ok).stc.queued = none)
      ∧ (ok = false → (s.endSave f ok).ntc.flags.getLsbD 7 = true)
      ∧ (s.stc.queued = none → (s.endSave f ok).stc.inFlight = none
          ∧ (s.endSave f ok).evq = ((s.setStc (s.stc.outcome f ok)).place { detail := .store ok f.trigger }).evq)
      ∧ (∀ q, s.stc.queued = some q → ∃ g, (s.endSave f ok).stc.inFlight = some g ∧ g.trigger = q ∧ g.start = s.tsc.e
          ∧ g.snapshot.isSome = true)
      ∧ Unchanged Part.saving s (s.endSave f ok) := by
  obtain ⟨stc, tsc, evq, flag, unchanged⟩ := s.saveOver_leaves ok hx
  rw [State.endSave_eq]
  cases hq : s.stc.queued with
  | none =>
    dsimp only
    rw [stc]
    exact ⟨⟨rfl, rfl, rfl, rfl, rfl⟩, flag, fun _ => ⟨rfl, evq⟩, fun _ h => (nomatch h), unchanged⟩
  | some q =>
    dsimp only
    rw [State.startSave_stc, stc]
    refine ⟨⟨rfl, rfl, rfl, rfl, rfl⟩, fun h => ?_, fun h => (nomatch h), fun q' h => ?_, ?_⟩
    · exact (NoticesLeft.startSave (vs := [.queueLevel, .maintDue]) (by decide) (by decide) _ _).1 .storeFail (flag h)
    · cases h
      exact ⟨_, rfl, rfl, congrArg TimeScale.e tsc, rfl⟩
    · exact unchanged.trans (startSave_unchanged _ (List.Subset.refl _) _)

/-- The autosave expiry, with the µs of an hour as one number. -/
theorem autosaveAt_eq (lastEnd hours : Nat) :
    autosaveAt lastEnd hours = if hours = 0 then none else some (lastEnd + hours * 3600000000) := by
  rw [autosaveAt, show hours * 3600 * 1000000 = hours * 3600000000 by omega]

/-- A save whose instant lies ahead is brought there and ends (entries 3 and 12). -/
theorem exec_saveEnd_quiet {f : SaveInFlight} {at' : Nat} (ok : Bool) (hf : s.stc.inFlight = some f)
    (hs : f.start + saveShortest = at') (hq : s.quietTo at') :
    exec (.saveEnd ok) s = .next ((s.setTsc (s.tsc.reach at')).endSave f ok) := by
  have run : s.runToE at' = s.setTsc (s.tsc.reach at') := State.runToE_quiet hq
  have stands : (s.setTsc (s.tsc.reach at')).stc.inFlight = some f := by rw [State.setTsc_stc, hf]
  show execSaveEnd ok s = _
  rw [execSaveEnd, hf]
  dsimp only
  rw [hs, run, if_pos stands]

/-- Settles O34: the two events awaited at their instants. -/
theorem savesEndAndFallDue : Obligations.SavesEndAndFallDue := by
  refine ⟨fun ok s => ⟨fun hf => ?_, fun f x hf hx hq => ?_⟩, fun s => ⟨fun ha => ?_, fun at' ha hq => ?_⟩⟩
  · show execSaveEnd ok s = _
    rw [execSaveEnd, hf]
  · obtain ⟨at', hat⟩ : ∃ at', f.start + saveShortest = at' := ⟨_, rfl⟩
    rw [show f.start + 30000 = at' from hat] at hq ⊢
    have row := exec_saveEnd_quiet ok hf hat hq
    generalize hm : s.setTsc (s.tsc.reach at') = m at row
    have moved : Unchanged (.clock :: Part.saving) s m := hm ▸ reach_unchanged (by decide) s _
    obtain ⟨⟨store, state, lastEnd, autosave, queued⟩, flag, ends, next, unchanged⟩ := m.endSave_leaves ok hx
    have tsc : (m.endSave f ok).tsc = m.tsc := unchanged.tsc_eq (by decide) (by decide) (by decide) (by decide)
    have stc : m.stc = s.stc := by rw [← hm]; rfl
    have cfg : m.cfg = s.cfg := by rw [← hm]; rfl
    have evq : m.evq = s.evq := by rw [← hm]; rfl
    rw [stc] at ends next
    rw [← evq]
    refine ⟨_, row, ?_, fun h => ?_, fun h => ?_, ?_, ?_, queued, fun h => ⟨(ends h).1, fun room n hn => ?_⟩, fun q h => ?_,
      moved.trans (unchanged.mono (by decide))⟩
    · rw [tsc, ← hm, State.setTsc_tsc]
    · rw [store, state, h]; exact ⟨rfl, rfl⟩
    · rw [store, state]
      exact ⟨by rw [h]; rfl, by rw [h]; rfl, flag h⟩
    · rw [lastEnd, tsc]
    · rw [autosave, tsc, cfg, autosaveAt_eq]
    · rw [(ends h).2]
      exact ⟨_, State.place_records (s := m.setStc _) _ hn room, rfl, rfl⟩
    · obtain ⟨g, hg, trigger, start, snapshot⟩ := next q h
      exact ⟨g, hg, trigger, start.trans (by rw [tsc]), snapshot⟩
  · exact congrArg Host.Outcome.next (await_of_none (ev := .autosave) ha)
  · have happens := await_instant (ev := .autosave) ha hq
    generalize hm : s.setTsc (s.tsc.reach at') = m at happens
    have moved : Unchanged (.clock :: Part.saving) s m := hm ▸ reach_unchanged (by decide) s _
    have stc : m.stc = s.stc := by rw [← hm]; rfl
    have unchanged : Unchanged Part.saving m m.autosaveReached := autosaveReached_unchanged m (List.Subset.refl _)
    have tsc : m.autosaveReached.tsc = m.tsc := unchanged.tsc_eq (by decide) (by decide) (by decide) (by decide)
    obtain ⟨starts, waits⟩ := (m.setStc { m.stc with autosave := none }).requestSave_stc .autosave
    have reached : m.autosaveReached.stc.autosave = none ∧ m.autosaveReached.stc.store = s.stc.store := by
      rw [← stc]
      cases hf : m.stc.inFlight with
      | none => rw [State.autosaveReached, starts hf]; exact ⟨rfl, rfl⟩
      | some f => rw [State.autosaveReached, waits (by rw [State.setStc_stc, hf]; rfl)]; exact ⟨rfl, rfl⟩
    refine ⟨m.autosaveReached, congrArg Host.Outcome.next happens, ?_, reached.1, reached.2, fun hf => ?_, fun hf => ?_,
      moved.trans (unchanged.mono (by decide))⟩
    · rw [tsc, ← hm, State.setTsc_tsc]
    · rw [tsc]
      rw [← stc] at hf ⊢
      rw [State.autosaveReached, starts hf]
      exact ⟨_, rfl, rfl, rfl, rfl, rfl⟩
    · rw [← stc] at hf ⊢
      rw [State.autosaveReached, waits hf]
      exact ⟨rfl, rfl⟩

end Sys2Proof.Machine

/-! PROOFS. The requests to the shift unit: HREL, HACC and TACK judged (O30), a handover opened and gone overdue (O32). -/

namespace Sys2Proof.Machine

variable {s : State}

/-! ### HREL, HACC and TACK (R157, R158, R163) -/

/-- An open handover is not ready while one of the three is missing. -/
theorem ShiftUnitState.ready_eq_true (h : ShiftUnitState) : h.ready = true ↔
    h.state ≠ .onShift ∧ h.release = true ∧ h.accept = true ∧ h.openTrips = [] ∧ h.overflow = false := by
  simp only [ShiftUnitState.ready, Bool.and_eq_true, decide_eq_true_eq, List.isEmpty_iff, Bool.not_eq_true', and_assoc]

/-- What is stored without being ready completes nothing. -/
theorem State.completeIfReady_of_not {h : ShiftUnitState} (hr : ¬ h.ready = true) :
    (s.setShu h).completeIfReady = s.setShu h := if_neg hr

/-- Crew numbers end at 15. -/
theorem not_maxCrew_lt {crew : Byte} (h : crew.toNat ≤ 15) : ¬ maxCrew < crew.toNat := Nat.not_lt.2 h

/-- HREL, case by case of R157. -/
theorem serveHrel_cases (crew : Byte) (s : State) :
    (15 < crew.toNat → serveHrel crew s = (s, { result := .param }))
      ∧ (crew.toNat ≤ 15 → s.shu.state = .onShift → serveHrel crew s = (s, { result := .notdue }))
      ∧ (crew.toNat ≤ 15 → s.shu.state ≠ .onShift → crew.toNat ≠ s.shu.current.crew →
          serveHrel crew s = (s, { result := .crew }))
      ∧ (crew.toNat ≤ 15 → s.shu.state ≠ .onShift → crew.toNat = s.shu.current.crew → s.shu.release = true →
          serveHrel crew s = (s, { result := .ok }))
      ∧ (crew.toNat ≤ 15 → s.shu.state ≠ .onShift → crew.toNat = s.shu.current.crew → s.shu.release = false →
          serveHrel crew s = ((s.setShu { s.shu with release := true }).completeIfReady, { result := .ok })) := by
  unfold serveHrel
  refine ⟨fun h => if_pos h, fun h h1 => ?_, fun h h1 h2 => ?_, fun h h1 h2 h3 => ?_, fun h h1 h2 h3 => ?_⟩
  · rw [if_neg (not_maxCrew_lt h), if_pos h1]
  · rw [if_neg (not_maxCrew_lt h), if_neg h1, if_pos h2]
  · rw [if_neg (not_maxCrew_lt h), if_neg h1, if_neg (not_not_intro h2), if_pos h3]
  · rw [if_neg (not_maxCrew_lt h), if_neg h1, if_neg (not_not_intro h2), if_neg (Bool.eq_false_iff.1 h3)]

/-- HACC, case by case of R158. -/
theorem serveHacc_cases (crew : Byte) (s : State) :
    (15 < crew.toNat → serveHacc crew s = (s, { result := .param }))
      ∧ (crew.toNat ≤ 15 → s.shu.state = .onShift → serveHacc crew s = (s, { result := .notdue }))
      ∧ (crew.toNat ≤ 15 → s.shu.state ≠ .onShift → s.shu.expected ≠ some crew.toNat →
          serveHacc crew s = (s, { result := .crew }))
      ∧ (crew.toNat ≤ 15 → s.shu.state ≠ .onShift → s.shu.expected = some crew.toNat → s.shu.accept = true →
          serveHacc crew s = (s, { result := .ok }))
      ∧ (crew.toNat ≤ 15 → s.shu.state ≠ .onShift → s.shu.expected = some crew.toNat → s.shu.accept = false →
          serveHacc crew s = ((s.setShu { s.shu with accept := true }).completeIfReady, { result := .ok })) := by
  unfold serveHacc
  refine ⟨fun h => if_pos h, fun h h1 => ?_, fun h h1 h2 => ?_, fun h h1 h2 h3 => ?_, fun h h1 h2 h3 => ?_⟩
  · rw [if_neg (not_maxCrew_lt h), if_pos h1]
  · rw [if_neg (not_maxCrew_lt h), if_neg h1, if_pos (Ne.symm h2)]
  · rw [if_neg (not_maxCrew_lt h), if_neg h1, if_neg (not_not_intro h2.symm), if_pos h3]
  · rw [if_neg (not_maxCrew_lt h), if_neg h1, if_neg (not_not_intro h2.symm), if_neg (Bool.eq_false_iff.1 h3)]

/-- The crews that may acknowledge (R163). -/
theorem ShiftUnitState.mayAcknowledge_iff (h : ShiftUnitState) (crew : Nat) : h.mayAcknowledge crew = true ↔
    crew = h.current.crew ∨ (h.state ≠ .onShift ∧ h.expected = some crew) := by
  simp only [ShiftUnitState.mayAcknowledge, Bool.or_eq_true, Bool.and_eq_true, decide_eq_true_eq]

/-- TACK of one seq, case by case of R163. -/
theorem serveTack_cases (crew : Byte) (seq : BitVec 32) (s : State) :
    (15 < crew.toNat → serveTack crew seq s = (s, { result := .param }))
      ∧ (crew.toNat ≤ 15 → ¬ s.shu.mayAcknowledge crew.toNat = true → serveTack crew seq s = (s, { result := .crew }))
      ∧ (crew.toNat ≤ 15 → s.shu.mayAcknowledge crew.toNat = true → (∀ x ∈ s.shu.openTrips, x.seq ≠ seq.toNat) →
          serveTack crew seq s = (s, { result := .param }))
      ∧ (∀ older x newer, crew.toNat ≤ 15 → s.shu.mayAcknowledge crew.toNat = true →
          s.shu.openTrips = older ++ x :: newer → x.seq = seq.toNat → (∀ y ∈ older, y.seq ≠ seq.toNat) →
          serveTack crew seq s = ((s.setShu { s.shu with openTrips := older ++ newer }).completeIfReady,
            { result := .ok, body := [1, byteOf (older.length + newer.length)] })) := by
  unfold serveTack
  refine ⟨fun h => if_pos h, fun h may => ?_, fun h may out => ?_, fun older x newer h may hl hx ho => ?_⟩
  · rw [if_neg (not_maxCrew_lt h), if_pos (Bool.eq_false_iff.2 may)]
  · have absent : ¬ s.shu.openTrips.any (fun t => t.seq == seq.toNat) = true := by
      simpa only [List.any_eq_true, beq_iff_eq, not_exists, not_and] using out
    rw [if_neg (not_maxCrew_lt h), if_neg (by rw [may]; decide), if_neg absent]
  · have listed : s.shu.openTrips.any (fun t => t.seq == seq.toNat) = true := by
      rw [hl, List.any_append, List.any_cons, hx, beq_self_eq_true, Bool.true_or, Bool.or_true]
    have left : s.shu.openTrips.eraseP (fun t => t.seq == seq.toNat) = older ++ newer := by
      rw [hl]
      exact eraseP_first (beq_iff_eq.2 hx) fun y hy => beq_eq_false_iff_ne.2 (ho y hy)
    have removed : (older ++ x :: newer).length - (older ++ newer).length = 1 := by
      simp only [List.length_append, List.length_cons]; omega
    rw [if_neg (not_maxCrew_lt h), if_neg (by rw [may]; decide), if_pos listed, left]
    rw [State.acknowledge, tackAnswer, hl, removed, List.length_append]
    rfl

/-- TACK ALL, case by case of R163. -/
theorem serveTackAll_cases (crew : Byte) (s : State) :
    (15 < crew.toNat → serveTackAll crew s = (s, { result := .param }))
      ∧ (crew.toNat ≤ 15 → ¬ s.shu.mayAcknowledge crew.toNat = true → serveTackAll crew s = (s, { result := .crew }))
      ∧ (crew.toNat ≤ 15 → s.shu.mayAcknowledge crew.toNat = true →
          serveTackAll crew s = ((s.setShu { s.shu with openTrips := [], overflow := false }).completeIfReady,
            { result := .ok, body := [byteOf s.shu.openTrips.length, 0] })) := by
  unfold serveTackAll
  refine ⟨fun h => if_pos h, fun h may => ?_, fun h may => ?_⟩
  · rw [if_neg (not_maxCrew_lt h), if_pos (Bool.eq_false_iff.2 may)]
  · rw [if_neg (not_maxCrew_lt h), if_neg (by rw [may]; decide)]
    rfl

/-- Settles O30: each request by the case of its rule; what is stored completes nothing when it is not ready. -/
theorem handoverRequestsAreJudged : Obligations.HandoverRequestsAreJudged := by
  refine ⟨fun tag crew s hr hold => ?_, fun tag crew seq s hr hold => ?_⟩
  · intro h clear
    have accepts {k : Kind} (hs : k.refusedInSave = false) (hh : k.servedInHoldup = false) : s.accepts k :=
      ⟨hr, (State.busy_of_holdupOnly hs hh s).trans hold⟩
    have hrel : s.accepts .hrel := accepts rfl rfl
    have hacc : s.accepts .hacc := accepts rfl rfl
    obtain ⟨rParam, rNotdue, rCrew, rStands, rSet⟩ := serveHrel_cases crew s
    obtain ⟨aParam, aNotdue, aCrew, aStands, aSet⟩ := serveHacc_cases crew s
    refine ⟨fun h1 => ⟨congrArg _ (State.takeRequest_of_serve tag hrel (rParam h1)),
        congrArg _ (State.takeRequest_of_serve tag hacc (aParam h1))⟩,
      fun h1 h2 => ⟨congrArg _ (State.takeRequest_of_serve tag hrel (rNotdue h1 h2)),
        congrArg _ (State.takeRequest_of_serve tag hacc (aNotdue h1 h2))⟩,
      fun h1 h2 h3 => congrArg _ (State.takeRequest_of_serve tag hrel (rCrew h1 h2 h3)),
      fun h1 h2 h3 => congrArg _ (State.takeRequest_of_serve tag hacc (aCrew h1 h2 h3)),
      fun h1 h2 h3 waits => ?_, fun h1 h2 h3 waits => ?_⟩
    · cases hrl : s.shu.release with
      | true =>
        have same : ({ s with shu := { h with release := true } } : State) = s := by rw [← hrl]
        rw [same]
        exact congrArg _ (State.takeRequest_of_serve tag hrel (rStands h1 h2 h3 hrl))
      | false =>
        have notReady : ¬ ShiftUnitState.ready { h with release := true } = true := by
          rw [ShiftUnitState.ready_eq_true]
          rintro ⟨-, -, ha, ho, hv⟩
          rcases waits with w | w | w
          · rw [hrl] at w; cases w
          · rw [ha] at w; cases w
          · exact w ⟨ho, hv⟩
        have e := rSet h1 h2 h3 hrl
        rw [State.completeIfReady_of_not notReady] at e
        exact congrArg _ (State.takeRequest_of_serve tag hrel e)
    · cases hac : s.shu.accept with
      | true =>
        have same : ({ s with shu := { h with accept := true } } : State) = s := by rw [← hac]
        rw [same]
        exact congrArg _ (State.takeRequest_of_serve tag hacc (aStands h1 h2 h3 hac))
      | false =>
        have notReady : ¬ ShiftUnitState.ready { h with accept := true } = true := by
          rw [ShiftUnitState.ready_eq_true]
          rintro ⟨-, hl, -, ho, hv⟩
          rcases waits with w | w | w
          · rw [hac] at w; cases w
          · rw [hl] at w; cases w
          · exact w ⟨ho, hv⟩
        have e := aSet h1 h2 h3 hac
        rw [State.completeIfReady_of_not notReady] at e
        exact congrArg _ (State.takeRequest_of_serve tag hacc e)
  · intro h may waits
    have ha : s.accepts .tack := ⟨hr, (State.busy_of_holdupOnly rfl rfl s).trans hold⟩
    have hmay : s.shu.mayAcknowledge crew.toNat = true ↔ may := s.shu.mayAcknowledge_iff crew.toNat
    obtain ⟨param, crewed, absent, removes⟩ := serveTack_cases crew seq s
    obtain ⟨allParam, allCrewed, allRemoves⟩ := serveTackAll_cases crew s
    refine ⟨fun h1 => ⟨congrArg _ (State.takeRequest_of_serve tag ha (param h1)),
        congrArg _ (State.takeRequest_of_serve tag ha (allParam h1))⟩,
      fun h1 h2 => ⟨congrArg _ (State.takeRequest_of_serve tag ha (crewed h1 (mt hmay.1 h2))),
        congrArg _ (State.takeRequest_of_serve tag ha (allCrewed h1 (mt hmay.1 h2)))⟩,
      fun h1 h2 h3 => congrArg _ (State.takeRequest_of_serve tag ha (absent h1 (hmay.2 h2) h3)),
      fun older x newer h1 h2 hl hx ho done => ?_, fun h1 h2 h3 => ?_⟩
    · have notReady : ¬ ShiftUnitState.ready { h with openTrips := older ++ newer } = true := by
        rw [ShiftUnitState.ready_eq_true]
        exact fun ⟨a, b, c, d, e⟩ => done ⟨⟨a, b, c⟩, d, e⟩
      have e := removes older x newer h1 (hmay.2 h2) hl hx ho
      rw [State.completeIfReady_of_not notReady] at e
      exact congrArg _ (State.takeRequest_of_serve tag ha e)
    · have notReady : ¬ ShiftUnitState.ready { h with openTrips := [], overflow := false } = true := by
        rw [ShiftUnitState.ready_eq_true]
        exact fun ⟨a, b, c, _⟩ => h3 ⟨a, b, c⟩
      have e := allRemoves h1 (hmay.2 h2)
      rw [State.completeIfReady_of_not notReady] at e
      exact congrArg _ (State.takeRequest_of_serve tag ha e)

/-! ### HOPN and the window timer (R154, R160, R161) -/

/-- A record asks the queue the same whatever the shift unit holds. -/
theorem State.setShu_place_evq (s : State) (x : ShiftUnitState) (p : Placement) : ((s.setShu x).place p).evq = (s.place p).evq := by
  rw [State.place_evq, State.place_evq]; rfl

theorem minutesUs_eq (m : Nat) : minutesUs m = m * 60000000 := by
  rw [minutesUs]; omega

/-- A handover opens: SHU's values, the record and the notice (R154). -/
theorem State.openHandover_leaves (s : State) (crew window : Nat) :
    (∃ loss, (s.openHandover crew window).shu = { s.shu with
        state := .handover, expected := some crew, release := decide (s.shu.current.crew = 0), accept := false
        window := some { opening := s.tsc.e, expiry := s.tsc.e + window * 60000000 }
        current := { s.shu.current with loss := loss } })
      ∧ (s.openHandover crew window).evq = (s.place { detail := .shift .handoverDue (s.shu.current.number % 65536) crew }).evq
      ∧ (s.openHandover crew window).ntc.flags.getLsbD 4 = true
      ∧ Unchanged (.handover :: Part.recording) s (s.openHandover crew window) := by
  generalize opens : s.openHandover crew window = g
  rw [State.openHandover, minutesUs_eq] at opens
  generalize hm : s.setShu { s.shu with
    state := .handover, expected := some crew, release := false, accept := false
    window := some { opening := s.tsc.e, expiry := s.tsc.e + window * 60000000 } } = m at opens
  obtain ⟨loss, shu⟩ := m.place_shu { detail := .shift .handoverDue (low16 m.shu.current.number) crew }
  have handover : Unchanged (.handover :: Part.recording) s m := hm ▸ setHandover_unchanged s (by decide) _ _ _ _ _
  subst opens
  refine ⟨⟨loss, ?_⟩, ?_, ?_, ?_⟩
  · simp only [State.setShu_shu, State.raise_shu, State.placeShift, shu]
    rw [← hm]
    rfl
  · simp only [State.setShu_evq, State.raise_evq, State.placeShift]
    rw [← hm, State.setShu_place_evq]
    rfl
  · exact (NoticeUnit.raise_flag _ .handoverDue .handoverDue _).trans (Bool.or_true _)
  · exact ((handover.trans (placeShift_unchanged m (by decide) _ _)).trans (raise_unchanged _ (by decide) _)).trans
      (setHandover_unchanged _ (by decide) _ _ _ _ _)

/-- A window clamped into 5 to 120. -/
theorem clampWindow_eq (w : Nat) : clampWindow w = max 5 (min 120 w) := by
  rw [clampWindow, clampNat]
  split_ifs <;> omega

/-- HOPN, case by case of R161. -/
theorem serveHopn_cases (crew : Byte) (window : Option Byte) (s : State) :
    (s.shu.state ≠ .onShift → serveHopn crew window s = (s, { result := .state }))
      ∧ (s.shu.state = .onShift → (crew = 0 ∨ 15 < crew.toNat ∨ crew.toNat = s.shu.current.crew) →
          serveHopn crew window s = (s, { result := .param }))
      ∧ (s.shu.state = .onShift → ¬ (crew = 0 ∨ 15 < crew.toNat ∨ crew.toNat = s.shu.current.crew) → ∀ asked minutes,
          (match window with | some w => w.toNat | none => s.cfg.manualWindow) = asked →
          (match window with | some w => max 5 (min 120 w.toNat) | none => s.cfg.manualWindow) = minutes →
          serveHopn crew window s = (s.openHandover crew.toNat minutes,
            { result := if minutes = asked then .ok else .clamped, body := [byteOf minutes] })) := by
  unfold serveHopn
  refine ⟨fun h => if_pos h, fun h bad => ?_, fun h good asked minutes ha hm => ?_⟩
  · have outside : crew = 0 ∨ maxCrew < crew.toNat ∨ crew.toNat = s.shu.current.crew := bad
    rw [if_neg (not_not_intro h), if_pos outside]
  · have inside : ¬ (crew = 0 ∨ maxCrew < crew.toNat ∨ crew.toNat = s.shu.current.crew) := good
    rw [if_neg (not_not_intro h), if_neg inside]
    subst ha hm
    cases window with
    | none => rfl
    | some w =>
      simp only [Option.map_some, Option.getD_some, Option.isSome_some, if_true, clampWindow_eq]

/-- The window of a handover expires: SHU's values, the record and the condition (R160). -/
theorem State.goOverdue_leaves (s : State) :
    (∃ loss, s.goOverdue.shu = { s.shu with
        state := .overdue, current := { s.shu.current with overdue := true, loss := loss } })
      ∧ s.goOverdue.evq
          = (s.place { detail := .shift .overdue (s.shu.current.number % 65536) (s.shu.expected.getD 0) }).evq
      ∧ s.goOverdue.ntc.conditions.getLsbD 13 = true
      ∧ Unchanged (.handover :: Part.recording) s s.goOverdue := by
  have unchanged : Unchanged (.handover :: Part.recording) s s.goOverdue := goOverdue_unchanged s (by decide) (by decide)
  generalize goes : s.goOverdue = g at unchanged
  rw [State.goOverdue] at goes
  generalize hm : (s.setShu { s.shu with state := .overdue }).setCurrent { s.shu.current with overdue := true } = m at goes
  have shum : m.shu = { s.shu with state := .overdue, current := { s.shu.current with overdue := true } } := by rw [← hm]; rfl
  obtain ⟨loss, shu⟩ := m.place_shu { detail := .shift .overdue (low16 m.shu.current.number) (m.shu.expected.getD 0) }
  subst goes
  refine ⟨⟨loss, ?_⟩, ?_, ?_, unchanged⟩
  · simp only [State.hand_shu, State.placeShift, shu]
    rw [shum]
  · simp only [State.hand_evq, State.placeShift]
    rw [shum, State.place_evq, State.place_evq, ← hm]
    rfl
  · exact (NoticeUnit.hand_condition _ .handoverOverdue .handoverOverdue _ _).trans (if_pos rfl)

/-- Settles O32: HOPN by the case of its rule, and the window awaited at its expiry. -/
theorem handoversOpenAndGoOverdue : Obligations.HandoversOpenAndGoOverdue := by
  refine ⟨fun tag crew window s hr hold => ?_, fun s => ⟨fun w hs hw hq => ?_, fun h => ?_⟩⟩
  · intro bad asked minutes
    have ha : s.accepts .hopn := ⟨hr, (State.busy_of_holdupOnly rfl rfl s).trans hold⟩
    obtain ⟨state, param, opens⟩ := serveHopn_cases crew window s
    refine ⟨fun h => congrArg _ (State.takeRequest_of_serve tag ha (state h)),
      fun h hb => congrArg _ (State.takeRequest_of_serve tag ha (param h hb)), fun h hb => ?_⟩
    obtain ⟨⟨loss, shu⟩, evq, flag, unchanged⟩ := s.openHandover_leaves crew.toNat minutes
    refine ⟨s.openHandover crew.toNat minutes,
      congrArg _ (State.takeRequest_of_serve tag ha (opens h hb asked minutes rfl rfl)), ?_, ?_, ?_, ?_, ?_, flag,
      fun room n hn => ?_, unchanged⟩
    · rw [shu]
    · rw [shu]
    · rw [shu]
    · rw [shu]
    · rw [shu]
    · rw [evq, State.place_records _ hn room]
      rfl
  · have happens := await_instant (ev := .window) (s := s) (t := w.expiry)
      (show s.shu.windowExpiry = _ by rw [ShiftUnitState.windowExpiry, if_pos hs, hw]; rfl) hq
    generalize hm : s.setTsc (s.tsc.reach w.expiry) = m at happens
    have shuOf : m.shu = s.shu := by rw [← hm]; rfl
    have evqOf : m.evq = s.evq := by rw [← hm]; rfl
    have moved : Unchanged (.clock :: .handover :: Part.recording) s m := hm ▸ reach_unchanged (by decide) s _
    obtain ⟨⟨loss, shu⟩, evq, condition, unchanged⟩ := m.goOverdue_leaves
    have tsc : m.goOverdue.tsc = m.tsc := unchanged.tsc_eq (by decide) (by decide) (by decide) (by decide)
    rw [shuOf] at shu evq
    refine ⟨m.goOverdue, congrArg Host.Outcome.next happens, ?_, ?_, ?_, ?_, ?_, ?_, ?_, condition, fun room n hn => ?_,
      moved.trans (unchanged.mono (by decide))⟩
    · rw [tsc, ← hm]; rfl
    · rw [shu]
    · rw [shu]
    · rw [shu]
    · rw [shu]
    · rw [shu]
    · rw [shu]
    · rw [evq]
      rw [← evqOf] at room hn ⊢
      exact ⟨_, State.place_records _ hn room, rfl, rfl⟩
  · have none : s.shu.windowExpiry = none := by
      rw [ShiftUnitState.windowExpiry]
      rcases h with h | h
      · exact if_neg h
      · rw [h]; exact ite_self _
    exact congrArg Host.Outcome.next (await_of_none (ev := .window) none)

end Sys2Proof.Machine

/-! PROOFS. SCHW: the schedule is the written entries sorted by start minute, each window clamped against the next entry. -/

namespace Sys2Proof.Machine

variable {s : State}

/-- The order of a schedule (R143). -/
abbrev ScheduleEntry.before (x y : ScheduleEntry) : Prop := x.start ≤ y.start

/-- The model's insertion and sort are the library's, by start minute. -/
theorem insertEntry_eq (x : ScheduleEntry) : ∀ ys, insertEntry x ys = ys.orderedInsert ScheduleEntry.before x
  | [] => rfl
  | y :: ys => by rw [insertEntry, List.orderedInsert_cons, insertEntry_eq x ys]

theorem sortEntries_eq : ∀ xs, sortEntries xs = xs.insertionSort ScheduleEntry.before
  | [] => rfl
  | x :: xs => by
    rw [List.insertionSort_cons, ← sortEntries_eq xs, ← insertEntry_eq]
    rfl

theorem sortEntries_perm (xs : List ScheduleEntry) : (sortEntries xs).Perm xs := by
  rw [sortEntries_eq]
  exact List.perm_insertionSort _ _

theorem sortEntries_length (xs : List ScheduleEntry) : (sortEntries xs).length = xs.length := (sortEntries_perm xs).length_eq

/-- Distinct start minutes, sorted, increase. -/
theorem sortEntries_increasing {xs : List ScheduleEntry} (h : xs.Pairwise (fun x y => x.start ≠ y.start)) :
    (sortEntries xs).Pairwise (fun x y => x.start < y.start) := by
  have distinct : (sortEntries xs).Pairwise (fun x y => x.start ≠ y.start) :=
    (sortEntries_perm xs).symm.pairwise h (fun e => Ne.symm e)
  have : Std.Total ScheduleEntry.before := ⟨fun x y => Nat.le_total x.start y.start⟩
  have : IsTrans ScheduleEntry ScheduleEntry.before := ⟨fun x y z => Nat.le_trans⟩
  have sorted : (sortEntries xs).Pairwise ScheduleEntry.before := by
    rw [sortEntries_eq]
    exact List.pairwise_insertionSort _ _
  exact sorted.imp₂ (fun _ _ h1 h2 => Nat.lt_of_le_of_ne h1 h2) distinct

theorem distinctStarts_iff : ∀ xs, distinctStarts xs = true ↔ xs.Pairwise (fun x y => x.start ≠ y.start)
  | [] => by simp [distinctStarts]
  | x :: xs => by
    simp only [distinctStarts, Bool.and_eq_true, List.all_eq_true, bne_iff_ne, distinctStarts_iff xs, List.pairwise_cons]

/-- The schedules that SCHW takes, as the host writes them (R144). -/
theorem scheduleTaken_written (xs : List ScheduleWrite) : scheduleTaken (xs.map writtenEntry) = true ↔
    xs.length ≤ 6 ∧ (∀ x ∈ xs, x.start.toNat ≤ 1439 ∧ 1 ≤ x.crew.toNat ∧ x.crew.toNat ≤ 15)
      ∧ xs.Pairwise (fun x y => x.start ≠ y.start) := by
  have distinct : (xs.map writtenEntry).Pairwise (fun x y => x.start ≠ y.start) ↔ xs.Pairwise (fun x y => x.start ≠ y.start) := by
    rw [List.pairwise_map]
    exact ⟨List.Pairwise.imp fun h e => h (congrArg BitVec.toNat e), List.Pairwise.imp fun h e => h (BitVec.eq_of_toNat_eq e)⟩
  simp only [scheduleTaken, Bool.and_eq_true, decide_eq_true_eq, List.length_map, List.all_eq_true, List.forall_mem_map,
    distinctStarts_iff, distinct, and_assoc]
  rfl

/-! ### The windows clamped to the gaps -/

/-- The entry after one, cyclically. -/
theorem rotated_getElem {α : Type} (xs : List α) {i : Nat} (hi : i < xs.length)
    (h : i < (xs.drop 1 ++ xs.take 1).length) :
    (xs.drop 1 ++ xs.take 1)[i] = xs[(i + 1) % xs.length]'(Nat.mod_lt _ (by omega)) := by
  rw [List.getElem_append]
  split
  · rename_i hd
    rw [List.length_drop] at hd
    rw [List.getElem_drop]
    congr 1
    rw [Nat.mod_eq_of_lt (by omega), Nat.add_comm]
  · rename_i hd
    rw [List.length_drop] at hd
    rw [List.getElem_take]
    congr 1
    rw [List.length_drop, show i + 1 = xs.length by omega, Nat.mod_self]
    omega

theorem storedSchedule_length (xs : List ScheduleEntry) : (storedSchedule xs).length = xs.length := by
  have := sortEntries_length xs
  simp only [storedSchedule, List.length_zipWith, List.length_append, List.length_drop, List.length_take]
  omega

/-- Each entry stored is the sorted one, its window clamped against the next. -/
theorem storedSchedule_getElem (xs : List ScheduleEntry) {i : Nat} (hi : i < (storedSchedule xs).length)
    (hs : i < (sortEntries xs).length) (hn : (i + 1) % (sortEntries xs).length < (sortEntries xs).length) :
    (storedSchedule xs)[i] = clampEntry (sortEntries xs)[i] ((sortEntries xs)[(i + 1) % (sortEntries xs).length]) := by
  simp only [storedSchedule, List.getElem_zipWith]
  rw [rotated_getElem _ hs]

/-- The gap to the next of two different start minutes of a day; a lone entry has the whole day (R143). -/
theorem gapTo_of_ne {x y : ScheduleEntry} (hx : x.start ≤ 1439) (hy : y.start ≤ 1439) (h : x.start ≠ y.start) :
    gapTo x y = (y.start + 1440 - x.start) % 1440 := by
  have apart : (y.start + 1440 - x.start) % 1440 ≠ 0 := by omega
  exact if_neg apart

theorem gapTo_self (x : ScheduleEntry) : gapTo x x = 1440 := by
  have whole : (x.start + 1440 - x.start) % 1440 = 0 := by rw [Nat.add_sub_cancel_left]
  exact if_pos whole

/-- What a stored entry is in terms of the sorted one at its place. -/
theorem storedSchedule_fields (xs : List ScheduleEntry) {i : Nat} (hi : i < (storedSchedule xs).length)
    (hs : i < (sortEntries xs).length) :
    (storedSchedule xs)[i].start = (sortEntries xs)[i].start ∧ (storedSchedule xs)[i].crew = (sortEntries xs)[i].crew := by
  rw [storedSchedule_getElem xs hi hs (Nat.mod_lt _ (by omega))]
  exact ⟨rfl, rfl⟩

section
variable {xs : List ScheduleEntry} (distinct : xs.Pairwise (fun x y => x.start ≠ y.start))
include distinct

/-- The stored schedule increases by start minute (R143). -/
theorem storedSchedule_increasing : (storedSchedule xs).Pairwise (fun x y => x.start < y.start) := by
  have sorted := List.pairwise_iff_getElem.1 (sortEntries_increasing distinct)
  have len := storedSchedule_length xs
  have len' := sortEntries_length xs
  refine List.pairwise_iff_getElem.2 fun i j hi hj hij => ?_
  rw [(storedSchedule_fields xs hi (by omega)).1, (storedSchedule_fields xs hj (by omega)).1]
  exact sorted i j _ _ hij

/-- The gap of a stored entry to the next one (R143). -/
theorem storedSchedule_window (day : ∀ x ∈ xs, x.start ≤ 1439) {i : Nat} (hi : i < (storedSchedule xs).length) (hs : i < (sortEntries xs).length)
    (hn : (i + 1) % (storedSchedule xs).length < (storedSchedule xs).length) :
    (storedSchedule xs)[i].window = min (max 5 (min 120 (sortEntries xs)[i].window))
      (if (storedSchedule xs).length = 1 then 1440
        else ((storedSchedule xs)[(i + 1) % (storedSchedule xs).length].start + 1440 - (storedSchedule xs)[i].start) % 1440) := by
  have len := storedSchedule_length xs
  have len' := sortEntries_length xs
  have within : ∀ j, (hj : j < (sortEntries xs).length) → (sortEntries xs)[j].start ≤ 1439 := fun j hj =>
    day _ ((sortEntries_perm xs).mem_iff.1 (List.getElem_mem hj))
  have sorted := List.pairwise_iff_getElem.1 (sortEntries_increasing distinct)
  have hn' : (i + 1) % (sortEntries xs).length < (sortEntries xs).length := by rw [len', ← len]; exact hn
  have next : (storedSchedule xs)[(i + 1) % (storedSchedule xs).length].start
      = (sortEntries xs)[(i + 1) % (sortEntries xs).length].start := by
    rw [(storedSchedule_fields xs hn (by omega)).1]
    simp only [len, len']
  rw [(storedSchedule_fields xs hi hs).1, next, storedSchedule_getElem xs hi hs hn', clampEntry]
  dsimp only
  rw [clampWindow_eq, len]
  congr 1
  split
  · rename_i one
    have alone : (i + 1) % (sortEntries xs).length = i := by rw [len', one, Nat.mod_one]; omega
    simp only [alone]
    exact gapTo_self _
  · rename_i several
    refine gapTo_of_ne (within i hs) (within _ hn') ?_
    rcases Nat.lt_or_ge (i + 1) (sortEntries xs).length with inner | last
    · simp only [Nat.mod_eq_of_lt inner]
      exact Nat.ne_of_lt (sorted i (i + 1) _ _ (Nat.lt_succ_self i))
    · have wraps : (i + 1) % (sortEntries xs).length = 0 := by
        rw [show i + 1 = (sortEntries xs).length by omega, Nat.mod_self]
      simp only [wraps]
      exact Nat.ne_of_gt (sorted 0 i _ _ (by omega))

/-- No window was clamped exactly when every entry's start and window are stored. -/
theorem storedSchedule_eq_sorted_iff : storedSchedule xs = sortEntries xs ↔
    ∀ x ∈ xs, ∃ y ∈ storedSchedule xs, y.start = x.start ∧ y.window = x.window := by
  have len := storedSchedule_length xs
  have len' := sortEntries_length xs
  constructor
  · intro same x hx
    rw [same]
    exact ⟨x, (sortEntries_perm xs).mem_iff.2 hx, rfl, rfl⟩
  · intro all
    refine List.ext_getElem (len.trans len'.symm) fun i hi hs => ?_
    obtain ⟨y, hy, hstart, hwindow⟩ := all _ ((sortEntries_perm xs).mem_iff.1 (List.getElem_mem hs))
    obtain ⟨j, hj, rfl⟩ := List.getElem_of_mem hy
    have sorted := List.pairwise_iff_getElem.1 (sortEntries_increasing distinct)
    have starts : (sortEntries xs)[j].start = (sortEntries xs)[i].start := by
      rw [← hstart, (storedSchedule_fields xs hj (by omega)).1]
    have place : j = i := by
      rcases Nat.lt_trichotomy j i with h | h | h
      · exact absurd starts (Nat.ne_of_lt (sorted j i _ _ h))
      · exact h
      · exact absurd starts.symm (Nat.ne_of_lt (sorted i j _ _ h))
    subst place
    obtain ⟨start, crew⟩ := storedSchedule_fields xs hi hs
    generalize (storedSchedule xs)[j] = a at *
    generalize (sortEntries xs)[j] = b at *
    cases a; cases b
    simp_all

end

/-! ### SCHW (R143, R144) -/

/-- Settles O29: the schedule stored is the sorted one with each window clamped, and it is compared with it for the answer. -/
theorem schwSortsAndClampsTheSchedule : Obligations.SchwSortsAndClampsTheSchedule := by
  intro tag xs s ha fits allowed
  have taken : scheduleTaken (xs.map writtenEntry) = true ↔ allowed := scheduleTaken_written xs
  have row : exec (.schw tag xs) s = .next (s.takeRequest .schw tag (serveSchw xs)) := if_pos ((schwBody_fits xs).2 fits)
  refine ⟨fun refused => ?_, fun ok => ?_⟩
  · have e : serveSchw xs s = (s, { result := .param }) := if_neg (mt taken.1 refused)
    rw [row, State.takeRequest_of_serve tag ha e]
    rfl
  · have within := ok.2.1
    have e : serveSchw xs s = (s.setSchedule (storedSchedule (xs.map writtenEntry)),
        { result := if storedSchedule (xs.map writtenEntry) = sortEntries (xs.map writtenEntry) then .ok else .clamped }) :=
      if_pos (taken.2 ok)
    generalize hw : xs.map writtenEntry = ws at e
    have day : ∀ x ∈ ws, x.start ≤ 1439 := by
      rw [← hw, List.forall_mem_map]
      exact fun x hx => (within x hx).1
    have distinct : ws.Pairwise (fun x y => x.start ≠ y.start) := by
      have h := taken.2 ok
      rw [hw, scheduleTaken, Bool.and_eq_true, distinctStarts_iff] at h
      exact h.2
    have len : (storedSchedule ws).length = xs.length := by rw [storedSchedule_length, ← hw, List.length_map]
    refine ⟨storedSchedule ws, if storedSchedule ws = sortEntries ws then .ok else .clamped,
      storedSchedule_increasing distinct, len, fun i hi => ?_, ?_, ?_, ?_⟩
    · have hs : i < (sortEntries ws).length := by rw [sortEntries_length, ← storedSchedule_length]; exact hi
      obtain ⟨x, hx, sorted⟩ : ∃ x ∈ xs, writtenEntry x = (sortEntries ws)[i] := by
        have mem : (sortEntries ws)[i] ∈ xs.map writtenEntry := hw ▸ (sortEntries_perm ws).mem_iff.1 (List.getElem_mem hs)
        exact List.mem_map.1 mem
      obtain ⟨start, crew⟩ := storedSchedule_fields ws hi hs
      refine ⟨x, hx, ?_, ?_, ?_⟩
      · rw [start, ← sorted]; rfl
      · rw [crew, ← sorted]; rfl
      · have window := storedSchedule_window distinct day hi hs (Nat.mod_lt _ (by omega))
        rw [← sorted] at window
        exact window
    · have same := storedSchedule_eq_sorted_iff distinct
      rw [← hw, List.forall_mem_map, hw] at same
      refine Iff.trans (b := storedSchedule ws = sortEntries ws) ?_ same
      split
      · rename_i h; exact iff_of_true rfl h
      · rename_i h; exact iff_of_false (fun r => Result.noConfusion r) h
    · split
      · exact .inl rfl
      · exact .inr rfl
    · rw [row, State.takeRequest_of_serve tag ha e]
      rfl

end Sys2Proof.Machine

/-! PROOFS. A shift closed and the next one opened (R149, R150), with the records placed on the way and the save asked for.
`Appends` says which records a change puts behind those held, as long as there is room for all of them. -/

namespace Sys2Proof.Machine

variable {s t u : State}

/-! ### Records put behind those held (R98, R99) -/

/-- With room for `k` records and numbers for them, at most `k` records are put behind those of `s`, some of them with
these details. -/
def Appends (k : Nat) (ds : List Detail) (s t : State) : Prop :=
  ∀ n, s.evq.nextSeq = some n → s.evq.records.length + k ≤ 319 → n + k ≤ max32 → ∃ added,
    t.evq.records = s.evq.records ++ added ∧ added.length ≤ k ∧ t.evq.nextSeq = some (n + added.length)
    ∧ ∀ d ∈ ds, ∃ r ∈ added, r.detail = d

/-- A change that leaves the queue as it is. -/
theorem Appends.of_eq (h : t.evq = s.evq) : Appends 0 [] s t := by
  intro n hn _ _
  exact ⟨[], by rw [h, List.append_nil], Nat.le_refl _, by rw [h, hn]; rfl, fun d hd => nomatch hd⟩

theorem Appends.trans {k l : Nat} {ds es : List Detail} (h : Appends k ds s t) (h' : Appends l es t u) :
    Appends (k + l) (ds ++ es) s u := by
  intro n hn room numbers
  obtain ⟨a, ha, hal, han, had⟩ := h n hn (by omega) (by omega)
  obtain ⟨b, hb, hbl, hbn, hbd⟩ := h' _ han (by rw [ha, List.length_append]; omega) (by omega)
  refine ⟨a ++ b, by rw [hb, ha, List.append_assoc], by rw [List.length_append]; omega, ?_, fun d hd => ?_⟩
  · rw [hbn, List.length_append, Nat.add_assoc]
  · rcases List.mem_append.1 hd with hd | hd
    · obtain ⟨r, hr, e⟩ := had d hd
      exact ⟨r, List.mem_append_left _ hr, e⟩
    · obtain ⟨r, hr, e⟩ := hbd d hd
      exact ⟨r, List.mem_append_right _ hr, e⟩

/-- More room may be asked for, and less said. -/
theorem Appends.mono {k l : Nat} {ds es : List Detail} (h : Appends k ds s t) (hk : k ≤ l) (hd : es ⊆ ds) :
    Appends l es s t := by
  intro n hn room numbers
  obtain ⟨a, ha, hal, han, had⟩ := h n hn (by omega) (by omega)
  exact ⟨a, ha, by omega, han, fun d h => had d (hd h)⟩

/-- A change that leaves the queue as it is, before or after. -/
theorem Appends.congr {k : Nat} {ds : List Detail} {s' t' : State} (h : Appends k ds s t) (hs : s'.evq = s.evq)
    (ht : t'.evq = t.evq) : Appends k ds s' t' := by
  unfold Appends
  rw [hs, ht]
  exact h

/-- One record placed. -/
theorem Appends.place (s : State) (p : Placement) : Appends 1 [p.detail] s (s.place p) := by
  intro n hn room numbers
  have placed : (s.place p).evq = s.evq.append n (s.recordOf p) := by
    rw [State.place, State.placeSeq_of_room p hn (by omega)]
    rfl
  refine ⟨[{ s.recordOf p with seq := n }], by rw [placed]; rfl, Nat.le_refl _, ?_, fun d hd => ?_⟩
  · rw [placed, EventQueue.append]
    exact if_neg (by omega)
  · rw [List.mem_singleton.1 hd]
    exact ⟨_, List.mem_singleton_self _, rfl⟩

/-- At most one record placed at each of several steps. -/
theorem Appends.overAll {α : Type} (f : α → State → State) (ds : α → List Detail) (h : ∀ x s, Appends 1 (ds x) s (f x s)) :
    ∀ (xs : List α) (s : State), Appends xs.length (xs.flatMap ds) s (forAll xs f s)
  | [], s => .of_eq rfl
  | x :: xs, s => by
    have rest := (h x s).trans (Appends.overAll f ds h xs (f x s))
    rw [List.length_cons, List.flatMap_cons, Nat.add_comm]
    exact rest

/-- What stands behind the records of `s`. -/
theorem Appends.recorded {k : Nat} {d : Detail} {ds : List Detail} (h : Appends k ds s t) (hd : d ∈ ds) {n : Nat}
    (hn : s.evq.nextSeq = some n) (room : s.evq.records.length + k ≤ 319) (numbers : n + k ≤ max32) :
    ∃ r ∈ t.evq.records.drop s.evq.records.length, r.detail = d := by
  obtain ⟨added, e, -, -, placed⟩ := h n hn room numbers
  rw [e, List.drop_left]
  exact placed d hd

theorem Appends.evalMaintenance (u : Nat) (s : State) : Appends 1 [] s (s.evalMaintenance u) := by
  have place (m : State) (p : Placement) (h : m.evq = s.evq) : Appends 1 [] s (m.place p) :=
    ((Appends.place m p).mono (Nat.le_refl _) (List.nil_subset _)).congr h.symm rfl
  simp only [State.evalMaintenance]
  split_ifs
  · exact place _ _ rfl
  · exact (Appends.of_eq rfl).mono (Nat.zero_le _) (List.nil_subset _)
  · exact (place (s.setTally u _) _ rfl).congr rfl (State.hand_evq _ _ _)
  · exact (Appends.of_eq rfl).mono (Nat.zero_le _) (List.nil_subset _)

/-- A checkpoint of every unit places one MAINT record for a unit at most (R134, R135). -/
theorem Appends.checkpointAll (s : State) : Appends 8 [] s s.checkpointAll := by
  have booked : (forAll (numbers 8) State.checkpointNow s).evq = s.evq :=
    forAll_rel (fun a b => b.evq = a.evq) (fun _ => rfl) (fun _ _ _ h h' => h'.trans h) (numbers 8) State.checkpointNow
      (fun _ _ _ => rfl) s
  have evaluated := Appends.overAll State.evalMaintenance (fun _ => []) (fun u s => .evalMaintenance u s) (numbers 8)
    (forAll (numbers 8) State.checkpointNow s)
  exact (evaluated.mono (Nat.le_refl _) (List.nil_subset _)).congr booked.symm rfl

/-! ### A second checkpoint at the same instant -/

/-- A booking of nothing that has just been booked leaves it. -/
theorem Acc.book_again (a : Acc) (d : Nat) : (a.book d).overflows 0 = false ∧ (a.book d).book 0 = a.book d := by
  obtain ⟨secs, rem⟩ := a.book_inRange d
  have carry : ((a.book d).rem + 0) / 1000000 = 0 := by omega
  have stays : (a.book d).overflows 0 = false := by
    rw [Acc.overflows, carry, decide_eq_false_iff_not]; omega
  refine ⟨stays, ?_⟩
  rw [Acc.book, if_neg (Bool.eq_false_iff.1 stays), carry, Nat.add_zero, Nat.add_zero, Nat.mod_eq_of_lt (by omega)]

theorem Accs.set_set (a : Accs) (m : Mode) (x y : Acc) : (a.set m x).set m y = a.set m y := by cases m <;> rfl

/-- A checkpoint at the instant of the last one leaves the unit (R118). -/
theorem GenUnit.checkpoint_again (g : GenUnit) (t : Nat) : (g.checkpoint t).checkpoint t = g.checkpoint t := by
  by_cases hm : g.mode = .none
  · rw [GenUnit.checkpoint, GenUnit.checkpoint, if_pos hm, if_pos hm]
  · obtain ⟨stays, same⟩ := (g.tally.accs.get g.mode).book_again (g.open' t)
    have nothing : t - (some t : Option Nat).getD t = 0 := Nat.sub_self t
    simp only [GenUnit.checkpoint, if_neg hm, GenUnit.open', nothing, Accs.get_set _ _ _ _ hm, if_true, Accs.set_set]
    simp only [GenUnit.open'] at stays same
    rw [stays, same, Bool.or_false]

/-- The evaluation of a unit does not see what a checkpoint changes. -/
theorem GenUnit.checkpoint_evaluated (g : GenUnit) (w : UnitSettings) (now t : Nat) (h : g.checkpoint t = g) :
    (g.evaluated w now).checkpoint t = g.evaluated w now := by
  by_cases hm : g.mode = .none
  · exact if_pos hm
  · rw [GenUnit.checkpoint, if_neg hm] at h
    obtain ⟨hecp, htally⟩ : some t = g.ecp ∧ _ = g.tally := ⟨congrArg GenUnit.ecp h, congrArg GenUnit.tally h⟩
    have haccs := congrArg Tally.accs htally
    have hsat := congrArg Tally.sat htally
    rw [GenUnit.checkpoint, if_neg (show (g.evaluated w now).mode ≠ .none from hm)]
    simp only [GenUnit.evaluated, GenUnit.open'] at haccs hsat ⊢
    rw [hecp, haccs, hsat]

/-- Every unit is booked up to this instant and evaluated. -/
def State.settled (s : State) : Prop :=
  ∀ u, 1 ≤ u ∧ u ≤ 8 → (s.unit u).checkpoint s.tsc.e = s.unit u
    ∧ (s.unit u).tally.due = decide ((s.unit u).tally.limit ≤ s.eoh u)

theorem State.settled.congr (h : s.settled) (tlu : t.tlu = s.tlu) (cfg : t.cfg = s.cfg) (e : t.tsc.e = s.tsc.e) : t.settled := by
  intro u hu
  have unit : t.unit u = s.unit u := by rw [State.unit, State.unit, tlu]
  have eoh : t.eoh u = s.eoh u := by simp only [State.eoh, unit, State.unitCfg, cfg, e]
  rw [unit, e, eoh]
  exact h u hu

theorem State.checkpointAll_settled (s : State) : s.checkpointAll.settled := by
  intro u hu
  have kept := checkpointAll_unchanged s (L := .tlu :: Part.recording) (by decide) (by decide)
  have tsc := kept.tsc_eq (by decide) (by decide) (by decide) (by decide)
  have eoh : s.checkpointAll.eoh u = ((s.unit u).checkpoint s.tsc.e).eoh (s.unitCfg u) s.tsc.e := by
    rw [State.eoh, s.checkpointAll_unit hu, GenUnit.eoh_evaluated, kept.unitCfg_eq (by decide), tsc]
  rw [eoh, s.checkpointAll_unit hu, tsc]
  exact ⟨GenUnit.checkpoint_evaluated _ _ _ _ (GenUnit.checkpoint_again _ _), rfl⟩

/-- An evaluation that finds the flag as it is places no record. -/
theorem State.evalMaintenance_evq_of_same {u : Nat}
    (h : (s.unit u).tally.due = decide ((s.unit u).tally.limit ≤ s.eoh u)) : (s.evalMaintenance u).evq = s.evq := by
  simp only [State.evalMaintenance, ← h, Bool.and_not_self, Bool.false_eq_true, if_false, if_true]
  rfl

/-- Units settled are not changed by a further checkpoint, so none is recorded. -/
theorem State.checkpointAll_evq_of_settled (h : s.settled) : s.checkpointAll.evq = s.evq := by
  have exists' {v : Nat} (hv : v ∈ numbers 8) := (mem_numbers 8 v).1 hv
  have booked := forAll_keeps (fun t => Unchanged [.tlu, .current] s t ∧ t.evq = s.evq
      ∧ ∀ u, 1 ≤ u ∧ u ≤ 8 → t.unit u = s.unit u) (numbers 8) State.checkpointNow
    (fun v hv t ⟨kept, evq, units⟩ => by
      have tsc := kept.tsc_eq (by decide) (by decide) (by decide) (by decide)
      refine ⟨kept.trans (checkpoint_unchanged t (by decide) (by decide) _ _), evq, fun u hu => ?_⟩
      rw [State.checkpointNow, t.checkpoint_unit v _ u (decide_eq_true (exists' hv)), tsc]
      split
      · rename_i e
        rw [e, units v (exists' hv), (h v (exists' hv)).1]
      · exact units u hu)
    s ⟨Unchanged.refl _ _, rfl, fun _ _ => rfl⟩
  have evaluated := forAll_keeps (fun t => Unchanged (.tlu :: Part.recording) s t ∧ t.evq = s.evq
      ∧ ∀ u, 1 ≤ u ∧ u ≤ 8 → t.unit u = s.unit u) (numbers 8) State.evalMaintenance
    (fun v hv t ⟨kept, evq, units⟩ => by
      have tsc := kept.tsc_eq (by decide) (by decide) (by decide) (by decide)
      have unit := units v (exists' hv)
      have eoh : t.eoh v = s.eoh v := by rw [State.eoh, unit, kept.unitCfg_eq (by decide), tsc]; rfl
      have due := (h v (exists' hv)).2
      refine ⟨kept.trans (evalMaintenance_unchanged t (by decide) (by decide) _), ?_, fun u hu => ?_⟩
      · rw [State.evalMaintenance_evq_of_same (by rw [unit, eoh]; exact due), evq]
      · rw [t.evalMaintenance_unit_eq v u (exists' hv)]
        split
        · rename_i e
          rw [GenUnit.evaluated, show (t.unit v).eoh (t.unitCfg v) t.tsc.e = s.eoh v from eoh, unit, ← due, e]
        · exact units u hu)
    _ ⟨booked.1.mono (by decide), booked.2⟩
  exact evaluated.2.1

/-! ### Times booked to the shift on duty (R118, R148) -/

/-- Of the shift unit, only the times of the shift on duty and its loss flag may differ. -/
def ShiftBooked (s t : State) : Prop :=
  ∃ units loss, t.shu = { s.shu with current := { s.shu.current with units := units, loss := loss } }

theorem ShiftBooked.of_eq (h : t.shu = s.shu) : ShiftBooked s t := ⟨s.shu.current.units, s.shu.current.loss, h⟩

theorem ShiftBooked.trans (h : ShiftBooked s t) (h' : ShiftBooked t u) : ShiftBooked s u := by
  obtain ⟨_, _, e⟩ := h
  obtain ⟨units, loss, e'⟩ := h'
  exact ⟨units, loss, by rw [e', e]⟩

theorem ShiftBooked.place (s : State) (p : Placement) : ShiftBooked s (s.place p) := by
  obtain ⟨loss, e⟩ := s.place_shu p
  exact ⟨s.shu.current.units, loss, e⟩

theorem ShiftBooked.evalMaintenance (u : Nat) (s : State) : ShiftBooked s (s.evalMaintenance u) := by
  have place (m : State) (p : Placement) (h : m.shu = s.shu) : ShiftBooked s (m.place p) :=
    (ShiftBooked.of_eq h).trans (.place m p)
  simp only [State.evalMaintenance]
  split_ifs
  · exact place _ _ rfl
  · exact .of_eq rfl
  · exact (place (s.setTally u _) _ rfl).trans (.of_eq (State.hand_shu _ _ _))
  · exact .of_eq rfl

theorem ShiftBooked.checkpoint (s : State) (u at' : Nat) : ShiftBooked s (s.checkpoint u at') := by
  obtain ⟨units, e⟩ : ∃ units, s.shu.current.addTime u (s.unit u).mode ((s.unit u).open' at')
      = { s.shu.current with units := units } := by
    cases (s.unit u).mode with
    | gen | pump => exact ⟨_, rfl⟩
    | _ => exact ⟨s.shu.current.units, rfl⟩
  exact ⟨units, s.shu.current.loss, congrArg (fun r => { s.shu with current := r }) e⟩

theorem ShiftBooked.checkpointAll (s : State) : ShiftBooked s s.checkpointAll :=
  (forAll_rel ShiftBooked (fun _ => .of_eq rfl) (fun _ _ _ => .trans) (numbers 8) State.checkpointNow
      (fun u _ t => .checkpoint t u _) s).trans
    (forAll_rel ShiftBooked (fun _ => .of_eq rfl) (fun _ _ _ => .trans) (numbers 8) State.evalMaintenance
      (fun u _ t => .evalMaintenance u t) _)

/-- The pieces that a checkpoint of every unit leaves. -/
theorem checkpointAll_apart (s : State) : Unchanged (.tlu :: Part.recording) s s.checkpointAll :=
  checkpointAll_unchanged s (by decide) (by decide)

/-! ### A shift closed and the next one opened (R149, R150) -/

/-- The record that a close puts into the history, and the one that follows it, but for the times, the loss flag and the
date (R149, R150). -/
def ShiftUnitState.closed (h : ShiftUnitState) (kind : ShiftKind) (crew duration : Nat) : ShiftRecord :=
  { h.current with kind := kind, nextCrew := crew, duration := duration }

def ShiftUnitState.nextNumber (h : ShiftUnitState) : Nat := if max32 ≤ h.current.number then 1 else h.current.number + 1

/-- The history after a close: at the last number it is emptied (R150, R164). -/
def ShiftUnitState.historyWith (h : ShiftUnitState) (r : ShiftRecord) : List ShiftRecord :=
  if max32 ≤ h.current.number then [] else pushHistory r h.history

theorem NoticesLeft.weaken {vs ws : List Notice} (h : NoticesLeft vs s t) (hv : vs ⊆ ws) : NoticesLeft ws s t :=
  ⟨h.1, fun v hw => h.2 v (fun hm => hw (hv hm))⟩

/-- The first part of a close: the checkpoint of every unit, the closed record in the history, its SHIFT record. -/
theorem State.closeRecord_leaves (s : State) (kind : ShiftKind) (event : ShiftEvent) (crew duration : Nat) :
    (∃ units loss loss', (s.closeRecord kind event crew duration).shu = { s.shu with
        history := pushHistory { s.shu.closed kind crew duration with units := units, loss := loss } s.shu.history
        current := { s.shu.closed kind crew duration with units := units, loss := loss' } })
      ∧ (s.closeRecord kind event crew duration).stc = s.stc
      ∧ Appends 9 [.shift event (s.shu.current.number % 65536) crew] s (s.closeRecord kind event crew duration)
      ∧ NoticesLeft [.queueLevel, .maintDue] s (s.closeRecord kind event crew duration)
      ∧ (s.closeRecord kind event crew duration).settled := by
  have settled := s.checkpointAll_settled
  obtain ⟨units, loss, booked⟩ := ShiftBooked.checkpointAll s
  have stc : s.checkpointAll.stc = s.stc := checkpointAll_apart s .stc (by decide)
  have records := Appends.checkpointAll s
  have notices := NoticesLeft.checkpointAll (vs := [.queueLevel, .maintDue]) (by decide) (by decide) s
  simp only [State.closeRecord]
  generalize s.checkpointAll = m at *
  rw [booked]
  dsimp only
  generalize hc : (m.setShu _).setCurrent _ = c
  have shu : c.shu = { s.shu with
      history := pushHistory { s.shu.closed kind crew duration with units := units, loss := loss } s.shu.history
      current := { s.shu.closed kind crew duration with units := units, loss := false } } := by
    rw [← hc]; rfl
  obtain ⟨loss', placed⟩ := c.place_shu { detail := .shift event (low16 c.shu.current.number) crew }
  have number : c.shu.current.number = s.shu.current.number := by rw [shu]; rfl
  have record := Appends.place c { detail := .shift event (low16 c.shu.current.number) crew }
  rw [number] at record placed
  rw [State.placeShift, number]
  refine ⟨⟨units, loss, loss', ?_⟩, ?_, ?_, ?_, ?_⟩
  · rw [placed, shu]
  · rw [State.place_stc, ← hc, State.setCurrent_stc, State.setShu_stc, stc]
  · have before : Appends 8 [] s c := records.congr rfl (by rw [← hc]; rfl)
    exact before.trans record
  · exact (notices.trans (.of_eq (by rw [← hc]; rfl))).trans (.place (by decide) _ _)
  · exact settled.congr (by rw [State.place_tlu, ← hc]; rfl) (by rw [State.place_cfg, ← hc]; rfl)
      (by rw [State.place_tsc, ← hc]; rfl)

/-- The save that a close asks for is recorded: begun, or queued behind the one in flight (R149 step 5, R173). -/
theorem State.requestShiftSave_leaves (s : State) :
    (s.requestShiftSave.shu = s.shu ∧ s.requestShiftSave.evq = s.evq ∧ s.requestShiftSave.ntc = s.ntc)
      ∧ (s.requestShiftSave.tsc = s.tsc ∧ s.requestShiftSave.dsc = s.dsc ∧ s.requestShiftSave.tlu = s.tlu
          ∧ s.requestShiftSave.cfg = s.cfg)
      ∧ (s.cfg.saveAtShift = true → s.stc.inFlight = none → ∃ f, s.requestShiftSave.stc.inFlight = some f
          ∧ f.trigger = .shift ∧ f.start = s.tsc.e)
      ∧ (s.cfg.saveAtShift = true → s.stc.inFlight.isSome = true →
          s.requestShiftSave.stc = { s.stc with queued := some (s.stc.queued.getD .shift) }) := by
  rw [State.requestShiftSave]
  cases hs : s.cfg.saveAtShift with
  | false => exact ⟨⟨rfl, rfl, rfl⟩, ⟨rfl, rfl, rfl, rfl⟩, fun h => (nomatch h), fun h => (nomatch h)⟩
  | true =>
    rw [if_pos rfl]
    cases hf : s.stc.inFlight with
    | none => exact ⟨⟨rfl, rfl, rfl⟩, ⟨rfl, rfl, rfl, rfl⟩, fun _ _ => ⟨_, rfl, rfl, rfl⟩, fun _ h => (nomatch h)⟩
    | some f => exact ⟨⟨rfl, rfl, rfl⟩, ⟨rfl, rfl, rfl, rfl⟩, fun _ h => (nomatch h), fun _ _ => rfl⟩

/-- The next shift in place of the one just closed (R150). -/
theorem State.openShift_leaves (s : State) (crew : Nat) :
    (s.openShift crew).shu = { s.shu with
        history := if max32 ≤ s.shu.current.number then [] else s.shu.history
        current := ShiftRecord.fresh s.shu.nextNumber crew s.dateNow s.dsc.effClass }
      ∧ ((s.openShift crew).evq = s.evq ∧ (s.openShift crew).ntc = s.ntc ∧ (s.openShift crew).stc = s.stc)
      ∧ (s.openShift crew).tlu = s.tlu ∧ (s.openShift crew).cfg = s.cfg ∧ (s.openShift crew).tsc = s.tsc := by
  rw [State.openShift, ShiftUnitState.nextNumber]
  split <;> exact ⟨rfl, ⟨rfl, rfl, rfl⟩, rfl, rfl, rfl⟩

/-- No handover is open any more. -/
theorem State.endHandover_leaves (s : State) :
    s.endHandover.shu = { s.shu with state := .onShift, expected := none, release := false, accept := false, window := none }
      ∧ s.endHandover.evq = s.evq ∧ s.endHandover.stc = s.stc ∧ s.endHandover.ntc.conditions.getLsbD 13 = false
      ∧ NoticesLeft [.handoverOverdue] s s.endHandover :=
  ⟨rfl, rfl, rfl, (NoticeUnit.hand_condition _ .handoverOverdue .handoverOverdue _ _).trans (if_pos rfl),
    (NoticesLeft.of_eq (t := s.setShu _) rfl).trans (.hand _ (by decide) _)⟩

/-- The snapshot that a save takes as it starts, of the state that stands then. -/
theorem State.takeSnapshot_leaves (s : State) :
    ShiftBooked s s.takeSnapshot ∧ (s.settled → s.takeSnapshot.evq = s.evq) ∧ NoticesLeft [.queueLevel, .maintDue] s s.takeSnapshot
      ∧ ∀ f, s.stc.inFlight = some f →
          s.takeSnapshot.stc = { s.stc with inFlight := some { f with snapshot := some s.takeSnapshot.snapshot.stored } } := by
  have booked := ShiftBooked.checkpointAll s
  have records := State.checkpointAll_evq_of_settled (s := s)
  have notices := NoticesLeft.checkpointAll (vs := [.queueLevel, .maintDue]) (by decide) (by decide) s
  have stored (f : SaveInFlight) (hf : s.stc.inFlight = some f) := State.takeSnapshot_eq hf
  simp only [State.takeSnapshot] at stored ⊢
  generalize s.checkpointAll = m at *
  refine ⟨booked.trans (.of_eq (State.setStc_shu _ _)), fun h => (State.setStc_evq _ _).trans (records h),
    notices.trans (.of_eq (State.setStc_ntc _ _)), fun f hf => ?_⟩
  rw [stored f hf, State.setStc_stc, State.snapshot_setStc]

/-- What a close of the shift leaves of SHU: no handover is open, the closed record is the newest of the history, and the
next shift stands (R149, R150). -/
def ShiftClosed (kind : ShiftKind) (crew duration : Nat) (s t : State) : Prop :=
  ∃ units loss units' loss', t.shu = { s.shu with
    state := .onShift, expected := none, release := false, accept := false, window := none
    history := s.shu.historyWith { s.shu.closed kind crew duration with units := units, loss := loss }
    current := { ShiftRecord.fresh s.shu.nextNumber crew s.dateNow s.dsc.effClass with units := units', loss := loss' } }

theorem ShiftClosed.booked {kind : ShiftKind} {crew duration : Nat} (h : ShiftClosed kind crew duration s t)
    (h' : ShiftBooked t u) : ShiftClosed kind crew duration s u := by
  obtain ⟨units, loss, _, _, e⟩ := h
  obtain ⟨units', loss', e'⟩ := h'
  exact ⟨units, loss, units', loss', by rw [e', e]⟩

/-- The save that a close asks for, from its start to its snapshot (R149 step 5, R173, R174). -/
def ShiftSaved (s t : State) : Prop :=
  (s.cfg.saveAtShift = true → s.stc.inFlight = none → ∃ f, t.stc.inFlight = some f ∧ f.trigger = .shift
      ∧ f.start = s.tsc.e ∧ f.snapshot = some t.snapshot.stored)
    ∧ (s.cfg.saveAtShift = true → s.stc.inFlight.isSome = true →
        t.stc.inFlight = s.stc.inFlight ∧ t.stc.queued = some (s.stc.queued.getD .shift))

/-- A close before the snapshot of its save. -/
def State.shiftOpened (s : State) (kind : ShiftKind) (event : ShiftEvent) (crew duration : Nat) : State :=
  let s1 := s.closeRecord kind event crew duration
  let s2 := s1.requestShiftSave.openShift crew
  (s2.setCurrent { s2.shu.current with loss := s1.shu.current.loss }).endHandover

theorem State.closeShift_eq (s : State) (kind : ShiftKind) (event : ShiftEvent) (crew duration : Nat) :
    s.closeShift kind event crew duration = if s.cfg.saveAtShift && s.stc.inFlight.isNone
      then (s.shiftOpened kind event crew duration).takeSnapshot else s.shiftOpened kind event crew duration := by
  obtain ⟨-, stc, -⟩ := s.closeRecord_leaves kind event crew duration
  rw [← stc]
  rfl

theorem State.shiftOpened_leaves (s : State) (kind : ShiftKind) (event : ShiftEvent) (crew duration : Nat) :
    ShiftClosed kind crew duration s (s.shiftOpened kind event crew duration)
      ∧ (s.cfg.saveAtShift = true → s.stc.inFlight = none → ∃ f,
          (s.shiftOpened kind event crew duration).stc.inFlight = some f ∧ f.trigger = .shift ∧ f.start = s.tsc.e)
      ∧ (s.cfg.saveAtShift = true → s.stc.inFlight.isSome = true →
          (s.shiftOpened kind event crew duration).stc = { s.stc with queued := some (s.stc.queued.getD .shift) })
      ∧ (s.shiftOpened kind event crew duration).ntc.conditions.getLsbD 13 = false
      ∧ Appends 9 [.shift event (s.shu.current.number % 65536) crew] s (s.shiftOpened kind event crew duration)
      ∧ NoticesLeft [.queueLevel, .maintDue, .handoverOverdue] s (s.shiftOpened kind event crew duration)
      ∧ (s.shiftOpened kind event crew duration).settled := by
  obtain ⟨⟨units, loss, loss', shu⟩, stc, records, notices, settled⟩ := s.closeRecord_leaves kind event crew duration
  have kept : Unchanged Part.firing s (s.closeRecord kind event crew duration) :=
    closeRecord_unchanged s (List.Subset.refl _) _ _ _ _
  have cfg : (s.closeRecord kind event crew duration).cfg = s.cfg := kept .cfg (by decide)
  have e : (s.closeRecord kind event crew duration).tsc.e = s.tsc.e := (kept .clock (by decide)).2.2.1
  have dsc : (s.closeRecord kind event crew duration).dsc = s.dsc := kept .dsc (by decide)
  have date : (s.closeRecord kind event crew duration).dateNow = s.dateNow := by
    obtain ⟨hs, hn, -⟩ := kept .clock (by decide)
    have he := kept .epoch (by decide)
    simp only [Part.same] at he
    simp only [State.dateNow, State.latch, dateOf, hs, hn, he, dsc]
  rw [State.shiftOpened]
  generalize s.closeRecord kind event crew duration = m at *
  obtain ⟨⟨shu2, evq2, ntc2⟩, ⟨tsc2, dsc2, tlu2, cfg2⟩, begins, queues⟩ := m.requestShiftSave_leaves
  rw [cfg, stc] at begins queues
  rw [e] at begins
  have date2 : m.requestShiftSave.dateNow = s.dateNow := by
    rw [← date]; simp only [State.dateNow, State.latch, tsc2, dsc2]
  generalize m.requestShiftSave = a at *
  obtain ⟨shu3, ⟨evq3, ntc3, stc3⟩, tlu3, cfg3, tsc3⟩ := a.openShift_leaves crew
  rw [shu2, shu, date2, dsc2, dsc] at shu3
  generalize a.openShift crew = b at *
  dsimp only
  generalize hc : b.setCurrent { b.shu.current with loss := m.shu.current.loss } = c
  obtain ⟨shu4, evq4, stc4, condition, notices4⟩ := c.endHandover_leaves
  have shuc : c.shu = { b.shu with current := { b.shu.current with loss := m.shu.current.loss } } := by rw [← hc]; rfl
  have stcc : c.stc = b.stc := by rw [← hc]; rfl
  have evqc : c.evq = b.evq := by rw [← hc]; rfl
  have ntcc : c.ntc = b.ntc := by rw [← hc]; rfl
  refine ⟨⟨units, loss, Vector.replicate 8 ShiftUnit.zero, m.shu.current.loss, ?_⟩, ?_, ?_, condition, ?_, ?_, ?_⟩
  · rw [shu4, shuc, shu3]
    rfl
  · rw [stc4, stcc, stc3]
    exact begins
  · rw [stc4, stcc, stc3]
    exact queues
  · exact records.congr rfl (by rw [evq4, evqc, evq3, evq2])
  · exact (notices.weaken (by decide)).trans ((NoticesLeft.of_eq (by rw [ntcc, ntc3, ntc2])).trans (notices4.weaken (by decide)))
  · exact settled.congr (t := c.endHandover) (show c.tlu = m.tlu by rw [← hc, State.setCurrent_tlu, tlu3, tlu2])
      (show c.cfg = m.cfg by rw [← hc, State.setCurrent_cfg, cfg3, cfg2])
      (show c.tsc.e = m.tsc.e by rw [← hc, State.setCurrent_tsc, tsc3, tsc2])

/-- What a close of the shift leaves (R149, R150). -/
theorem State.closeShift_leaves (s : State) (kind : ShiftKind) (event : ShiftEvent) (crew duration : Nat) :
    ShiftClosed kind crew duration s (s.closeShift kind event crew duration)
      ∧ ShiftSaved s (s.closeShift kind event crew duration)
      ∧ (s.closeShift kind event crew duration).ntc.conditions.getLsbD 13 = false
      ∧ Appends 9 [.shift event (s.shu.current.number % 65536) crew] s (s.closeShift kind event crew duration)
      ∧ NoticesLeft [.queueLevel, .maintDue, .handoverOverdue] s (s.closeShift kind event crew duration) := by
  obtain ⟨closed, begins, queues, condition, records, notices, settled⟩ := s.shiftOpened_leaves kind event crew duration
  rw [State.closeShift_eq]
  generalize s.shiftOpened kind event crew duration = m at *
  obtain ⟨booked, more, quiet, stored⟩ := m.takeSnapshot_leaves
  split
  · rename_i h
    rw [Bool.and_eq_true, Option.isNone_iff_eq_none] at h
    obtain ⟨asked, free⟩ := h
    obtain ⟨f, hf, trigger, start⟩ := begins asked free
    refine ⟨closed.booked booked, ⟨fun _ _ => ⟨_, congrArg StoreController.inFlight (stored f hf), trigger, start, rfl⟩, fun _ h => ?_⟩, ?_, ?_, ?_⟩
    · rw [free] at h; cases h
    · exact (quiet.2 .handoverOverdue (by decide)).trans condition
    · exact records.congr rfl (more settled)
    · exact notices.trans (quiet.weaken (by decide))
  · rename_i h
    rw [Bool.and_eq_true, Option.isNone_iff_eq_none, not_and] at h
    refine ⟨closed, ⟨fun asked free => absurd free (h asked), fun asked busy => ?_⟩, condition,
      records, notices⟩
    rw [queues asked busy]
    exact ⟨rfl, rfl⟩

/-! ### The handover completed (R159) -/

/-- SHU may store release, accept and the trip list only, so what is stored is an open handover's and completes it. -/
theorem State.completeIfReady_leaves {x : ShiftUnitState} (release accept : Bool) (openTrips : List OpenTrip) (overflow : Bool)
    (hx : x = { s.shu with release := release, accept := accept, openTrips := openTrips, overflow := overflow })
    (ready : x.ready = true) :
    ShiftClosed .completed (s.shu.expected.getD 0) s.handoverDuration (s.setShu x) (s.setShu x).completeIfReady
      ∧ ShiftSaved s (s.setShu x).completeIfReady
      ∧ (s.setShu x).completeIfReady.ntc.conditions.getLsbD 13 = false
      ∧ Unchanged (.trips :: Part.firing) s (s.setShu x).completeIfReady := by
  have closes : (s.setShu x).completeIfReady
      = (s.setShu x).closeShift .completed .completed (s.shu.expected.getD 0) s.handoverDuration := by
    have duration : (s.setShu x).handoverDuration = s.handoverDuration := by rw [hx]; rfl
    have expected : (s.setShu x).shu.expected = s.shu.expected := by rw [hx]; rfl
    rw [State.completeIfReady, State.setShu_shu, if_pos ready, duration, ← expected, State.setShu_shu]
  rw [closes]
  obtain ⟨closed, saved, condition, -, -⟩ :=
    (s.setShu x).closeShift_leaves .completed .completed (s.shu.expected.getD 0) s.handoverDuration
  refine ⟨closed, saved, condition, ?_⟩
  refine Unchanged.trans ?_ (closeShift_unchanged _ (List.subset_cons_self _ _) _ _ _ _)
  intro p hp
  rw [hx]
  cases p with
  | handover | trips => exact absurd (by decide) hp
  | _ => simp [Part.same]

/-- Settles O31: the stored flag or list makes the handover ready, and `completeIfReady_leaves` says what its close leaves. -/
theorem lastRequestCompletesTheHandover : Obligations.LastRequestCompletesTheHandover := by
  intro tag crew seq s hr hold small isOpen below h clear opening completed
  have complete {k : Kind} {serve : State → State × Answer} {x : ShiftUnitState} {a : Answer} (ha : s.accepts k)
      (release accept : Bool) (e : serve s = ((s.setShu x).completeIfReady, a))
      (hx : x = { h with release := release, accept := accept, openTrips := [], overflow := false })
      (ready : x.ready = true) :
      ∃ t, (Host.Outcome.next (s.takeRequest k tag serve) : Host.Outcome State Fault Refusal) = .next t ∧ completed t := by
    obtain ⟨⟨units, loss, units', loss', shu⟩, ⟨begins, queues⟩, condition, unchanged⟩ :=
      State.completeIfReady_leaves release accept [] false hx ready
    rw [State.takeRequest_of_serve tag ha e]
    generalize (s.setShu x).completeIfReady = m at *
    have number : ¬ max32 ≤ x.current.number := by rw [hx]; exact Nat.not_le.2 below
    have next : x.nextNumber = h.current.number + 1 := by rw [ShiftUnitState.nextNumber, if_neg number, hx]
    have history (r : ShiftRecord) : x.historyWith r = (r :: h.history).take 16 := by
      rw [ShiftUnitState.historyWith, if_neg number, hx]
      rfl
    have duration : s.handoverDuration = min ((s.tsc.e - opening) / 1000000) 65535 := by
      simp only [State.handoverDuration, opening, h]
      cases s.shu.window <;> rfl
    rw [State.setShu_shu, next, history, duration] at shu
    have answered : (m.answered k.code tag a.result a.body).shu = m.shu := rfl
    refine ⟨_, rfl, ?_⟩
    simp only [completed, answered, shu]
    refine ⟨trivial, trivial, trivial, trivial, trivial, ?_, ?_, ?_, rfl, rfl, rfl, rfl, rfl, rfl, ⟨_, rfl, ?_⟩, condition,
      fun asked free => ?_, fun asked busy => queues asked busy, ?_⟩
    · rw [hx]
    · rw [hx]
    · rw [hx]
    · rw [ShiftUnitState.closed, hx]
      exact ⟨rfl, rfl, rfl, rfl, rfl, rfl, rfl, rfl⟩
    · obtain ⟨f, hf, trigger, start, snapshot⟩ := begins asked free
      refine ⟨f, _, hf, trigger, start, snapshot, ?_, ?_⟩
      · show m.shu.current = _
        rw [shu]
      · show m.shu.history = _
        rw [shu]
    · exact (unchanged.mono (by decide)).trans (sendReply_unchanged m (by decide) _ _ _)
  have accepts {k : Kind} (hs : k.refusedInSave = false) (hh : k.servedInHoldup = false) : s.accepts k :=
    ⟨hr, (State.busy_of_holdupOnly hs hh s).trans hold⟩
  have may (who : crew.toNat = h.current.crew ∨ h.expected = some crew.toNat) : s.shu.mayAcknowledge crew.toNat = true :=
    (s.shu.mayAcknowledge_iff _).2 (who.imp_right fun e => ⟨isOpen, e⟩)
  have ready : ({ h with release := true, accept := true, openTrips := [], overflow := false } : ShiftUnitState).ready = true :=
    (ShiftUnitState.ready_eq_true _).2 ⟨isOpen, rfl, rfl, rfl, rfl⟩
  have cleared (hl : h.release = true) (ha : h.accept = true) :
      ({ h with openTrips := [], overflow := false } : ShiftUnitState).ready = true :=
    (ShiftUnitState.ready_eq_true _).2 ⟨isOpen, hl, ha, rfl, rfl⟩
  refine ⟨fun who hl ha hc => ?_, fun who ha hl hc => ?_, fun who hl ha hv one => ?_, fun who hl ha => ?_⟩
  · obtain ⟨-, -, -, -, set⟩ := serveHrel_cases crew s
    have x : ({ s.shu with release := true } : ShiftUnitState)
        = { h with release := true, accept := true, openTrips := [], overflow := false } := by rw [← ha, ← hc.1, ← hc.2]
    exact complete (accepts (k := .hrel) rfl rfl) true true (set small isOpen who hl) x (x ▸ ready)
  · obtain ⟨-, -, -, -, set⟩ := serveHacc_cases crew s
    have x : ({ s.shu with accept := true } : ShiftUnitState)
        = { h with release := true, accept := true, openTrips := [], overflow := false } := by rw [← hl, ← hc.1, ← hc.2]
    exact complete (accepts (k := .hacc) rfl rfl) true true (set small isOpen who ha) x (x ▸ ready)
  · obtain ⟨-, -, -, removes⟩ := serveTack_cases crew seq s
    obtain ⟨y, hy, hseq⟩ := one
    have x : ({ s.shu with openTrips := [] ++ [] } : ShiftUnitState) = { h with openTrips := [], overflow := false } := by
      rw [← hv]; rfl
    exact complete (accepts (k := .tack) rfl rfl) h.release h.accept
      (removes [] y [] small (may who) hy hseq (fun _ h => nomatch h)) x (x ▸ cleared hl ha)
  · obtain ⟨-, -, removes⟩ := serveTackAll_cases crew s
    exact complete (accepts (k := .tack) rfl rfl) h.release h.accept (removes small (may who)) rfl (cleared hl ha)

end Sys2Proof.Machine

/-! PROOFS. What the fire of an entry leaves (R151 to R156), and what may stand around it without touching it. -/

namespace Sys2Proof.Machine

variable {s t u m : State} {x : ScheduleEntry} {day : Int}

/-! ### A fired entry, apart from its records -/

/-- What `FiringLeaves` says, but for the records. -/
def FiringStands (x : ScheduleEntry) (day : Int) (s t : State) : Prop :=
  let h := s.shu
  let isOpen := h.state ≠ .onShift
  let missed := if isOpen then min (h.current.missed + 1) 255 else h.current.missed
  t.tsc.lastFired = s.tsc.lastFired.filter (fun p => p.1 != x.start) ++ [(x.start, day)]
    ∧ (isOpen → t.ntc.flags.getLsbD 5 = true)
    ∧ (isOpen ∨ x.crew = h.current.crew → t.ntc.conditions.getLsbD 13 = false)
    ∧ (x.crew ≠ h.current.crew →
        t.shu.state = .handover ∧ t.shu.expected = some x.crew ∧ t.shu.accept = false
        ∧ t.shu.release = decide (h.current.crew = 0)
        ∧ t.shu.window = some { opening := t.tsc.e, expiry := t.tsc.e + x.window * 60000000 }
        ∧ t.ntc.flags.getLsbD 4 = true ∧ t.shu.history = h.history
        ∧ t.shu.current.number = h.current.number ∧ t.shu.current.missed = missed)
    ∧ (x.crew = h.current.crew →
        (t.shu.state = .onShift ∧ t.shu.expected = none ∧ t.shu.release = false ∧ t.shu.accept = false
          ∧ t.shu.window = none ∧ t.shu.current.crew = x.crew ∧ t.shu.current.kind = .opened
          ∧ t.shu.current.missed = 0)
        ∧ (h.current.number < max32 → t.shu.current.number = h.current.number + 1
            ∧ ∃ r, t.shu.history = (r :: h.history).take 16 ∧ r.number = h.current.number ∧ r.kind = .self
                ∧ r.crew = x.crew ∧ r.nextCrew = x.crew ∧ r.duration = 0 ∧ r.missed = missed)
        ∧ (max32 ≤ h.current.number → t.shu.current.number = 1 ∧ t.shu.history = [])
        ∧ (s.cfg.saveAtShift = true → s.stc.inFlight = none →
            ∃ f, t.stc.inFlight = some f ∧ f.trigger = .shift ∧ f.start = t.tsc.e)
        ∧ (s.cfg.saveAtShift = true → s.stc.inFlight.isSome = true →
            t.stc.queued = some (s.stc.queued.getD .shift)))

/-- The records of a fired entry: the miss of an open handover, and the judgement (R154 to R156). -/
def State.firingDetails (s : State) (x : ScheduleEntry) : List Detail :=
  (if s.shu.state ≠ .onShift then [.shift .missed (s.shu.current.number % 65536) (s.shu.expected.getD 0)] else [])
    ++ [.shift (if x.crew = s.shu.current.crew then .self else .handoverDue) (s.shu.current.number % 65536) x.crew]

/-- A fired entry whose records all met room. -/
theorem FiringStands.leaves {k : Nat} {ds : List Detail} (h : FiringStands x day s t) (records : Appends k ds s t)
    (all : s.firingDetails x ⊆ ds) (few : k ≤ 19 + s.shu.schedule.length) : FiringLeaves x day s t := by
  obtain ⟨lastFired, missed, condition, opens, closes⟩ := h
  have recorded (event : ShiftEvent) (crew : Nat)
      (hd : Detail.shift event (s.shu.current.number % 65536) crew ∈ s.firingDetails x) (room : s.roomy) :
      ShiftRecorded event crew s t := by
    obtain ⟨len, n, hn, numbers⟩ := room
    exact records.recorded (all hd) hn (by omega) (by omega)
  refine ⟨lastFired, fun isOpen => ⟨missed isOpen, recorded _ _ ?_⟩, condition, fun other => ?_, fun same => ?_⟩
  · exact List.mem_append_left _ (by rw [if_pos isOpen]; exact List.mem_singleton_self _)
  · obtain ⟨h1, h2, h3, h4, h5, h6, h7, h8, h9⟩ := opens other
    refine ⟨h1, h2, h3, h4, h5, h6, h7, h8, h9, recorded _ _ ?_⟩
    exact List.mem_append_right _ (by rw [if_neg other]; exact List.mem_singleton_self _)
  · obtain ⟨⟨h1, h2, h3, h4, h5, h6, h7, h8⟩, below, last, begins, queues⟩ := closes same
    refine ⟨h1, h2, h3, h4, h5, h6, h7, h8, below, last, recorded _ _ ?_, begins, queues⟩
    exact List.mem_append_right _ (by rw [if_pos same]; exact List.mem_singleton_self _)

/-! ### The time scale at a close -/

theorem State.checkpointAll_tsc (s : State) : s.checkpointAll.tsc = s.tsc :=
  (checkpointAll_apart s).tsc_eq (by decide) (by decide) (by decide) (by decide)

theorem State.shiftOpened_tsc (s : State) (kind : ShiftKind) (event : ShiftEvent) (crew duration : Nat) :
    (s.shiftOpened kind event crew duration).tsc = s.tsc := by
  have close : (s.closeRecord kind event crew duration).tsc = s.tsc := by
    simp only [State.closeRecord, State.placeShift]
    rw [State.place_tsc, State.setCurrent_tsc, State.setShu_tsc, State.checkpointAll_tsc]
  rw [State.shiftOpened]
  generalize s.closeRecord kind event crew duration = m at *
  obtain ⟨-, ⟨tsc2, -⟩, -⟩ := m.requestShiftSave_leaves
  obtain ⟨-, -, -, -, tsc3⟩ := m.requestShiftSave.openShift_leaves crew
  rw [← close, ← tsc2, ← tsc3]
  rfl

theorem State.closeShift_tsc (s : State) (kind : ShiftKind) (event : ShiftEvent) (crew duration : Nat) :
    (s.closeShift kind event crew duration).tsc = s.tsc := by
  rw [State.closeShift_eq]
  split
  · rw [State.takeSnapshot, State.setStc_tsc, State.checkpointAll_tsc, State.shiftOpened_tsc]
  · exact s.shiftOpened_tsc kind event crew duration

theorem State.judgeEntry_tsc (s : State) (x : ScheduleEntry) : (s.judgeEntry x).tsc = s.tsc := by
  rw [State.judgeEntry]
  split
  · exact s.closeShift_tsc _ _ _ _
  · exact (s.openHandover_leaves _ _).2.2.2.tsc_eq (by decide) (by decide) (by decide) (by decide)

/-! ### The miss and the judgement (R154 to R156) -/

/-- An open handover is missed (R156). -/
theorem State.missHandover_leaves (s : State) :
    (∃ loss, s.missHandover.shu = { s.shu with
        state := .onShift, expected := none, release := false, accept := false, window := none
        current := { s.shu.current with missed := min (s.shu.current.missed + 1) 255, loss := loss } })
      ∧ s.missHandover.stc = s.stc ∧ s.missHandover.tsc = s.tsc ∧ s.missHandover.cfg = s.cfg
      ∧ Appends 1 [.shift .missed (s.shu.current.number % 65536) (s.shu.expected.getD 0)] s s.missHandover
      ∧ s.missHandover.ntc.flags.getLsbD 5 = true ∧ s.missHandover.ntc.conditions.getLsbD 13 = false := by
  obtain ⟨loss, shu⟩ := s.place_shu { detail := .shift .missed (low16 s.shu.current.number) (s.shu.expected.getD 0) }
  have record := Appends.place s { detail := .shift .missed (low16 s.shu.current.number) (s.shu.expected.getD 0) }
  have stc := s.place_stc { detail := .shift .missed (low16 s.shu.current.number) (s.shu.expected.getD 0) }
  have tsc := s.place_tsc { detail := .shift .missed (low16 s.shu.current.number) (s.shu.expected.getD 0) }
  have cfg := s.place_cfg { detail := .shift .missed (low16 s.shu.current.number) (s.shu.expected.getD 0) }
  simp only [State.missHandover, State.placeShift]
  generalize s.place { detail := .shift .missed (low16 s.shu.current.number) (s.shu.expected.getD 0) } = p at *
  generalize hm : (p.raise .handoverMissed).setCurrent
    { (p.raise .handoverMissed).shu.current with missed := satAdd (p.raise .handoverMissed).shu.current.missed 1 255 } = m
  have shum : m.shu = { p.shu with current := { p.shu.current with missed := satAdd p.shu.current.missed 1 255 } } := by
    rw [← hm]; rfl
  have flag : m.ntc.flags.getLsbD Notice.handoverMissed.index = true := by
    rw [← hm]
    exact (NoticeUnit.raise_flag _ .handoverMissed .handoverMissed _).trans (Bool.or_true _)
  obtain ⟨shue, evq, stce, condition, notices⟩ := m.endHandover_leaves
  refine ⟨⟨loss, ?_⟩, ?_, ?_, ?_, ?_, notices.1 .handoverMissed flag, condition⟩
  · rw [shue, shum, shu]
    rfl
  · rw [stce, ← hm, ← stc]; rfl
  · rw [← tsc]
    show m.tsc = p.tsc
    rw [← hm]; rfl
  · rw [← cfg]
    show m.cfg = p.cfg
    rw [← hm]; rfl
  · exact record.congr rfl (by rw [evq, ← hm]; rfl)

theorem NoticesLeft.openHandover (s : State) (crew window : Nat) : NoticesLeft [.queueLevel] s (s.openHandover crew window) := by
  simp only [State.openHandover, State.placeShift]
  exact (((NoticesLeft.of_eq (State.setShu_ntc s _)).trans (.place (by decide) _ _)).trans (.raise _ _)).trans
    (.of_eq (State.setShu_ntc _ _))

/-- The judgement of an entry in a state whose handover, if one was open, has been missed. -/
theorem State.judgeEntry_leaves (s : State) (x : ScheduleEntry) :
    Appends 9 [.shift (if x.crew = s.shu.current.crew then .self else .handoverDue) (s.shu.current.number % 65536) x.crew] s
        (s.judgeEntry x)
      ∧ NoticesLeft [.queueLevel, .maintDue, .handoverOverdue] s (s.judgeEntry x)
      ∧ (x.crew ≠ s.shu.current.crew → (s.judgeEntry x).ntc.conditions.getLsbD 13 = s.ntc.conditions.getLsbD 13
        ∧ (s.judgeEntry x).ntc.flags.getLsbD 4 = true
        ∧ ∃ loss, (s.judgeEntry x).shu = { s.shu with
            state := .handover, expected := some x.crew, release := decide (s.shu.current.crew = 0), accept := false
            window := some { opening := s.tsc.e, expiry := s.tsc.e + x.window * 60000000 }
            current := { s.shu.current with loss := loss } })
      ∧ (x.crew = s.shu.current.crew → ShiftClosed .self x.crew 0 s (s.judgeEntry x) ∧ ShiftSaved s (s.judgeEntry x)
          ∧ (s.judgeEntry x).ntc.conditions.getLsbD 13 = false) := by
  by_cases same : x.crew = s.shu.current.crew
  · have judged : s.judgeEntry x = s.closeShift .self .self x.crew 0 := if_pos same
    obtain ⟨closed, saved, condition, records, notices⟩ := s.closeShift_leaves .self .self x.crew 0
    rw [judged, if_pos same]
    exact ⟨records, notices, fun other => absurd same other, fun _ => ⟨closed, saved, condition⟩⟩
  · have judged : s.judgeEntry x = s.openHandover x.crew x.window := if_neg same
    obtain ⟨shu, evq, flag, -⟩ := s.openHandover_leaves x.crew x.window
    have notices := NoticesLeft.openHandover s x.crew x.window
    rw [judged, if_neg same]
    refine ⟨?_, notices.weaken (by decide), fun _ => ⟨notices.2 .handoverOverdue (by decide), flag, shu⟩,
      fun h => absurd h same⟩
    exact ((Appends.place s _).mono (by decide) (List.Subset.refl _)).congr rfl evq

/-- Of the time scale, a fired entry writes the last-fired pairs alone (R15). -/
theorem State.fireEntry_tsc (s : State) (x : ScheduleEntry) (day : Int) :
    (s.fireEntry x day).tsc = { s.tsc with lastFired := fired s.tsc.lastFired x.start day } := by
  simp only [State.fireEntry]
  split
  · rw [State.judgeEntry_tsc, State.setTsc_tsc]
  · obtain ⟨-, -, tsc, -⟩ :=
      (s.setTsc { s.tsc with lastFired := fired s.tsc.lastFired x.start day }).missHandover_leaves
    rw [State.judgeEntry_tsc, tsc, State.setTsc_tsc]

/-- A state in which an entry is judged: that of `s`, with the miss of an open handover counted. -/
def Judging (missed : Nat) (s m : State) : Prop :=
  (∃ state expected release accept window loss, m.shu = { s.shu with
      state := state, expected := expected, release := release, accept := accept, window := window
      current := { s.shu.current with missed := missed, loss := loss } })
    ∧ m.stc = s.stc ∧ m.cfg = s.cfg ∧ m.tsc.e = s.tsc.e

/-- The two ways of a judged entry: a handover to another crew, and the close of a shift that goes on (R154, R155). -/
theorem Judging.leaves {missed : Nat} (h : Judging missed s m) (x : ScheduleEntry) :
    (x.crew ≠ s.shu.current.crew →
        (m.judgeEntry x).shu.state = .handover ∧ (m.judgeEntry x).shu.expected = some x.crew
        ∧ (m.judgeEntry x).shu.accept = false ∧ (m.judgeEntry x).shu.release = decide (s.shu.current.crew = 0)
        ∧ (m.judgeEntry x).shu.window = some { opening := s.tsc.e, expiry := s.tsc.e + x.window * 60000000 }
        ∧ (m.judgeEntry x).ntc.flags.getLsbD 4 = true ∧ (m.judgeEntry x).shu.history = s.shu.history
        ∧ (m.judgeEntry x).shu.current.number = s.shu.current.number ∧ (m.judgeEntry x).shu.current.missed = missed)
    ∧ (x.crew = s.shu.current.crew →
        ((m.judgeEntry x).shu.state = .onShift ∧ (m.judgeEntry x).shu.expected = none
          ∧ (m.judgeEntry x).shu.release = false ∧ (m.judgeEntry x).shu.accept = false
          ∧ (m.judgeEntry x).shu.window = none ∧ (m.judgeEntry x).shu.current.crew = x.crew
          ∧ (m.judgeEntry x).shu.current.kind = .opened ∧ (m.judgeEntry x).shu.current.missed = 0)
        ∧ (s.shu.current.number < max32 → (m.judgeEntry x).shu.current.number = s.shu.current.number + 1
            ∧ ∃ r, (m.judgeEntry x).shu.history = (r :: s.shu.history).take 16 ∧ r.number = s.shu.current.number
                ∧ r.kind = .self ∧ r.crew = x.crew ∧ r.nextCrew = x.crew ∧ r.duration = 0 ∧ r.missed = missed)
        ∧ (max32 ≤ s.shu.current.number → (m.judgeEntry x).shu.current.number = 1 ∧ (m.judgeEntry x).shu.history = [])
        ∧ (s.cfg.saveAtShift = true → s.stc.inFlight = none →
            ∃ f, (m.judgeEntry x).stc.inFlight = some f ∧ f.trigger = .shift ∧ f.start = s.tsc.e)
        ∧ (s.cfg.saveAtShift = true → s.stc.inFlight.isSome = true →
            (m.judgeEntry x).stc.queued = some (s.stc.queued.getD .shift))) := by
  obtain ⟨⟨state, expected, release, accept, window, loss, shu⟩, stc, cfg, e⟩ := h
  obtain ⟨-, -, opens, closes⟩ := m.judgeEntry_leaves x
  have crew : m.shu.current.crew = s.shu.current.crew := by rw [shu]
  have number : m.shu.current.number = s.shu.current.number := by rw [shu]
  rw [crew] at opens closes
  refine ⟨fun other => ?_, fun same => ?_⟩
  · obtain ⟨-, flag, loss', shut⟩ := opens other
    rw [shut, shu, e]
    exact ⟨rfl, rfl, rfl, rfl, rfl, flag, rfl, rfl, rfl⟩
  · obtain ⟨⟨units, loss, units', loss', shut⟩, ⟨begins, queues⟩, -⟩ := closes same
    rw [cfg, stc] at begins queues
    rw [e] at begins
    refine ⟨?_, fun below => ?_, fun last => ?_, fun asked free => ?_, fun asked busy => (queues asked busy).2⟩
    · rw [shut]
      exact ⟨rfl, rfl, rfl, rfl, rfl, rfl, rfl, rfl⟩
    · have before : ¬ max32 ≤ m.shu.current.number := by rw [number]; exact Nat.not_le.2 below
      rw [shut, ShiftUnitState.historyWith, if_neg before, ShiftUnitState.nextNumber, if_neg before, shu]
      exact ⟨rfl, _, rfl, rfl, rfl, same.symm, rfl, rfl, rfl⟩
    · have full : max32 ≤ m.shu.current.number := by rw [number]; exact last
      rw [shut, ShiftUnitState.historyWith, if_pos full, ShiftUnitState.nextNumber, if_pos full]
      exact ⟨rfl, rfl⟩
    · obtain ⟨f, hf, trigger, start, -⟩ := begins asked free
      exact ⟨f, hf, trigger, start⟩

/-- An entry fires: what stands after it, and its records (R151, R152). -/
theorem State.fireEntry_leaves (s : State) (x : ScheduleEntry) (day : Int) :
    FiringStands x day s (s.fireEntry x day) ∧ Appends 10 (s.firingDetails x) s (s.fireEntry x day) := by
  simp only [State.fireEntry]
  generalize hf : s.setTsc { s.tsc with lastFired := fired s.tsc.lastFired x.start day } = f
  have shuf : f.shu = s.shu := by rw [← hf]; rfl
  have evqf : f.evq = s.evq := by rw [← hf]; rfl
  have firedf : f.tsc.lastFired = s.tsc.lastFired.filter (fun p => p.1 != x.start) ++ [(x.start, day)] := by rw [← hf]; rfl
  have tscf : f.tsc.e = s.tsc.e := by rw [← hf]; rfl
  have stcf : f.stc = s.stc := by rw [← hf]; rfl
  have cfgf : f.cfg = s.cfg := by rw [← hf]; rfl
  by_cases onShift : f.shu.state = .onShift
  · have closed : s.shu.state = .onShift := shuf ▸ onShift
    have judging : Judging s.shu.current.missed s f := ⟨⟨_, _, _, _, _, s.shu.current.loss, shuf⟩, stcf, cfgf, tscf⟩
    obtain ⟨opens, closes⟩ := judging.leaves x
    obtain ⟨records, -, -, condition⟩ := f.judgeEntry_leaves x
    rw [shuf] at records condition
    rw [if_pos onShift]
    refine ⟨⟨?_, fun h => absurd closed h, fun h => ?_, ?_, ?_⟩, ?_⟩
    · rw [State.judgeEntry_tsc, firedf]
    · exact (condition (h.resolve_left (not_not_intro closed))).2.2
    · rw [State.judgeEntry_tsc, tscf, if_neg (not_not_intro closed)]
      exact opens
    · rw [State.judgeEntry_tsc, tscf, if_neg (not_not_intro closed)]
      exact closes
    · rw [State.firingDetails, if_neg (not_not_intro closed)]
      exact (records.mono (by decide) (List.Subset.refl _)).congr evqf.symm rfl
  · have isOpen : s.shu.state ≠ .onShift := shuf ▸ onShift
    obtain ⟨⟨loss, shu⟩, stc, tsc, cfg, miss, flag, off⟩ := f.missHandover_leaves
    rw [if_neg onShift]
    generalize f.missHandover = m at *
    rw [shuf] at shu miss
    have judging : Judging (min (s.shu.current.missed + 1) 255) s m :=
      ⟨⟨_, _, _, _, _, loss, shu⟩, stc.trans stcf, cfg.trans cfgf, by rw [tsc, tscf]⟩
    obtain ⟨opens, closes⟩ := judging.leaves x
    obtain ⟨records, notices, handover, self⟩ := m.judgeEntry_leaves x
    have crew : m.shu.current.crew = s.shu.current.crew := by rw [shu]
    have number : m.shu.current.number = s.shu.current.number := by rw [shu]
    rw [crew] at records handover self
    rw [number] at records
    refine ⟨⟨?_, fun _ => notices.1 .handoverMissed flag, fun _ => ?_, ?_, ?_⟩, ?_⟩
    · rw [State.judgeEntry_tsc, tsc, firedf]
    · by_cases same : x.crew = s.shu.current.crew
      · exact (self same).2.2
      · exact (handover same).1.trans off
    · rw [State.judgeEntry_tsc, tsc, tscf, if_pos isOpen]
      exact opens
    · rw [State.judgeEntry_tsc, tsc, tscf, if_pos isOpen]
      exact closes
    · rw [State.firingDetails, if_pos isOpen]
      exact (miss.congr evqf.symm rfl).trans records

end Sys2Proof.Machine

/-! PROOFS. The reports of the minute tracker: what a MINUTE and a JUMP fire (R12, R13, R151, R152), whatever is done before and
after that touches neither the handover nor the schedule. -/

namespace Sys2Proof.Machine

variable {s t u m : State} {x : ScheduleEntry} {day : Int} {k l : Nat}

/-! ### Changes that fire nothing -/

/-- Every notice but the one that a handover's end clears. -/
def Notice.others : List Notice :=
  [.trip, .queueLoss, .refChange, .disciplineChange, .handoverDue, .handoverMissed, .chatter, .storeFail, .restarted, .queueLevel,
    .maintDue, .discrepancy, .supplyLow]

/-- A change that fires nothing and touches neither the handover, the history nor a save; it may count and record. -/
def Aside (k : Nat) (s t : State) : Prop :=
  (∃ c : ShiftRecord, t.shu = { s.shu with current := c } ∧ c.number = s.shu.current.number ∧ c.crew = s.shu.current.crew
      ∧ c.missed = s.shu.current.missed ∧ c.kind = s.shu.current.kind)
    ∧ t.tsc.lastFired = s.tsc.lastFired ∧ (t.stc = s.stc ∧ t.cfg.saveAtShift = s.cfg.saveAtShift)
    ∧ Appends k [] s t ∧ NoticesLeft Notice.others s t

theorem Aside.trans (h : Aside k s t) (h' : Aside l t u) : Aside (k + l) s u := by
  obtain ⟨⟨c, shu, number, crew, missed, kind⟩, fired, ⟨stc, save⟩, records, notices⟩ := h
  obtain ⟨⟨c', shu', number', crew', missed', kind'⟩, fired', ⟨stc', save'⟩, records', notices'⟩ := h'
  rw [shu] at shu' number' crew' missed' kind'
  exact ⟨⟨c', shu', number'.trans number, crew'.trans crew, missed'.trans missed, kind'.trans kind⟩, fired'.trans fired,
    ⟨stc'.trans stc, save'.trans save⟩, records.trans records', notices.trans notices'⟩

theorem Aside.mono (h : Aside k s t) (hk : k ≤ l) : Aside l s t := by
  obtain ⟨shu, fired, stc, records, notices⟩ := h
  exact ⟨shu, fired, stc, records.mono hk (List.Subset.refl _), notices⟩

/-- A change of the blocks that no firing reads. -/
theorem Aside.of_blocks (shu : t.shu = s.shu) (fired : t.tsc.lastFired = s.tsc.lastFired) (stc : t.stc = s.stc)
    (save : t.cfg.saveAtShift = s.cfg.saveAtShift) (evq : t.evq = s.evq) (ntc : t.ntc = s.ntc) : Aside 0 s t :=
  ⟨⟨s.shu.current, shu, rfl, rfl, rfl, rfl⟩, fired, ⟨stc, save⟩, .of_eq evq, .of_eq ntc⟩

theorem Aside.refl (s : State) : Aside 0 s s := .of_blocks rfl rfl rfl rfl rfl rfl

theorem Aside.place (s : State) (p : Placement) : Aside 1 s (s.place p) := by
  obtain ⟨loss, shu⟩ := s.place_shu p
  refine ⟨⟨_, shu, rfl, rfl, rfl, rfl⟩, by rw [State.place_tsc], ⟨by rw [State.place_stc], by rw [State.place_cfg]⟩,
    (Appends.place s p).mono (Nat.le_refl _) (List.nil_subset _), .place (by decide) s p⟩

theorem Aside.raise (s : State) (w : Notice) : Aside 0 s (s.raise w) :=
  ⟨⟨s.shu.current, rfl, rfl, rfl, rfl, rfl⟩, rfl, ⟨rfl, rfl⟩, .of_eq rfl, .raise s w⟩

theorem Aside.evalClass (s : State) : Aside 0 s s.evalClass := by
  obtain ⟨worst, e⟩ := s.evalClass_eq
  rw [e]
  exact ⟨⟨{ s.shu.current with worstClass := worst }, rfl, rfl, rfl, rfl, rfl⟩, rfl, ⟨rfl, rfl⟩, .of_eq rfl, .of_eq rfl⟩

/-! ### A firing with such changes around it -/

/-- Nothing has fired when all changes are such. -/
theorem Aside.nothingFires (h : Aside k s t) : NothingFires s t := by
  obtain ⟨⟨c, shu, number, -⟩, fired, -⟩ := h
  refine ⟨fired, ?_, ?_, ?_⟩
  · simp only [Part.same, shu, and_self]
  · rw [shu]
  · rw [shu]; exact number

theorem Aside.firingDetails (h : Aside k s m) (x : ScheduleEntry) : m.firingDetails x = s.firingDetails x := by
  obtain ⟨⟨c, shu, number, crew, -⟩, -⟩ := h
  rw [State.firingDetails, State.firingDetails, shu, number, crew]

theorem FiringStands.after (h : Aside k s m) (f : FiringStands x day m t) : FiringStands x day s t := by
  obtain ⟨⟨c, shu, number, crew, missed, kind⟩, fired, ⟨stc, save⟩, -, -⟩ := h
  unfold FiringStands at f ⊢
  rw [shu, fired, stc, save] at f
  dsimp only at f ⊢
  rw [number, crew, missed] at f
  exact f

theorem FiringStands.before (f : FiringStands x day s m) (h : Aside k m t) (e : t.tsc.e = m.tsc.e) : FiringStands x day s t := by
  obtain ⟨⟨c, shu, number, crew, missed, kind⟩, fired, ⟨stc, -⟩, -, flags, conditions⟩ := h
  obtain ⟨lastFired, miss, condition, opens, closes⟩ := f
  unfold FiringStands
  rw [fired, shu, stc, e]
  dsimp only
  rw [number, crew, missed, kind]
  refine ⟨lastFired, fun h => flags .handoverMissed (miss h), fun h => ?_, fun h => ?_, closes⟩
  · exact (conditions .handoverOverdue (by decide)).trans (condition h)
  · obtain ⟨h1, h2, h3, h4, h5, h6, h7⟩ := opens h
    exact ⟨h1, h2, h3, h4, h5, flags .handoverDue h6, h7⟩

/-- An entry fires with such changes before and after. -/
theorem State.fireEntry_around (before : Aside k s m) (after : Aside l (m.fireEntry x day) t)
    (e : t.tsc.e = (m.fireEntry x day).tsc.e) :
    FiringStands x day s t ∧ Appends (k + 10 + l) (s.firingDetails x) s t := by
  obtain ⟨stands, records⟩ := m.fireEntry_leaves x day
  refine ⟨(stands.before after e).after before, ?_⟩
  rw [before.firingDetails] at records
  have all := ((before.2.2.2.1).trans records).trans after.2.2.2.1
  exact all.mono (Nat.le_refl _) (by simp)

/-- The local minute is its count. -/
theorem LocalMinute.count_ofCount (c : Int) : (LocalMinute.ofCount c).count = c := by
  simp only [LocalMinute.count, LocalMinute.ofCount]; omega

/-! ### A MINUTE report (R12, R151) -/

/-- Which entry a MINUTE report fires, if one does. -/
theorem State.minuteReport_cases (s : State) (m : LocalMinute) :
    ((∀ x ∈ s.shu.schedule, x.start ≠ m.minute) ∨ (m.minute, m.day) ∈ s.tsc.lastFired → s.minuteReport m = s)
    ∧ ∀ before x after, s.shu.schedule = before ++ x :: after → x.start = m.minute → (∀ y ∈ before, y.start ≠ m.minute) →
        (m.minute, m.day) ∉ s.tsc.lastFired → s.minuteReport m = s.fireEntry x m.day := by
  rw [State.minuteReport]
  refine ⟨fun h => ?_, fun before x after hs hx hb hf => ?_⟩
  · split
    · rfl
    · rename_i x hx
      have found := List.find?_some hx
      rcases h with h | h
      · exact absurd (beq_iff_eq.1 found) (h x (List.mem_of_find?_eq_some hx))
      · exact if_pos (List.contains_iff_mem.2 h)
  · have found : s.shu.schedule.find? (fun x => x.start == m.minute) = some x := by
      rw [hs, List.find?_append, List.find?_eq_none.2 (fun y hy => by simpa using hb y hy), List.find?_cons_of_pos (by simpa using hx)]
      rfl
    rw [found]
    exact if_neg (mt List.contains_iff_mem.1 hf)

/-- The minute tracker at a second boundary, with changes around it that fire nothing (R12, R151). -/
theorem State.trackAdvance_leaves (before : Aside k s m) (tracker : m.tsc.tracker = s.tsc.tracker) (few : k ≤ 9) :
    AdvanceLeaves m.localMinute.count s m.trackAdvance := by
  have local' : m.localMinute = { day := m.localMinute.count / 1440, minute := (m.localMinute.count % 1440).toNat } := by
    rw [State.localMinute, LocalMinute.count_ofCount]; rfl
  have quiet : NothingFires s m := before.nothingFires
  have set (v : Option LocalMinute) : Aside k s (m.setTracker v) := before.trans (.of_blocks rfl rfl rfl rfl rfl rfl)
  rw [AdvanceLeaves, State.trackAdvance, tracker]
  cases hr : s.tsc.tracker with
  | none => exact ⟨tracker.trans hr, quiet⟩
  | some r =>
    dsimp only
    refine ⟨fun h => ?_, fun h => ?_, fun h => ?_⟩
    · rw [if_neg (by omega), if_neg (by omega)]
      exact ⟨tracker.trans hr, quiet⟩
    · rw [if_neg (by omega), if_pos h]
      exact ⟨congrArg some local', (set _).nothingFires⟩
    · rw [if_pos h]
      obtain ⟨none, fires⟩ := (m.setTracker (some m.localMinute)).minuteReport_cases m.localMinute
      have schedule : (m.setTracker (some m.localMinute)).shu.schedule = s.shu.schedule := by
        obtain ⟨c, shu, -⟩ := before.1
        rw [State.setTracker_shu, shu]
      have lastFired : (m.setTracker (some m.localMinute)).tsc.lastFired = s.tsc.lastFired := (set _).2.1
      rw [schedule, lastFired] at none fires
      have minute : m.localMinute.minute = (m.localMinute.count % 1440).toNat := congrArg LocalMinute.minute local'
      have day : m.localMinute.day = m.localMinute.count / 1440 := congrArg LocalMinute.day local'
      have kept : ((m.setTracker (some m.localMinute)).minuteReport m.localMinute).tsc.tracker = some m.localMinute := by
        rw [State.minuteReport]
        split
        · rfl
        · split
          · rfl
          · exact congrArg TimeScale.tracker (State.fireEntry_tsc _ _ _)
      refine ⟨kept.trans (congrArg some local'), fun h => ?_, fun bs x as hs hx hb hf => ?_⟩
      · rw [none (by rw [minute, day]; exact h)]
        exact (set _).nothingFires
      · rw [fires bs x as hs (by rw [minute]; exact hx) (by rw [minute]; exact hb) (by rw [minute, day]; exact hf), ← day]
        obtain ⟨stands, records⟩ := State.fireEntry_around (x := x) (day := m.localMinute.day) (set (some m.localMinute))
          (Aside.refl _) rfl
        exact stands.leaves records (List.Subset.refl _) (by omega)

/-! ### A JUMP report (R13, R152) -/

/-- The order of the entries in a skipped interval. -/
abbrev placedBefore (p q : Int × ScheduleEntry) : Prop := p.1 ≤ q.1

theorem insertAt_eq (p : Int × ScheduleEntry) : ∀ qs, insertAt p qs = qs.orderedInsert placedBefore p
  | [] => rfl
  | q :: qs => by rw [insertAt, List.orderedInsert_cons, insertAt_eq p qs]

theorem foldr_insertAt_eq : ∀ ps : List (Int × ScheduleEntry), ps.foldr insertAt [] = ps.insertionSort placedBefore
  | [] => rfl
  | p :: ps => by rw [List.foldr_cons, foldr_insertAt_eq ps, insertAt_eq, List.insertionSort_cons]

/-- The entries that a skipped interval reaches (R152). -/
theorem State.mem_reached (s : State) (first last : Int) (p : Int × ScheduleEntry) : p ∈ s.reached first last ↔
    ∃ x ∈ s.shu.schedule, p = (x.at' first, x) ∧ x.at' first ≤ last ∧ (x.start, x.at' first / 1440) ∉ s.tsc.lastFired := by
  rw [State.reached, foldr_insertAt_eq, List.mem_insertionSort, List.mem_filter, List.mem_map]
  simp only [Bool.and_eq_true, decide_eq_true_eq, Bool.not_eq_true', List.contains_eq_mem, decide_eq_false_iff_not,
    LocalMinute.ofCount]
  constructor
  · rintro ⟨⟨x, hx, rfl⟩, hl, hf⟩
    exact ⟨x, hx, rfl, hl, hf⟩
  · rintro ⟨x, hx, rfl, hl, hf⟩
    exact ⟨⟨x, hx, rfl⟩, hl, hf⟩

/-- They stand in the order of their places. -/
theorem State.reached_sorted (s : State) (first last : Int) : (s.reached first last).Pairwise placedBefore := by
  have : Std.Total placedBefore := ⟨fun p q => Int.le_total p.1 q.1⟩
  have : IsTrans (Int × ScheduleEntry) placedBefore := ⟨fun p q r => Int.le_trans⟩
  rw [State.reached, foldr_insertAt_eq]
  exact List.pairwise_insertionSort _ _

theorem State.reached_length (s : State) (first last : Int) : (s.reached first last).length ≤ s.shu.schedule.length := by
  rw [State.reached, foldr_insertAt_eq, List.length_insertionSort]
  exact (List.length_filter_le _ _).trans (List.length_map _).le

/-- The SKIPPED records of the entries passed over (R152). -/
theorem State.skip_leaves : ∀ (qs : List (Int × ScheduleEntry)) (s : State),
    Aside qs.length s (forAll qs (fun q acc => acc.placeShift .skipped q.2.crew) s)
      ∧ Appends qs.length (qs.map (fun q => Detail.shift .skipped (s.shu.current.number % 65536) q.2.crew)) s
          (forAll qs (fun q acc => acc.placeShift .skipped q.2.crew) s)
      ∧ (forAll qs (fun q acc => acc.placeShift .skipped q.2.crew) s).tsc = s.tsc
  | [], s => ⟨.refl s, .of_eq rfl, rfl⟩
  | q :: qs, s => by
    obtain ⟨quiet, records, tsc⟩ := State.skip_leaves qs (s.placeShift .skipped q.2.crew)
    have first : Aside 1 s (s.placeShift .skipped q.2.crew) := .place s _
    have record : Appends 1 [.shift .skipped (s.shu.current.number % 65536) q.2.crew] s (s.placeShift .skipped q.2.crew) :=
      .place s _
    have number : (s.placeShift .skipped q.2.crew).shu.current.number = s.shu.current.number := by
      obtain ⟨c, shu, number, -⟩ := first.1
      rw [shu]; exact number
    rw [number] at records
    rw [forAll_cons, List.length_cons, Nat.add_comm]
    exact ⟨first.trans quiet, record.trans records, tsc.trans (State.place_tsc _ _)⟩

/-- What a JUMP report fires: nothing, or the latest entry reached, after the SKIPPED records of the others (R152). -/
theorem State.jumpReport_cases (s : State) (first last : Int) :
    (s.reached first last = [] → s.jumpReport first last = s)
    ∧ ∀ ps p, s.reached first last = ps ++ [p] → s.jumpReport first last =
        (forAll ps (fun q acc => acc.placeShift .skipped q.2.crew) s).fireEntry p.2 (p.1 / 1440) := by
  rw [State.jumpReport]
  refine ⟨fun h => by rw [h]; rfl, fun ps p h => ?_⟩
  rw [h]
  simp only [List.getLast?_append, List.getLast?_singleton, Option.some_or, List.dropLast_concat]
  rfl

/-- The tracker after a JUMP report is as before it. -/
theorem State.jumpReport_tracker (s : State) (first last : Int) : (s.jumpReport first last).tsc.tracker = s.tsc.tracker := by
  rw [State.jumpReport]
  split
  · rfl
  · obtain ⟨-, -, tsc⟩ := State.skip_leaves (s.reached first last).dropLast s
    rw [State.fireEntry_tsc, tsc]

/-- A JUMP report, with changes around it that fire nothing. -/
theorem State.jumpReport_leaves {first last : Int} (before : Aside k s m) (after : Aside l (m.jumpReport first last) t)
    (e : t.tsc.e = (m.jumpReport first last).tsc.e) (few : k + l ≤ 10) :
    let place (x : ScheduleEntry) : Int := first + ((x.start : Int) - first) % 1440
    let reached (x : ScheduleEntry) : Prop :=
      x ∈ s.shu.schedule ∧ place x ≤ last ∧ (x.start, place x / 1440) ∉ s.tsc.lastFired
    ((∀ x, ¬ reached x) → NothingFires s t)
    ∧ ∀ y, reached y → ∃ x, reached x ∧ (∀ z, reached z → place z ≤ place x) ∧ FiringLeaves x (place x / 1440) s t
        ∧ (s.roomy → ∀ z, reached z → z ≠ x → ShiftRecorded .skipped z.crew s t) := by
  intro place reached
  obtain ⟨c, shu, number, -⟩ := before.1
  have schedule : m.shu.schedule = s.shu.schedule := by rw [shu]
  have numberm : m.shu.current.number = s.shu.current.number := by rw [shu]; exact number
  have mem (p : Int × ScheduleEntry) : p ∈ m.reached first last ↔ ∃ x, p = (place x, x) ∧ reached x := by
    rw [State.mem_reached, schedule, before.2.1]
    exact ⟨fun ⟨x, hx, hp, hl, hf⟩ => ⟨x, hp, hx, hl, hf⟩, fun ⟨x, hp, hx, hl, hf⟩ => ⟨x, hx, hp, hl, hf⟩⟩
  obtain ⟨nothing, fires⟩ := m.jumpReport_cases first last
  refine ⟨fun none => ?_, fun y hy => ?_⟩
  · have empty : m.reached first last = [] :=
      List.eq_nil_iff_forall_not_mem.2 fun p hp => by
        obtain ⟨x, -, hx⟩ := (mem p).1 hp
        exact none x hx
    rw [nothing empty] at after
    exact (before.trans after).nothingFires
  · have some' : m.reached first last ≠ [] := List.ne_nil_of_mem ((mem (place y, y)).2 ⟨y, rfl, hy⟩)
    obtain ⟨ps, p, split⟩ : ∃ ps p, m.reached first last = ps ++ [p] :=
      ⟨_, _, (List.dropLast_append_getLast some').symm⟩
    obtain ⟨x, hp, hx⟩ := (mem p).1 (by rw [split]; exact List.mem_append_right _ (List.mem_singleton_self p))
    have length := m.reached_length first last
    rw [split, List.length_append, List.length_singleton, schedule] at length
    rw [fires ps p split, hp] at after e
    obtain ⟨quiet, skipped, -⟩ := State.skip_leaves ps m
    rw [numberm] at skipped
    generalize forAll ps (fun q acc => acc.placeShift .skipped q.2.crew) m = f at *
    obtain ⟨stands, records⟩ := State.fireEntry_around (x := x) (before.trans quiet) after e
    have few' : k + ps.length + 10 + l ≤ 19 + s.shu.schedule.length := by omega
    refine ⟨x, hx, fun z hz => ?_, stands.leaves records (List.Subset.refl _) few', fun room z hz other => ?_⟩
    · have sorted := m.reached_sorted first last
      rw [split, List.pairwise_append] at sorted
      have hz' := (mem (place z, z)).2 ⟨z, rfl, hz⟩
      rw [split, List.mem_append, List.mem_singleton, hp] at hz'
      rcases hz' with h | h
      · exact (sorted.2.2 _ h p (List.mem_singleton_self p)).trans (by rw [hp])
      · exact le_of_eq (congrArg Prod.fst h)
    · have hz' := (mem (place z, z)).2 ⟨z, rfl, hz⟩
      rw [split, List.mem_append, List.mem_singleton, hp] at hz'
      have inside : (place z, z) ∈ ps := hz'.resolve_right fun h => other (congrArg Prod.snd h)
      have all := ((before.2.2.2.1.trans skipped).trans (f.fireEntry_leaves x (place x / 1440)).2).trans after.2.2.2.1
      obtain ⟨len, n, hn, numbers⟩ := room
      have placed : Detail.shift .skipped (s.shu.current.number % 65536) z.crew
          ∈ ps.map (fun q => Detail.shift .skipped (s.shu.current.number % 65536) q.2.crew) :=
        List.mem_map.2 ⟨_, inside, rfl⟩
      exact all.recorded (List.mem_append_left _ (List.mem_append_left _ (List.mem_append_right _ placed))) hn (by omega) (by omega)

/-! ### A move of the local minute (R13) -/

/-- The minute tracker at a move of the local minute, with changes around it that fire nothing. -/
theorem State.trackChange_leaves {held : Bool} {old : Int} (before : Aside k s m) (tracker : m.tsc.tracker = s.tsc.tracker)
    (after : Aside l (m.trackChange held (LocalMinute.ofCount old)) t)
    (tracker' : t.tsc.tracker = (m.trackChange held (LocalMinute.ofCount old)).tsc.tracker)
    (e : t.tsc.e = (m.trackChange held (LocalMinute.ofCount old)).tsc.e) (few : k + l ≤ 10) :
    MoveLeaves held old m.localMinute.count s t := by
  have same : m.localMinute = LocalMinute.ofCount old ↔ m.localMinute.count = old := by
    rw [State.localMinute, LocalMinute.count_ofCount]
    refine ⟨fun h => ?_, fun h => by rw [h]⟩
    have counts := congrArg LocalMinute.count h
    rwa [LocalMinute.count_ofCount, LocalMinute.count_ofCount] at counts
  have local' : m.localMinute = { day := m.localMinute.count / 1440, minute := (m.localMinute.count % 1440).toNat } := by
    rw [State.localMinute, LocalMinute.count_ofCount]; rfl
  have set (v : Option LocalMinute) : Aside k s (m.setTracker v) := before.trans (.of_blocks rfl rfl rfl rfl rfl rfl)
  rw [MoveLeaves]
  rw [State.trackChange] at after tracker' e
  by_cases still : m.localMinute = LocalMinute.ofCount old
  · rw [if_pos still] at after tracker'
    have quiet := (before.trans after).nothingFires
    cases hr : s.tsc.tracker with
    | none => exact ⟨tracker'.trans (tracker.trans hr), quiet⟩
    | some r =>
      have stays := same.1 still
      dsimp only
      exact ⟨fun _ => ⟨tracker'.trans (tracker.trans hr), quiet⟩, fun h => absurd (.inl stays) h,
        fun h => absurd (.inl stays) h, fun h => absurd (.inl stays) h, fun h => absurd (.inl stays) h⟩
  · rw [if_neg still, State.trackMove, tracker] at after tracker' e
    cases hr : s.tsc.tracker with
    | none =>
      rw [hr] at after tracker'
      exact ⟨tracker'.trans (tracker.trans hr), (before.trans after).nothingFires⟩
    | some r =>
      rw [hr] at after tracker' e
      dsimp only at after tracker' e ⊢
      have moves : m.localMinute.count ≠ old := mt same.2 still
      generalize hd : m.localMinute.count - r.count = d at *
      by_cases stays : d = 0 ∨ held = true ∧ d = -1
      · have unmoved : t.tsc.tracker = some r ∧ NothingFires s t := by
          rcases stays with h | ⟨hh, h⟩
          · rw [if_pos h] at after tracker'
            exact ⟨tracker'.trans (tracker.trans hr), (before.trans after).nothingFires⟩
          · rw [if_neg (by omega), if_pos (by rw [hh, h]; decide)] at after tracker'
            exact ⟨tracker'.trans (tracker.trans hr), (before.trans after).nothingFires⟩
        exact ⟨fun _ => unmoved, fun h => absurd (.inr stays) h, fun h => absurd (.inr stays) h,
          fun h => absurd (.inr stays) h, fun h => absurd (.inr stays) h⟩
      · have notStays : ¬ (m.localMinute.count = old ∨ d = 0 ∨ held = true ∧ d = -1) := fun h => stays (h.resolve_left moves)
        rw [if_neg (fun h => stays (.inl h)), if_neg (by
          rw [Bool.and_eq_true, decide_eq_true_eq]; exact fun h => stays (.inr h))] at after tracker' e
        by_cases jumps : 1 ≤ d ∧ d ≤ 1439
        · rw [if_pos jumps] at after tracker' e
          obtain ⟨none, some'⟩ := State.jumpReport_leaves (set _) after e few
          refine ⟨fun h => absurd h notStays, fun _ => ?_, fun _ h => absurd h (by omega), fun _ _ _ => none,
            fun _ _ _ => some'⟩
          rw [tracker', State.jumpReport_tracker]
          exact congrArg some local'
        · rw [if_neg jumps] at after tracker'
          have quiet := ((set _).trans after).nothingFires
          exact ⟨fun h => absurd h notStays, fun _ => tracker'.trans (congrArg some local'), fun _ _ => quiet,
            fun _ h1 h2 => absurd ⟨h1, by omega⟩ jumps, fun _ h1 h2 => absurd ⟨h1, by omega⟩ jumps⟩

end Sys2Proof.Machine

/-! PROOFS. The second boundary: the clock on its way to it, the pending leap, the growth of U, the feed and the tracker. -/

namespace Sys2Proof.Machine

variable {s t : State}

/-! ### Missing samples and absence touch the receiver, the discipline and the records alone -/

/-- What a missing sample or an absent source may change (R29 to R31, R54, R55). -/
def Part.supervising : List Part := [.rrx, .dsc, .evq, .current, .ntc]

theorem takeRefEvent_missing_supervising (s : State) (x : Source) :
    Unchanged Part.supervising s (s.takeRefEvent x .missing) := by
  have moved := (setSrc_unchanged (L := Part.supervising) s (by decide) x
    ((s.rrx.src x).take s.cfg s.dsc.state.supervised s.dsc.u .missing)).trans
    (sourceMoved_unchanged _ (by decide) (by decide) (by decide) x (s.rrx.src x).state)
  simp only [State.takeRefEvent, State.handToDsc]
  split
  · exact moved.trans (discMissing_unchanged _ (by decide))
  · exact moved

theorem takeMissing_supervising (s : State) (x : Source) : Unchanged Part.supervising s (s.takeMissing x) := by
  simp only [State.takeMissing]
  split
  · exact Unchanged.refl _ _
  · exact (setRrx_unchanged s (by decide) _).trans (takeRefEvent_missing_supervising _ x)

theorem takeAbsent_supervising (s : State) (x : Source) : Unchanged Part.supervising s (s.takeAbsent x) := by
  have moved (t : State) := sourceMoved_unchanged (L := Part.supervising) t (by decide) (by decide) (by decide) x
    (s.rrx.src x).state
  simp only [State.takeAbsent]
  split
  · exact ((setSrc_unchanged s (by decide) _ _).trans (setRrx_unchanged _ (by decide) _)).trans (moved _)
  · exact (setSrc_unchanged s (by decide) _ _).trans (moved _)

theorem takeDeferredMissing_supervising (mark : Nat) : ∀ (fuel : Nat) (s : State),
    Unchanged Part.supervising s (s.takeDeferredMissing mark fuel)
  | 0, s => Unchanged.refl _ s
  | fuel + 1, s => by
    simp only [State.takeDeferredMissing]
    split
    · exact (takeMissing_supervising s .a).trans (takeDeferredMissing_supervising mark fuel _)
    · exact Unchanged.refl _ _

theorem discard_supervising (s : State) (why : Discard) (mark : Nat) : Unchanged Part.supervising s (s.discard why mark) := by
  have deferred (t : State) : Unchanged Part.supervising t (t.takeDeferred mark) := by
    simp only [State.takeDeferred]
    split
    · exact (takeDeferredMissing_supervising mark 7 t).trans (takeAbsent_supervising _ _)
    · exact takeDeferredMissing_supervising mark 7 t
  exact (setRrx_unchanged s (by decide) (s.rrx.discarded why)).trans (deferred _)

/-- An event of the part's own clock moves neither the clock nor the tracker, and leaves the leap, the schedule, the history, the
configuration and the queue of commands. -/
theorem happen_unchanged (s : State) (ev : TimedEvent) :
    Unchanged [.rrx, .dsc, .ftx, .lqu, .evq, .tlu, .current, .handover, .trips, .stc, .lkc, .ntc, .draws] s (ev.happen s) := by
  cases ev with
  | feedEnd => exact setFtx_unchanged s (by decide) _
  | candidateTimeout =>
    simp only [TimedEvent.happen, State.candidateLate]
    split
    · exact Unchanged.refl _ _
    · exact (discard_supervising s _ _).mono (by decide)
  | missing x => exact (takeMissing_supervising s x).mono (by decide)
  | absent x => exact (takeAbsent_supervising s x).mono (by decide)
  | revert => exact revertExpires_unchanged s (by decide) (by decide) (by decide)
  | filter i =>
    simp only [TimedEvent.happen, State.filterReached]
    split
    · exact Unchanged.refl _ _
    · exact qualify_unchanged s (by decide) (by decide) (by decide) (by decide) _ _
  | quiet i => exact leaveChatter_unchanged s (by decide) (by decide) (by decide) (by decide) _
  | discrepancy u => exact expireDiscrepancy_unchanged s (by decide) (by decide) _
  | periodic => exact s.evalPeriodic_leaves.2.2.mono (by decide)
  | window => exact goOverdue_unchanged s (by decide) (by decide)
  | saveEnd =>
    simp only [TimedEvent.happen, State.saveEnds]
    split
    · exact Unchanged.refl _ _
    · exact endSave_unchanged s (by decide) _ _
  | autosave => exact autosaveReached_unchanged s (by decide)
  | gap =>
    have ended := setLkc_unchanged (L := [.lkc]) s (by decide) { s.lkc with receive := none, gap := none }
    exact (ended.trans (linkError_unchanged _ (by decide) .gap)).mono (by decide)
  | reply => exact setLkc_unchanged s (by decide) _

theorem happen_tsc (s : State) (ev : TimedEvent) : (ev.happen s).tsc = s.tsc :=
  (happen_unchanged s ev).tsc_eq (by decide) (by decide) (by decide) (by decide)

theorem takeEvents_tsc (evs : List TimedEvent) (s : State) : (s.takeEvents evs).tsc = s.tsc :=
  forAll_rel (fun a b => b.tsc = a.tsc) (fun _ => rfl) (fun _ _ _ h h' => h'.trans h) evs _
    (fun ev _ t => by
      split
      · exact happen_tsc t ev
      · rfl) s

/-! ### The work of a boundary (R6, R11) -/

/-- The leap count and the pending leap after the check at a boundary (R11). -/
def TimeScale.leapChecked (t : TimeScale) : Int × Option PendingLeap :=
  match t.pendingLeap with
  | none => (t.leap, none)
  | some p => if p.dueAt t.civil then (if t.leap = p.before then p.target else t.leap, none) else (t.leap, some p)

theorem State.selfLeap_tsc (s : State) :
    s.selfLeap.tsc = { s.tsc with leap := s.tsc.leapChecked.1, pendingLeap := s.tsc.leapChecked.2 } := by
  simp only [State.selfLeap, TimeScale.leapChecked]
  cases hp : s.tsc.pendingLeap with
  | none => simp only [← hp]
  | some p =>
    dsimp only
    split
    · split
      · rw [State.place_tsc]; rfl
      · rfl
    · simp only [← hp]

/-- The state in which the minute tracker advances at a boundary. -/
def State.boundaryFed (s : State) : State :=
  let s1 := s.selfLeap
  let s2 := (s1.setDraws (s1.draws + 1)).growU
  s2.feedBoundary (eitherClass s1.draws s1.dsc.effClass s2.dsc.effClass)

theorem State.boundaryWork_eq (s : State) : s.boundaryWork = s.boundaryFed.trackAdvance := rfl

theorem State.boundaryFed_tsc (s : State) : s.boundaryFed.tsc = s.selfLeap.tsc := by
  have grown : Unchanged [.dsc, .current, .ftx, .draws] s.selfLeap s.boundaryFed :=
    ((setDraws_unchanged _ (by decide) _).trans (growU_unchanged _ (by decide) (by decide))).trans
      (feedBoundary_unchanged _ (by decide) _)
  exact grown.tsc_eq (by decide) (by decide) (by decide) (by decide)

/-- What the work of a boundary leaves of the clock, the epoch and the leap. -/
theorem State.boundaryWork_clock (s : State) :
    (s.boundaryWork.tsc.s = s.tsc.s ∧ s.boundaryWork.tsc.n = s.tsc.n ∧ s.boundaryWork.tsc.e = s.tsc.e
        ∧ s.boundaryWork.tsc.eSub = s.tsc.eSub)
      ∧ s.boundaryWork.tsc.epoch = s.tsc.epoch
      ∧ s.boundaryWork.tsc.leap = s.tsc.leapChecked.1 ∧ s.boundaryWork.tsc.pendingLeap = s.tsc.leapChecked.2 := by
  have advanced := trackAdvance_unchanged s.boundaryFed (List.Subset.refl Part.firing)
  have tsc : s.boundaryFed.tsc = _ := s.boundaryFed_tsc.trans s.selfLeap_tsc
  rw [State.boundaryWork_eq]
  obtain ⟨hs, hn, he, hsub, -⟩ := advanced .clock (by decide)
  obtain ⟨hl, hp⟩ := advanced .leap (by decide)
  have hepoch : _ = _ := advanced .epoch (by decide)
  rw [tsc] at hs hn he hsub hl hp hepoch
  exact ⟨⟨hs, hn, he, hsub⟩, hepoch, hl, hp⟩

/-! ### The way to the boundary -/

/-- The clock of `t` is that of `s`, on its way to the next boundary. -/
def Underway (s t : State) : Prop :=
  ∃ d, s.tsc.n + d < nsPerS ∧ t.tsc.n = s.tsc.n + d ∧ t.tsc.elapsed = s.tsc.elapsed + d
    ∧ t.tsc.s = s.tsc.s ∧ t.tsc.epoch = s.tsc.epoch ∧ t.tsc.leap = s.tsc.leap ∧ t.tsc.pendingLeap = s.tsc.pendingLeap

/-- The clock and the leap at the boundary that comes next (R1, R11). -/
def BoundaryReached (s t : State) : Prop :=
  t.tsc.s = (s.tsc.s + 1) % secondsModulus ∧ t.tsc.n = 0 ∧ t.tsc.epoch = s.tsc.epoch
    ∧ t.tsc.e = (s.tsc.elapsed + s.tsc.toBoundary) / 1000 ∧ t.tsc.elapsed = s.tsc.elapsed + s.tsc.toBoundary
    ∧ (t.tsc.leap, t.tsc.pendingLeap) = ({ s.tsc with s := (s.tsc.s + 1) % secondsModulus } : TimeScale).leapChecked

theorem Underway.atBoundary_work (h : Underway s t) {m : State} (hm : m.tsc = (t.pass t.tsc.toBoundary).tsc) :
    BoundaryReached s ((m.boundaryWork).pass 0) := by
  obtain ⟨d, hd, hn, he, hs, hepoch, hl, hp⟩ := h
  obtain ⟨⟨ws, wn, we, wsub⟩, wepoch, wl, wp⟩ := m.boundaryWork_clock
  have whole : t.tsc.n + t.tsc.toBoundary = nsPerS := by rw [TimeScale.toBoundary, hn]; omega
  have passed : m.tsc = t.tsc.advance t.tsc.toBoundary := hm
  have second : m.tsc.s = (s.tsc.s + 1) % secondsModulus := by
    rw [passed, TimeScale.advance, whole, hs, Nat.div_self (by decide)]
  have ns : m.tsc.n = 0 := by rw [passed, TimeScale.advance, whole, Nat.mod_self]
  have elapsed : m.tsc.elapsed = s.tsc.elapsed + s.tsc.toBoundary := by
    rw [hm, State.pass_elapsed, he]
    simp only [TimeScale.toBoundary, hn]
    omega
  have sub : m.tsc.eSub < 1000 := by rw [passed]; exact Nat.mod_lt _ (by decide)
  have e : m.tsc.e = m.tsc.elapsed / 1000 := by simp only [TimeScale.elapsed]; omega
  have checked : m.tsc.leapChecked = ({ s.tsc with s := (s.tsc.s + 1) % secondsModulus } : TimeScale).leapChecked := by
    have hleap : m.tsc.leap = s.tsc.leap := by rw [passed]; exact hl
    have hpend : m.tsc.pendingLeap = s.tsc.pendingLeap := by rw [passed]; exact hp
    simp only [TimeScale.leapChecked, TimeScale.civil, hleap, hpend, second]
  have nsPerS_pos : (0 : Nat) < nsPerS := by decide
  refine ⟨?_, ?_, ?_, ?_, ?_, ?_⟩
  · show (m.boundaryWork.tsc.s + (m.boundaryWork.tsc.n + 0) / nsPerS) % secondsModulus = _
    rw [ws, wn, ns, second, Nat.add_zero, Nat.zero_div, Nat.add_zero, Nat.mod_mod]
  · show (m.boundaryWork.tsc.n + 0) % nsPerS = 0
    rw [wn, ns]; rfl
  · exact wepoch.trans (by rw [passed]; exact hepoch)
  · show m.boundaryWork.tsc.e + (m.boundaryWork.tsc.eSub + 0) / 1000 = _
    rw [we, wsub, Nat.add_zero, Nat.div_eq_of_lt sub, Nat.add_zero, e, elapsed]
  · rw [State.pass_elapsed, Nat.add_zero, ← elapsed]
    simp only [TimeScale.elapsed, we, wsub]
  · rw [← checked]
    exact Prod.ext wl wp

/-- Time short of the boundary, or an event, leaves the clock on its way. -/
theorem Underway.pass (h : Underway s t) {ns : Nat} (hns : t.tsc.n + ns < nsPerS) (hs : s.tsc.s < secondsModulus) :
    Underway s (t.pass ns) := by
  obtain ⟨d, hd, hn, he, hsec, hepoch, hl, hp⟩ := h
  refine ⟨d + ns, by omega, ?_, ?_, ?_, hepoch, hl, hp⟩
  · show (t.tsc.n + ns) % nsPerS = _
    rw [Nat.mod_eq_of_lt hns, hn, Nat.add_assoc]
  · rw [State.pass_elapsed, he, Nat.add_assoc]
  · show (t.tsc.s + (t.tsc.n + ns) / nsPerS) % secondsModulus = _
    rw [Nat.div_eq_of_lt hns, Nat.add_zero, hsec, Nat.mod_eq_of_lt hs]

theorem Underway.congr (h : Underway s t) {u : State} (hu : u.tsc = t.tsc) : Underway s u := by
  unfold Underway at h ⊢
  rw [hu]
  exact h

/-- A boundary reached, whatever is due there: its events take no time and leave the leap. -/
theorem Underway.passTime (h : Underway s t) : BoundaryReached s (t.passTime t.tsc.toBoundary) := by
  have below : t.tsc.n < nsPerS := by
    obtain ⟨d, hd, hn, -⟩ := h
    omega
  rw [State.passTime_toBoundary below, State.atBoundary]
  split
  · exact h.atBoundary_work rfl
  · exact h.atBoundary_work (takeEvents_tsc _ _)

/-- A run that has reached the boundary ends there. -/
theorem BoundaryReached.run_on (h : BoundaryReached s t) (fuel : Nat) :
    BoundaryReached s (State.runAux fuel (s.tsc.elapsed + s.tsc.toBoundary) t) := by
  obtain ⟨hs, hn, hepoch, he, helapsed, hleap⟩ := id h
  cases fuel with
  | zero =>
    have sub : t.tsc.eSub < 1000 := by simp only [TimeScale.elapsed] at he helapsed; omega
    rw [State.runAux, helapsed, Nat.sub_self, State.passTime_of_lt (by rw [hn]; decide)]
    refine ⟨?_, ?_, hepoch, ?_, by rw [State.pass_elapsed, helapsed, Nat.add_zero], hleap⟩
    · show (t.tsc.s + (t.tsc.n + 0) / nsPerS) % secondsModulus = _
      rw [hn, hs, Nat.add_zero, Nat.zero_div, Nat.add_zero, Nat.mod_mod]
    · show (t.tsc.n + 0) % nsPerS = 0
      rw [hn]; rfl
    · show t.tsc.e + (t.tsc.eSub + 0) / 1000 = _
      rw [Nat.add_zero, Nat.div_eq_of_lt sub, Nat.add_zero, he]
  | succ n => rw [State.runAux_of_le helapsed.ge]; exact h

/-- A run to the next boundary carries it out, whatever happens on the way. -/
theorem Underway.run (h : Underway s t) (hs : s.tsc.s < secondsModulus) (fuel : Nat) :
    BoundaryReached s (State.runAux fuel (s.tsc.elapsed + s.tsc.toBoundary) t) := by
  induction fuel generalizing t with
  | zero =>
    have left : s.tsc.elapsed + s.tsc.toBoundary - t.tsc.elapsed = t.tsc.toBoundary := by
      obtain ⟨d, hd, hn, he, -⟩ := h
      simp only [TimeScale.toBoundary]
      omega
    rw [State.runAux, left]
    exact h.passTime
  | succ fuel ih =>
    obtain ⟨d, hd, hn, he, -⟩ := id h
    have ahead : ¬ s.tsc.elapsed + s.tsc.toBoundary ≤ t.tsc.elapsed := by simp only [TimeScale.toBoundary]; omega
    rw [State.runAux, if_neg ahead]
    split
    · exact ih (h.congr (happen_tsc _ _))
    · rcases Nat.lt_or_ge (t.tsc.n + t.stride (s.tsc.elapsed + s.tsc.toBoundary)) nsPerS with short | full
      · rw [State.passTime_of_lt short]
        exact ih (h.pass short hs)
      · have stride : t.stride (s.tsc.elapsed + s.tsc.toBoundary) = t.tsc.toBoundary := by
          have : t.stride (s.tsc.elapsed + s.tsc.toBoundary) ≤ t.tsc.toBoundary := Nat.min_le_right _ _
          simp only [TimeScale.toBoundary] at *
          omega
        have reached := h.passTime
        rw [stride]
        generalize t.passTime t.tsc.toBoundary = r at *
        exact reached.run_on fuel

/-! ### SECOND_BOUNDARY (R1, R6, R11, R12, R49) -/

/-- No time leaves a clock that is in range. -/
theorem State.pass_zero {s : State} (hs : s.tsc.s < secondsModulus) (hn : s.tsc.n < nsPerS) (hsub : s.tsc.eSub < 1000) :
    s.pass 0 = s := by
  have same : s.tsc.advance 0 = s.tsc := by
    simp only [TimeScale.advance, Nat.add_zero, Nat.div_eq_of_lt hn, Nat.mod_eq_of_lt hn, Nat.div_eq_of_lt hsub,
      Nat.mod_eq_of_lt hsub, Nat.mod_eq_of_lt hs]
  rw [State.pass, same]
  rfl

/-- What a boundary leaves of U, and of the discipline besides the class (R49). -/
theorem State.growU_leaves (s : State) :
    (s.growU.dsc.state = s.dsc.state ∧ s.growU.dsc.f = s.dsc.f ∧ s.growU.dsc.c = s.dsc.c
      ∧ s.growU.dsc.u = (match s.dsc.state with
          | .holdover => min (s.dsc.u + s.cfg.holdDrift) max32
          | .free => max32
          | .acquire | .locked => s.dsc.u))
      ∧ Aside 0 s s.growU := by
  have grown (x : Discipline) : Aside 0 s (s.setDsc x).evalClass :=
    (Aside.of_blocks (t := s.setDsc x) rfl rfl rfl rfl rfl rfl).trans (.evalClass _)
  rw [State.growU]
  cases hst : s.dsc.state with
  | holdover => exact ⟨by rw [State.evalClass_dsc]; exact ⟨hst, rfl, rfl, rfl⟩, grown _⟩
  | free => exact ⟨by rw [State.evalClass_dsc]; exact ⟨hst, rfl, rfl, rfl⟩, grown _⟩
  | acquire => exact ⟨⟨hst, rfl, rfl, rfl⟩, .refl s⟩
  | locked => exact ⟨⟨hst, rfl, rfl, rfl⟩, .refl s⟩

theorem State.selfLeap_aside (s : State) : Aside 1 s s.selfLeap := by
  have set (l : Int) (p : Option PendingLeap) : Aside 0 s (s.setTsc { s.tsc with leap := l, pendingLeap := p }) :=
    .of_blocks rfl rfl rfl rfl rfl rfl
  simp only [State.selfLeap]
  split
  · exact (Aside.refl s).mono (by decide)
  · split
    · split
      · exact (set _ _).trans (.place _ _)
      · exact (set s.tsc.leap none).mono (by decide)
    · exact (Aside.refl s).mono (by decide)

theorem State.feedBoundary_aside (s : State) (cls : Nat) : Aside 0 s (s.feedBoundary cls) := by
  have fed (x : Feed) : Aside 0 s (s.setFtx x) := .of_blocks rfl rfl rfl rfl rfl rfl
  simp only [State.feedBoundary]
  split_ifs <;> exact fed _

theorem State.boundaryFed_aside (s : State) : Aside 1 s s.boundaryFed :=
  ((s.selfLeap_aside.trans (Aside.of_blocks (t := s.selfLeap.setDraws (s.selfLeap.draws + 1)) rfl rfl rfl rfl rfl rfl)).trans
    (State.growU_leaves _).2).trans (State.feedBoundary_aside _ _)

/-- The discipline at the tracker's advance is that of the growth. -/
theorem State.boundaryFed_dsc (s : State) :
    s.boundaryFed.dsc = (s.selfLeap.setDraws (s.selfLeap.draws + 1)).growU.dsc :=
  feedBoundary_unchanged (L := [.ftx]) _ (by decide) _ .dsc (by decide)

/-- With no event at it or before it, SECOND_BOUNDARY is the passage of time and the boundary's work (entry 3). -/
theorem exec_secondBoundary_quiet (hr : s.tsc.inRange) (hq : s.quiet (s.tsc.elapsed + (1000000000 - s.tsc.n) + 1)) :
    exec .secondBoundary s = .next (s.pass s.tsc.toBoundary).boundaryWork := by
  obtain ⟨-, hn, -⟩ := hr
  have run : s.runTo (s.tsc.elapsed + s.tsc.toBoundary) = ((s.pass s.tsc.toBoundary).boundaryWork).pass 0 :=
    runTo_boundary hn hq
  obtain ⟨⟨ws, wn, -, wsub⟩, -⟩ := (s.pass s.tsc.toBoundary).boundaryWork_clock
  have still := State.pass_zero (s := (s.pass s.tsc.toBoundary).boundaryWork) (by rw [ws]; exact Nat.mod_lt _ (by decide))
    (by rw [wn]; exact Nat.mod_lt _ (by decide)) (by rw [wsub]; exact Nat.mod_lt _ (by decide))
  rw [still] at run
  exact congrArg Host.Outcome.next run

/-- Settles O8: `Underway.run` for the clock and the leap, and on a quiet way the boundary's work in its parts. -/
theorem secondBoundaryAdvancesOneSecond : Obligations.SecondBoundaryAdvancesOneSecond := by
  intro s hr
  obtain ⟨hs, hn, -, hsub, -⟩ := id hr
  have start : Underway s s := ⟨0, hn, (Nat.add_zero _).symm, (Nat.add_zero _).symm, rfl, rfl, rfl, rfl⟩
  have reached : BoundaryReached s (s.runTo (s.tsc.elapsed + s.tsc.toBoundary)) := by
    rw [State.runTo]
    exact start.run hs _
  have row : exec .secondBoundary s = .next (s.runTo (s.tsc.elapsed + s.tsc.toBoundary)) := rfl
  generalize s.runTo (s.tsc.elapsed + s.tsc.toBoundary) = t at *
  obtain ⟨second, ns, epoch, e, -, leap⟩ := reached
  obtain ⟨leap, pending⟩ := Prod.ext_iff.1 leap
  refine ⟨t, row, ?_, ns, epoch, ?_, ?_, fun hq => ?_⟩
  · rw [second, secondsModulus]
    unfold secondsModulus at hs
    split <;> omega
  · rw [e]
    simp only [TimeScale.elapsed, TimeScale.toBoundary, nsPerS]
    omega
  · rw [second]
    simp only [TimeScale.leapChecked, TimeScale.civil] at leap pending
    dsimp only
    cases hp : s.tsc.pendingLeap with
    | none => rw [hp] at leap pending; exact ⟨leap, pending⟩
    | some p =>
      rw [hp] at leap pending
      dsimp only at leap pending ⊢
      rw [leap, pending]
      cases hd : p.direction with
      | insert =>
        simp only [PendingLeap.dueAt, PendingLeap.before, hd, decide_eq_true_eq, true_and, reduceCtorEq, false_and, or_false]
        split
        · rename_i meets; simp only [meets, true_and, and_self]
        · rename_i meets; simp only [meets, false_and, if_false, and_self]
      | delete =>
        simp only [PendingLeap.dueAt, PendingLeap.before, hd, decide_eq_true_eq, true_and, reduceCtorEq, false_and, false_or]
        split
        · rename_i meets; simp only [meets, true_and, and_self]
        · rename_i meets; simp only [meets, false_and, if_false, and_self]
  · have quietRow := (exec_secondBoundary_quiet hr hq).symm.trans row
    obtain rfl : (s.pass s.tsc.toBoundary).boundaryWork = t := Host.Outcome.next.inj quietRow
    have passed : Aside 0 s (s.pass s.tsc.toBoundary) := .of_blocks rfl rfl rfl rfl rfl rfl
    have fed := passed.trans (s.pass s.tsc.toBoundary).boundaryFed_aside
    rw [State.boundaryWork_eq]
    have advance := trackAdvance_unchanged (s.pass s.tsc.toBoundary).boundaryFed (List.Subset.refl Part.firing)
    have moves := State.trackAdvance_leaves fed
      (by rw [State.boundaryFed_tsc, State.selfLeap_tsc]; rfl) (by decide)
    have dsc : (s.pass s.tsc.toBoundary).boundaryFed.trackAdvance.dsc = _ :=
      (advance .dsc (by decide)).trans (State.boundaryFed_dsc _)
    have cfg : (s.pass s.tsc.toBoundary).selfLeap.cfg = s.cfg :=
      selfLeap_unchanged (L := .leap :: Part.recording) _ (by decide) (by decide) .cfg (by decide)
    have before : (s.pass s.tsc.toBoundary).selfLeap.dsc = s.dsc :=
      selfLeap_unchanged (L := .leap :: Part.recording) _ (by decide) (by decide) .dsc (by decide)
    obtain ⟨⟨state, f, c, u⟩, -⟩ := State.growU_leaves ((s.pass s.tsc.toBoundary).selfLeap.setDraws
      ((s.pass s.tsc.toBoundary).selfLeap.draws + 1))
    rw [State.setDraws_dsc, before] at state f c u
    rw [State.setDraws_cfg, cfg] at u
    refine ⟨by rw [dsc]; exact ⟨state, f, c, u⟩, ?_, ?_⟩
    · have count : (s.pass s.tsc.toBoundary).boundaryFed.localMinute.count
          = (((s.pass s.tsc.toBoundary).boundaryFed.trackAdvance.tsc.s : Int)
              - (s.pass s.tsc.toBoundary).boundaryFed.trackAdvance.tsc.leap + 60 * s.cfg.localOffset) / 60 := by
        have fedCfg : (s.pass s.tsc.toBoundary).boundaryFed.cfg = s.cfg := by
          have := boundaryWork_unchanged (L := Part.firing ++ [.leap, .dsc, .ftx]) (s.pass s.tsc.toBoundary) (by decide)
            (by decide) (by decide) (by decide) .cfg (by decide)
          have step : _ = _ := advance .cfg (by decide)
          exact step.symm.trans this
        rw [State.localMinute, LocalMinute.count_ofCount, TimeScale.civil, fedCfg, (advance .clock (by decide)).1,
          (advance .leap (by decide)).1]
      rw [← count]
      exact moves
    · exact ((pass_unchanged s (by decide) _).trans
        (boundaryWork_unchanged _ (by decide) (by decide) (by decide) (by decide)))

/-! ### The feed (R63 to R70) -/

/-- Civil seconds as the frame carries them. -/
theorem civil_toNat (v : Int) : (BitVec.ofInt 40 v).toNat = (v % 2 ^ 40).toNat := by
  rw [BitVec.toNat_ofInt]; rfl

/-- A signed value of one byte. -/
theorem beSigned_one (v : Int) : beSigned 1 v = [BitVec.ofInt 8 v] := by
  have value : BitVec.ofNat 8 (v % 256).toNat = BitVec.ofInt 8 v := by
    refine BitVec.eq_of_toNat_eq ?_
    rw [BitVec.toNat_ofInt, BitVec.toNat_ofNat]
    have : ((2 ^ 8 : Nat) : Int) = 256 := rfl
    omega
  rw [beSigned, beBytes, beBytes, Nat.pow_zero, Nat.div_one, ← value]
  rfl

/-- What FTX does at a boundary with the class it reads (R63 to R70). -/
theorem State.feedBoundary_ftx (s : State) (cls : Nat) :
    let level := actionLevel s.cfg s.dsc.state cls
    let covered : List Byte :=
      [byteOf s.cfg.feedId, feedStatus cls s.tsc.pendingLeap (decide (level = 1))]
        ++ beBytes 5 (s.tsc.civil % 2 ^ 40).toNat ++ beSigned 1 s.tsc.leap ++ [byteOf s.ftx.sequence]
    (s.feedBoundary cls).ftx =
      if s.ftx.transmission.isSome then { s.ftx with enable := s.cfg.feedEnable }
      else if s.cfg.feedEnable = false ∨ level = 3 then { s.ftx with enable := s.cfg.feedEnable }
      else if level = 2 then
        { enable := true, sequence := s.ftx.sequence, transmission := some (.brk (s.tsc.e + 13542)) }
      else
        { enable := true, sequence := (s.ftx.sequence + 1) % 256
          transmission := some (.frame ([0xC3, 0x3C] ++ covered ++ checkBytes covered) (s.tsc.e + 13542)) } := by
  intro level covered
  have message : (feedMessage s cls (decide (level = 1))).covered = covered := by
    simp only [StationMessage.covered, feedMessage, civil_toNat, covered, beSigned_one, List.append_assoc, List.cons_append,
      List.nil_append]
  rw [← message]
  simp only [State.feedBoundary, level]
  cases hb : s.ftx.transmission.isSome with
  | true => rfl
  | false =>
    rw [if_neg Bool.false_ne_true, if_neg Bool.false_ne_true]
    cases he : s.cfg.feedEnable with
    | false => simp only [true_or, if_true, State.setFtx_ftx]
    | true =>
      simp only [Bool.true_eq_false, false_or]
      split_ifs <;> rfl

/-- Settles O9: the feed reads the discipline and the time scale of the boundary's work, and nothing after it writes them. -/
theorem boundaryFeedFollowsTheActionLevel : Obligations.BoundaryFeedFollowsTheActionLevel := by
  intro s hr hq
  have row := exec_secondBoundary_quiet hr hq
  generalize hp : s.pass s.tsc.toBoundary = p at row
  have advance := trackAdvance_unchanged p.boundaryFed (List.Subset.refl Part.firing)
  obtain ⟨⟨fedS, -, fedE, -⟩, -, fedLeap, fedPending⟩ := p.boundaryWork_clock
  rw [State.boundaryWork_eq] at row fedS fedE fedLeap fedPending
  have checked := selfLeap_unchanged (L := .leap :: Part.recording) p (by decide) (by decide)
  have tscChecked := p.selfLeap_tsc
  have fedFtx : p.boundaryFed.trackAdvance.ftx = p.boundaryFed.ftx := advance .ftx (by decide)
  have fedDsc : p.boundaryFed.trackAdvance.dsc = (p.selfLeap.setDraws (p.selfLeap.draws + 1)).growU.dsc :=
    (advance .dsc (by decide)).trans p.boundaryFed_dsc
  generalize p.boundaryFed.trackAdvance = t at *
  have fed : p.boundaryFed.ftx = ((p.selfLeap.setDraws (p.selfLeap.draws + 1)).growU.feedBoundary
      (eitherClass p.selfLeap.draws p.selfLeap.dsc.effClass (p.selfLeap.setDraws (p.selfLeap.draws + 1)).growU.dsc.effClass)).ftx :=
    rfl
  obtain ⟨⟨state, -⟩, -⟩ := (p.selfLeap.setDraws (p.selfLeap.draws + 1)).growU_leaves
  have grown := growU_unchanged (L := [.dsc, .current]) (p.selfLeap.setDraws (p.selfLeap.draws + 1)) (by decide) (by decide)
  have tsc := grown.tsc_eq (by decide) (by decide) (by decide) (by decide)
  have cfg : (p.selfLeap.setDraws (p.selfLeap.draws + 1)).growU.cfg = s.cfg :=
    (grown .cfg (by decide)).trans ((checked .cfg (by decide)).trans (by rw [← hp]; rfl))
  have ftx : (p.selfLeap.setDraws (p.selfLeap.draws + 1)).growU.ftx = s.ftx :=
    (grown .ftx (by decide)).trans ((checked .ftx (by decide)).trans (by rw [← hp]; rfl))
  have dsc : p.selfLeap.dsc = s.dsc := (checked .dsc (by decide)).trans (by rw [← hp]; rfl)
  rw [State.setDraws_dsc, dsc] at state
  rw [State.setDraws_tsc, tscChecked] at tsc
  rw [dsc] at fed
  generalize (p.selfLeap.setDraws (p.selfLeap.draws + 1)).growU = g at *
  refine ⟨t, eitherClass p.selfLeap.draws s.dsc.effClass g.dsc.effClass, row, ?_, ?_⟩
  · rw [fedDsc, eitherClass]
    split_ifs
    · exact .inr rfl
    · exact .inl rfl
    · exact .inr rfl
  · generalize eitherClass p.selfLeap.draws s.dsc.effClass g.dsc.effClass = cls at *
    have leap : g.tsc.leap = t.tsc.leap := by rw [tsc, fedLeap]
    have pending : g.tsc.pendingLeap = t.tsc.pendingLeap := by rw [tsc, fedPending]
    have civil : g.tsc.civil = (t.tsc.s : Int) - t.tsc.leap := by
      rw [TimeScale.civil, leap, show g.tsc.s = t.tsc.s by rw [tsc, fedS]]
    have e : g.tsc.e = t.tsc.e := by rw [tsc, fedE]
    have feed := g.feedBoundary_ftx cls
    rw [cfg, state, ftx, e, pending, leap, civil] at feed
    rw [fedFtx, fed]
    have status (level : Nat) : feedStatus cls t.tsc.pendingLeap (decide (level = 1))
        = byteOf (cls % 8 + (if t.tsc.pendingLeap.isSome then 8 else 0)
          + (if t.tsc.pendingLeap.map (·.direction) = some .delete then 16 else 0) + (if level = 1 then 32 else 0)) := by
      simp only [feedStatus, decide_eq_true_eq]
    simp only [status] at feed
    exact feed

end Sys2Proof.Machine

/-! PROOFS. TSET (R57), and what the reports of the discipline and of the selection leave: nothing that a firing reads, and a
restarted window. -/

namespace Sys2Proof.Machine

variable {s t : State}

/-! ### Reports and selections fire nothing -/

theorem Aside.setDsc (s : State) (x : Discipline) : Aside 0 s (s.setDsc x) := .of_blocks rfl rfl rfl rfl rfl rfl

theorem Aside.setRrx (s : State) (x : Receiver) : Aside 0 s (s.setRrx x) := .of_blocks rfl rfl rfl rfl rfl rfl

theorem Aside.reportDisc (s : State) (old : DiscState) : Aside 1 s (s.reportDisc old) :=
  ((Aside.place s _).trans (.raise _ _)).trans (.setRrx _ _)

theorem Aside.discSelection (s : State) (new : Option Source) : Aside 1 s (s.discSelection new) := by
  have set (x : Discipline) (m : State) : Aside 0 m (m.setDsc x).evalClass := (Aside.setDsc m x).trans (.evalClass _)
  have enter (m : State) : Aside 1 m m.enterHoldover := (set _ m).trans (.reportDisc _ _)
  have view := Aside.setDsc s { s.dsc with view := new }
  simp only [State.discSelection]
  split
  · exact (view.trans (.evalClass _)).mono (by decide)
  · exact (view.trans (set _ _)).mono (by decide)
  · exact (view.trans (set _ _)).mono (by decide)
  · exact (view.trans (set _ _)).mono (by decide)
  · exact view.trans (enter _)
  · exact view.trans (enter _)

theorem Aside.evalSelection (s : State) (b : Bool) : Aside 2 s (s.evalSelection b) := by
  have settle (m : State) : Aside 0 m m.settleRevert := .setRrx m _
  have ref (m : State) (x : Source) (a b : SourceState) (c : Option Source) : Aside 1 m (m.placeRef x a b c) :=
    (Aside.place m _).trans (.raise _ _)
  simp only [State.evalSelection]
  split
  · exact (settle s).mono (by decide)
  · exact (((Aside.setRrx s _).trans (settle _)).trans (ref _ _ _ _ _)).trans (.discSelection _ _)

/-! ### A restarted discipline (R45, R54, R57) -/

/-- The window is restarted, c follows F alone, and F and U are these. -/
def Discipline.Restarted (d : Discipline) (f : Int) (u limit : Nat) : Prop :=
  d.f = f ∧ d.u = u ∧ d.lock = 0 ∧ d.sum = 0 ∧ d.count = 0 ∧ d.prev = none ∧ d.c = steerFree f limit

theorem Discipline.Restarted.of_eq {d d' : Discipline} {f : Int} {u limit : Nat} (h : d.Restarted f u limit)
    (hf : d'.f = d.f) (hu : d'.u = d.u) (hl : d'.lock = d.lock) (hs : d'.sum = d.sum) (hc : d'.count = d.count)
    (hp : d'.prev = d.prev) (hcc : d'.c = d.c) : d'.Restarted f u limit := by
  obtain ⟨h1, h2, h3, h4, h5, h6, h7⟩ := h
  exact ⟨hf.trans h1, hu.trans h2, hl.trans h3, hs.trans h4, hc.trans h5, hp.trans h6, hcc.trans h7⟩

@[simp] theorem State.reportDisc_tsc (s : State) (old : DiscState) : (s.reportDisc old).tsc = s.tsc :=
  (s.reportDisc_leaves old).1

@[simp] theorem State.reportDisc_dsc (s : State) (old : DiscState) : (s.reportDisc old).dsc = s.dsc :=
  (s.reportDisc_leaves old).2.1

@[simp] theorem State.reportDisc_rrx (s : State) (old : DiscState) :
    (s.reportDisc old).rrx = s.rrx.told old s.dsc.state := (s.reportDisc_leaves old).2.2.1

/-- The discipline that enters HOLDOVER (R42, R54). -/
def Discipline.heldOver (d : Discipline) (limit : Nat) : Discipline :=
  { d.restart with state := .holdover, c := steerFree d.f limit, lock := 0, oneShot := false }

theorem State.enterHoldover_dsc (s : State) : s.enterHoldover.dsc =
    { s.dsc.heldOver s.cfg.slewLimit with effClass := (s.dsc.heldOver s.cfg.slewLimit).classNow } := by
  rw [State.enterHoldover, State.reportDisc_dsc, State.evalClass_dsc]
  rfl

/-- A change of selection, taken by a restarted discipline, leaves it restarted (R54). -/
theorem State.discSelection_restarted {f : Int} {u : Nat} (h : s.dsc.Restarted f u s.cfg.slewLimit) (new : Option Source) :
    (s.discSelection new).dsc.Restarted f u s.cfg.slewLimit := by
  obtain ⟨h1, h2, h3, h4, h5, h6, h7⟩ := id h
  have enter : ((s.setDsc { s.dsc with view := new }).enterHoldover).dsc.Restarted f u s.cfg.slewLimit := by
    rw [State.enterHoldover_dsc]
    exact ⟨h1, h2, rfl, rfl, rfl, rfl, by rw [← h1]; rfl⟩
  have restart : ((s.setDsc { s.dsc with view := new }).setDsc { (s.setDsc { s.dsc with view := new }).dsc.restart with
      lock := 0 }).evalClass.dsc.Restarted f u s.cfg.slewLimit := by
    rw [State.evalClass_dsc]
    exact ⟨h1, h2, rfl, rfl, rfl, rfl, h7⟩
  simp only [State.discSelection]
  split
  · rw [State.evalClass_dsc]
    exact ⟨h1, h2, h3, h4, h5, h6, h7⟩
  · exact restart
  · exact restart
  · exact restart
  · exact enter
  · exact enter

theorem State.evalSelection_restarted {f : Int} {u : Nat} (h : s.dsc.Restarted f u s.cfg.slewLimit) (b : Bool) :
    (s.evalSelection b).dsc.Restarted f u s.cfg.slewLimit := by
  simp only [State.evalSelection]
  split
  · exact h
  · generalize hm : State.placeRef _ _ _ _ _ = m
    have dsc : m.dsc = s.dsc := by
      rw [← hm, State.placeRef, State.raise_dsc, State.place_dsc]; rfl
    have cfg : m.cfg = s.cfg := by
      rw [← hm, State.placeRef, State.raise_cfg, State.place_cfg]; rfl
    rw [← cfg] at h ⊢
    exact State.discSelection_restarted (dsc ▸ h) _

/-- An evaluation that finds the selection as it is settles the revert timer alone (R36, R37). -/
theorem State.evalSelection_same {b : Bool} (h : s.selectionNow b = s.rrx.selection) : s.evalSelection b = s.settleRevert :=
  if_pos h

/-- A source that is not USABLE is not eligible (R36). -/
theorem State.not_eligible {x : Source} (h : (s.rrx.src x).state ≠ .usable) : s.eligible x = false := by
  rw [State.eligible, decide_eq_false h, Bool.false_and]

/-- With no source USABLE there is no selection (R36). -/
theorem State.selectionNow_none (ha : s.rrx.srcA.state ≠ .usable) (hb : s.rrx.srcB.state ≠ .usable) (b : Bool) :
    s.selectionNow b = none := by
  have none (x : Source) : s.eligible x = false := by
    cases x with
    | a => exact State.not_eligible ha
    | b => exact State.not_eligible hb
  rw [State.selectionNow]
  simp [none]

/-- REF-A selected stays so while it is USABLE and either preferred or alone (R36). -/
theorem State.selectionNow_a (hs : s.rrx.selection = some .a) (ha : s.rrx.srcA.state = .usable)
    (hp : s.cfg.prefSource = .a ∨ s.rrx.srcB.state ≠ .usable) : s.selectionNow false = some .a := by
  have eligible : s.eligible .a = true := by
    have : s.rrx.src .a = s.rrx.srcA := rfl
    simp [State.eligible, this, ha]
  rw [State.selectionNow]
  cases hpref : s.cfg.prefSource with
  | a => simp [otherSource, hs, eligible]
  | b =>
    have other : s.eligible .b = false := State.not_eligible (hp.resolve_left (by rw [hpref]; decide))
    simp [otherSource, hs, eligible, other]

/-! ### TSET (R8, R14, R57) -/

/-- The time scale after a step to a value in range (R8). -/
theorem TimeScale.stepTo_eq (t : TimeScale) {seconds micros : Nat} (hs : seconds < 2 ^ 40) (hm : micros ≤ 999999) :
    t.stepTo ((seconds * nsPerS + micros * 1000 : Nat) : Int) = { t with
      s := seconds, n := micros * 1000, epoch := (t.epoch + 1) % 256
      pendingLeap := if ((seconds : Int) - t.leap) / 86400 = (t.s - t.leap) / 86400 then t.pendingLeap else none } := by
  have inside : clampInt ((seconds * nsPerS + micros * 1000 : Nat) : Int) 0 maxStationNs
      = ((seconds * nsPerS + micros * 1000 : Nat) : Int) := by
    have h : ¬ ((seconds * nsPerS + micros * 1000 : Nat) : Int) < 0 := by omega
    have h' : ¬ maxStationNs < ((seconds * nsPerS + micros * 1000 : Nat) : Int) := by
      unfold maxStationNs secondsModulus nsPerS
      omega
    rw [clampInt, if_neg h, if_neg h']
  have second : (seconds * nsPerS + micros * 1000) / nsPerS = seconds := by unfold nsPerS; omega
  have rest : (seconds * nsPerS + micros * 1000) % nsPerS = micros * 1000 := by unfold nsPerS; omega
  simp only [TimeScale.stepTo, inside, Int.toNat_natCast, second, rest, TimeScale.civil]

/-- A step alone leaves the minute tracker to its move. -/
theorem TimeScale.stepTo_tracker (t : TimeScale) (ns : Int) : (t.stepTo ns).tracker = t.tracker := by
  simp only [TimeScale.stepTo]

theorem TimeScale.stepTo_e (t : TimeScale) (ns : Int) : (t.stepTo ns).e = t.e := by
  simp only [TimeScale.stepTo]

/-- What TSC does for a TSET, before the discipline takes it. -/
def State.stepped (s : State) (ns : Int) (reason : StepReason) : State :=
  (s.setTsc (s.tsc.stepTo ns)).reportStep (stepAmount s.tsc.totalNs (s.tsc.stepTo ns).totalNs) reason

theorem State.stepTo_eq (s : State) (ns : Int) (reason : StepReason) (leaving : Bool) :
    s.stepTo ns reason leaving =
      if leaving then (s.stepped ns reason).trackLeave else (s.stepped ns reason).trackChange false s.localMinute := rfl

/-- A step writes the time scale, counts in the shift and is recorded; it fires nothing by itself (R8). -/
theorem State.stepped_leaves (s : State) (ns : Int) (reason : StepReason) :
    (s.stepped ns reason).tsc = s.tsc.stepTo ns ∧ (s.stepped ns reason).dsc = s.dsc ∧ (s.stepped ns reason).rrx = s.rrx
      ∧ (s.stepped ns reason).cfg = s.cfg ∧ (s.stepped ns reason).lkc = s.lkc ∧ Aside 1 s (s.stepped ns reason)
      ∧ Appends 1 [.step (stepAmount s.tsc.totalNs (s.tsc.stepTo ns).totalNs) reason] s (s.stepped ns reason) := by
  have fired : (s.tsc.stepTo ns).lastFired = s.tsc.lastFired := rfl
  simp only [State.stepped, State.reportStep]
  generalize hm : (s.setTsc (s.tsc.stepTo ns)).setCurrent _ = m
  have shu : m.shu = { s.shu with current := { s.shu.current with steps := satAdd s.shu.current.steps 1 max16 } } := by
    rw [← hm]; rfl
  have counted : Aside 0 s m :=
    ⟨⟨_, shu, rfl, rfl, rfl, rfl⟩, by rw [← hm]; exact fired, ⟨by rw [← hm]; rfl, by rw [← hm]; rfl⟩,
      .of_eq (by rw [← hm]; rfl), .of_eq (by rw [← hm]; rfl)⟩
  refine ⟨?_, ?_, ?_, ?_, ?_, counted.trans (.place m _), (Appends.place m _).congr (by rw [← hm]; rfl) rfl⟩
  · rw [State.place_tsc, ← hm]; rfl
  · rw [State.place_dsc, ← hm]; rfl
  · rw [State.place_rrx, ← hm]; rfl
  · rw [State.place_cfg, ← hm]; rfl
  · rw [State.place_lkc, ← hm]; rfl

/-- TSET, case by case of R57. -/
theorem serveTset_cases (seconds : BitVec 40) (micros : BitVec 24) (uncertainty : BitVec 32) (s : State) :
    (s.dsc.state = .acquire ∨ s.dsc.state = .locked → serveTset seconds micros uncertainty s = (s, { result := .state }))
      ∧ (s.dsc.state = .free ∨ s.dsc.state = .holdover → 999999 < micros.toNat →
          serveTset seconds micros uncertainty s = (s, { result := .param }))
      ∧ (s.dsc.state = .free ∨ s.dsc.state = .holdover → micros.toNat ≤ 999999 →
          serveTset seconds micros uncertainty s
            = (s.hostSet (seconds.toNat * nsPerS + micros.toNat * 1000) uncertainty.toNat, { result := .ok })) := by
  unfold serveTset
  refine ⟨fun h => ?_, fun h hm => ?_, fun h hm => ?_⟩
  · rcases h with h | h <;> rw [h]
  · have large : maxMicros < micros.toNat := hm
    rcases h with h | h <;> rw [h] <;> exact if_pos large
  · have small : ¬ maxMicros < micros.toNat := Nat.not_lt.2 hm
    rcases h with h | h <;> rw [h] <;> exact if_neg small

/-- A reply is no event of the shift. -/
theorem Aside.answered (s : State) (kind tag : Byte) (result : Result) (body : List Byte) :
    Aside 0 s (s.answered kind tag result body) := .of_blocks rfl rfl rfl rfl rfl rfl

/-- The discipline after a TSET restarts its window with the host's U (R57). -/
theorem Discipline.hostSet_restarted (d : Discipline) (uncertainty limit : Nat) :
    (d.hostSet uncertainty limit).Restarted d.f uncertainty limit := ⟨rfl, rfl, rfl, rfl, rfl, rfl, rfl⟩

theorem State.localMinute_eq (s : State) : s.localMinute = LocalMinute.ofCount s.localCount := rfl

/-- The local minute depends on S, the leap and the offset alone. -/
theorem localCount_congr (hs : t.tsc.s = s.tsc.s) (hl : t.tsc.leap = s.tsc.leap) (hc : t.cfg = s.cfg) :
    t.localCount = s.localCount := by rw [State.localCount, State.localCount, hs, hl, hc]

/-- What TSET leaves in HOLDOVER: the step with its move of the local minute, and the restarted window (R8, R13, R57). -/
theorem State.hostSet_holdover (h : s.dsc.state = .holdover) (ns uncertainty : Nat) :
    let p := s.stepped ns .hostSet
    let q := p.trackChange false (LocalMinute.ofCount s.localCount)
    (s.hostSet ns uncertainty = (q.setDsc (q.dsc.hostSet uncertainty q.cfg.slewLimit)).evalClass)
      ∧ q.dsc = s.dsc ∧ q.rrx = s.rrx ∧ q.cfg = s.cfg ∧ q.lkc = s.lkc ∧ Unchanged Part.firing p q := by
  intro p q
  obtain ⟨-, dsc, rrx, cfg, lkc, -⟩ := s.stepped_leaves ns .hostSet
  have kept : Unchanged Part.firing p q := trackChange_unchanged p (List.Subset.refl _) false _
  have hdsc : q.dsc = s.dsc := (kept .dsc (by decide)).trans dsc
  have hcfg : q.cfg = s.cfg := (kept .cfg (by decide)).trans cfg
  refine ⟨?_, hdsc, (kept .rrx (by decide)).trans rrx, hcfg, (kept .lkc (by decide)).trans lkc, kept⟩
  have steps : s.stepTo ns .hostSet (decide (s.dsc.state = .free)) = q := by
    rw [State.stepTo_eq, decide_eq_false (by rw [h]; decide)]
    rfl
  rw [State.hostSet, steps]
  have state : (q.setDsc (q.dsc.hostSet uncertainty q.cfg.slewLimit)).evalClass.dsc.state = s.dsc.state := by
    rw [State.evalClass_dsc, State.setDsc_dsc, hdsc]
    show (if s.dsc.state = .free then _ else s.dsc.state) = _
    rw [if_neg (by rw [h]; decide)]
  rw [State.reportMove, if_pos state]

/-- What TSET leaves in FREE: the step with the tracker set, the discipline out of FREE, its report and the selection
(R8, R14, R36, R56, R57). -/
theorem State.hostSet_free (h : s.dsc.state = .free) (ns uncertainty : Nat) :
    ∃ m, s.hostSet ns uncertainty = m.evalSelection false ∧ m.tsc = { s.tsc.stepTo ns with tracker := m.tsc.tracker }
      ∧ m.tsc.tracker = some m.localMinute ∧ m.cfg = s.cfg ∧ m.lkc = s.lkc ∧ Aside 2 s m
      ∧ m.dsc.Restarted s.dsc.f uncertainty s.cfg.slewLimit
      ∧ m.dsc.state = (if s.dsc.view = some .a then .acquire else .holdover)
      ∧ m.rrx.selection = s.rrx.selection ∧ m.rrx.srcA.state = s.rrx.srcA.state ∧ m.rrx.srcB.state = s.rrx.srcB.state := by
  obtain ⟨tsc, dsc, rrx, cfg, lkc, quiet, -⟩ := s.stepped_leaves ns .hostSet
  have steps : s.stepTo ns .hostSet (decide (s.dsc.state = .free)) = (s.stepped ns .hostSet).trackLeave := by
    rw [State.stepTo_eq, decide_eq_true h]
    rfl
  rw [State.hostSet, steps]
  generalize s.stepped ns .hostSet = p at *
  generalize hq : p.trackLeave.setDsc (p.trackLeave.dsc.hostSet uncertainty p.trackLeave.cfg.slewLimit) = q
  have tscq : q.tsc = { p.tsc with tracker := some p.localMinute } := by rw [← hq]; rfl
  have dscq : q.dsc = s.dsc.hostSet uncertainty s.cfg.slewLimit := by rw [← hq, ← dsc, ← cfg]; rfl
  have state : q.evalClass.dsc.state = if s.dsc.view = some .a then .acquire else .holdover := by
    rw [State.evalClass_dsc, dscq]
    exact if_pos h
  have left : q.evalClass.dsc.state ≠ .free := by rw [state]; split <;> decide
  have quietq : Aside 1 s q := by
    have set : Aside 0 p q := by
      rw [← hq]
      exact (Aside.of_blocks (t := p.trackLeave) rfl rfl rfl rfl rfl rfl).trans (.setDsc _ _)
    exact quiet.trans set
  have move : q.evalClass.reportMove s.dsc.state = (q.evalClass.reportDisc .free).evalSelection false := by
    rw [State.reportMove, if_neg (by rw [h]; exact left), if_pos h, h]
  rw [move]
  obtain ⟨tscr, dscr, rrxr, lkcr, -, cfgr, -⟩ := q.evalClass.reportDisc_leaves .free
  have rrxq : q.evalClass.rrx = s.rrx := by rw [State.evalClass_rrx, ← hq, ← rrx]; rfl
  have told : ∀ r : Receiver, (r.told .free q.evalClass.dsc.state).selection = r.selection
      ∧ (r.told .free q.evalClass.dsc.state).srcA.state = r.srcA.state
      ∧ (r.told .free q.evalClass.dsc.state).srcB.state = r.srcB.state := fun r => by
    rw [Receiver.told]
    split <;> exact ⟨rfl, rfl, rfl⟩
  obtain ⟨sel, a, b⟩ := told s.rrx
  refine ⟨_, rfl, ?_, ?_, ?_, ?_, ?_, ?_, ?_, ?_, ?_, ?_⟩
  · rw [tscr, State.evalClass_tsc, tscq, tsc]
  · have cfg' : (q.evalClass.reportDisc .free).cfg = p.cfg := by rw [cfgr, State.evalClass_cfg, ← hq]; rfl
    rw [tscr, State.evalClass_tsc, State.localMinute, cfg', tscr, State.evalClass_tsc, tscq]
    rfl
  · rw [cfgr, State.evalClass_cfg, ← hq, ← cfg]; rfl
  · rw [lkcr, State.evalClass_lkc, ← hq, ← lkc]; rfl
  · exact (quietq.trans (.evalClass q)).trans (.reportDisc _ _)
  · rw [dscr, State.evalClass_dsc]
    exact (s.dsc.hostSet_restarted uncertainty s.cfg.slewLimit).of_eq (by rw [dscq]) (by rw [dscq]) (by rw [dscq]) (by rw [dscq])
      (by rw [dscq]) (by rw [dscq]) (by rw [dscq])
  · rw [dscr, state]
  · rw [rrxr, rrxq, sel]
  · rw [rrxr, rrxq, a]
  · rw [rrxr, rrxq, b]

theorem hostSet_unchanged (s : State) (ns uncertainty : Nat) : Unchanged Part.disciplining s (s.hostSet ns uncertainty) := by
  have move (m : State) : Unchanged Part.disciplining m (m.reportMove s.dsc.state) := by
    rw [State.reportMove]
    split_ifs
    · exact Unchanged.refl _ _
    · exact (reportDisc_unchanged m (by decide) (by decide) _).trans
        (evalSelection_unchanged _ (by decide) (by decide) (by decide) _)
    · exact reportDisc_unchanged m (by decide) (by decide) _
  exact (((stepTo_unchanged s (List.Subset.refl _) _ _ _).trans (setDsc_unchanged _ (by decide) _)).trans
    (evalClass_unchanged _ (by decide) (by decide))).trans (move _)

/-- Settles O18: the request by its case, and a taken one as `hostSet_free` or `hostSet_holdover` says. -/
theorem tsetStepsToTheHostsTime : Obligations.TsetStepsToTheHostsTime := by
  intro tag seconds micros uncertainty s hr hold
  have ha : s.accepts .tset := ⟨hr, (State.busy_of_holdupOnly rfl rfl s).trans hold⟩
  obtain ⟨refused, tooLarge, taken⟩ := serveTset_cases seconds micros uncertainty s
  refine ⟨fun h => congrArg _ (State.takeRequest_of_serve tag ha (refused h)),
    fun h hm => congrArg _ (State.takeRequest_of_serve tag ha (tooLarge h hm)), fun h hm => ?_⟩
  have row : exec (.tset tag seconds micros uncertainty) s = .next ((s.hostSet (seconds.toNat * nsPerS + micros.toNat * 1000)
      uncertainty.toNat).answered 0x11 tag .ok []) := congrArg _ (State.takeRequest_of_serve tag ha (taken h hm))
  have tsc := s.tsc.stepTo_eq seconds.isLt hm
  generalize hns : seconds.toNat * nsPerS + micros.toNat * 1000 = ns at row tsc
  have dsc {d : Discipline} (hd : d.Restarted s.dsc.f uncertainty.toNat s.cfg.slewLimit) :
      d.u = uncertainty.toNat ∧ d.f = s.dsc.f ∧ d.lock = 0 ∧ d.sum = 0 ∧ d.count = 0 ∧ d.prev = none
        ∧ d.c = clampInt (-s.dsc.f) (-(s.cfg.slewLimit : Int)) s.cfg.slewLimit := by
    obtain ⟨h1, h2, h3, h4, h5, h6, h7⟩ := hd
    exact ⟨h2, h1, h3, h4, h5, h6, h7⟩
  have changed : Unchanged (.lkc :: Part.disciplining) s ((s.hostSet ns uncertainty.toNat).answered 0x11 tag .ok []) :=
    ((hostSet_unchanged s ns uncertainty.toNat).mono (by decide)).trans (sendReply_unchanged _ (by decide) _ _ _)
  rcases h with free | held
  · obtain ⟨m, e, mtsc, tracker, mcfg, mlkc, quiet, restarted, state, sel, srcA, srcB⟩ :=
      State.hostSet_free free ns uncertainty.toNat
    rw [e] at row changed
    have kept := evalSelection_unchanged (L := Part.supervising) m (by decide) (by decide) (by decide) false
    have ktsc := kept.tsc_eq (by decide) (by decide) (by decide) (by decide)
    have kcfg : (m.evalSelection false).cfg = m.cfg := kept .cfg (by decide)
    have krestarted := State.evalSelection_restarted (mcfg ▸ restarted) false
    rw [mcfg] at krestarted
    have asides := quiet.trans (.evalSelection m false)
    have same (h : m.selectionNow false = m.rrx.selection) : (m.evalSelection false).dsc = m.dsc := by
      rw [State.evalSelection_same h]; rfl
    generalize m.evalSelection false = k at *
    have tscs : k.tsc = { s.tsc.stepTo ns with tracker := m.tsc.tracker } := ktsc.trans mtsc
    rw [tsc] at tscs
    have local' : k.tsc.tracker = some (LocalMinute.ofCount k.localCount) := by
      rw [ktsc, tracker, State.localMinute_eq, localCount_congr (congrArg TimeScale.s ktsc) (congrArg TimeScale.leap ktsc) kcfg]
    refine ⟨k, _, (kept .lkc (by decide)).trans mlkc, rfl, row, ?_, ?_⟩
    · show k.tsc.s = _ ∧ k.tsc.n = _ ∧ k.tsc.epoch = _ ∧ k.tsc.e = _ ∧ k.tsc.leap = _ ∧ k.tsc.pendingLeap = _
      rw [tscs]
      exact ⟨rfl, rfl, rfl, rfl, rfl, rfl⟩
    · obtain ⟨h1, h2, h3, h4, h5, h6, h7⟩ := dsc krestarted
      refine ⟨h1, h2, h3, h4, h5, h6, h7, fun h => ?_, fun _ => ⟨(asides.trans (.answered k _ _ _ _)).nothingFires, local'⟩,
        fun _ hv hs ha hb => ⟨?_, ?_⟩, fun _ hv hs ha hp => ?_, changed⟩
      · rw [free] at h; cases h
      · have none := State.selectionNow_none (s := m) (by rw [srcA]; exact ha) (by rw [srcB]; exact hb) false
        show k.dsc.state = _
        rw [same (none.trans (sel.trans hs).symm), state, hv]
        exact if_neg (by decide)
      · show k.tsc.tracker = _
        rw [local', State.localCount, kcfg, mcfg]
        rfl
      · have a := State.selectionNow_a (s := m) (sel.trans hs) (srcA.trans ha) (by rw [mcfg, srcB]; exact hp)
        show k.dsc.state = _
        rw [same (a.trans (sel.trans hs).symm), state, hv]
        exact if_pos rfl
  · obtain ⟨e, hdsc, hrrx, hcfg, hlkc, kept⟩ := State.hostSet_holdover held ns uncertainty.toNat
    obtain ⟨ptsc, -, -, pcfg, -, quiet, -⟩ := s.stepped_leaves ns .hostSet
    rw [e] at row changed
    have moves {t : State} := State.trackChange_leaves (held := false) (old := s.localCount) (t := t) (l := 0) quiet
      (by rw [ptsc, TimeScale.stepTo_tracker])
    generalize s.stepped ns .hostSet = p at *
    generalize p.trackChange false (LocalMinute.ofCount s.localCount) = q at *
    obtain ⟨ts, tn, te, tsub, -⟩ := kept .clock (by decide)
    obtain ⟨tl, tp⟩ := kept .leap (by decide)
    have tepoch : q.tsc.epoch = p.tsc.epoch := kept .epoch (by decide)
    rw [ptsc, tsc] at ts tn te tl tp tepoch
    generalize hk : (q.setDsc (q.dsc.hostSet uncertainty.toNat q.cfg.slewLimit)).evalClass = k at *
    have ktsc : k.tsc = q.tsc := by rw [← hk, State.evalClass_tsc]; rfl
    have kdsc : k.dsc = { s.dsc.hostSet uncertainty.toNat s.cfg.slewLimit with effClass := k.dsc.effClass } := by
      rw [← hk, State.evalClass_dsc, State.setDsc_dsc, hdsc, hcfg]
    have krestarted : k.dsc.Restarted s.dsc.f uncertainty.toNat s.cfg.slewLimit := by
      rw [kdsc]
      exact (s.dsc.hostSet_restarted uncertainty.toNat s.cfg.slewLimit).of_eq rfl rfl rfl rfl rfl rfl rfl
    have after : Aside 0 q (k.answered 0x11 tag .ok []) := by
      rw [← hk]
      exact ((Aside.setDsc q _).trans (.evalClass _)).trans (.answered _ _ _ _ _)
    refine ⟨k, _, ?_, rfl, row, ?_, ?_⟩
    · rw [← hk, State.evalClass_lkc, State.setDsc_lkc, hlkc]
    · show k.tsc.s = _ ∧ k.tsc.n = _ ∧ k.tsc.epoch = _ ∧ k.tsc.e = _ ∧ k.tsc.leap = _ ∧ k.tsc.pendingLeap = _
      rw [ktsc]
      exact ⟨ts, tn, tepoch, te, tl, tp⟩
    · obtain ⟨h1, h2, h3, h4, h5, h6, h7⟩ := dsc krestarted
      refine ⟨h1, h2, h3, h4, h5, h6, h7, fun _ => ⟨?_, ?_, ?_⟩, fun h => ?_, fun h => ?_, fun h => ?_, changed⟩
      · show k.dsc.state = _
        rw [kdsc]
        show (if s.dsc.state = .free then _ else s.dsc.state) = _
        rw [if_neg (by rw [held]; decide), held]
      · show k.rrx = _
        rw [← hk, State.evalClass_rrx, State.setDsc_rrx, hrrx]
      · have count : p.localMinute.count = (k.answered 0x11 tag .ok []).localCount := by
          rw [State.localMinute_eq, LocalMinute.count_ofCount]
          refine (localCount_congr (s := p) (t := k.answered 0x11 tag .ok []) ?_ ?_ ?_).symm
          · show k.tsc.s = _
            rw [ktsc, ts, ptsc, tsc]
          · show k.tsc.leap = _
            rw [ktsc, tl, ptsc, tsc]
          · show k.cfg = _
            rw [← hk, State.evalClass_cfg, State.setDsc_cfg, hcfg, pcfg]
        rw [← count]
        exact moves after (congrArg TimeScale.tracker ktsc) (congrArg TimeScale.e ktsc) (by decide)
      · rw [held] at h; cases h
      · rw [held] at h; cases h
      · rw [held] at h; cases h

end Sys2Proof.Machine

/-! PROOFS. The lines of LQU: a pin change (R72, R74 to R76, R79). -/

namespace Sys2Proof.Machine

variable {s : State} {i : Nat}

/-! ### A line written -/

theorem setNth_twice {α : Type} {k : Nat} (v : Vector α k) (i : Nat) (x y : α) :
    setNth (setNth v i x) i y = setNth v i y := by
  unfold setNth
  split
  · rfl
  · exact Vector.ext fun j hj => by
      simp only [Vector.getElem_setIfInBounds]
      split <;> rfl

/-- The last of two lines written stands. -/
theorem State.setLine_setLine (s : State) (i : Nat) (x y : Line) : (s.setLine i x).setLine i y = s.setLine i y :=
  congrArg s.setLqu (setNth_twice _ _ _ _)

/-- A line written as it stands. -/
theorem State.setLine_line (s : State) (i : Nat) : s.setLine i (s.line i) = s := by
  refine congrArg s.setLqu (?_ : setNth s.lqu i (nth s.lqu i) = s.lqu)
  unfold setNth nth
  split
  · rfl
  · refine Vector.ext fun j hj => ?_
    rw [Vector.getElem_setIfInBounds]
    split
    next h => subst h; simp [hj]
    next => rfl

theorem lineExists_of (h1 : 1 ≤ i) (h32 : i ≤ 32) : lineExists i = true := decide_eq_true ⟨h1, h32⟩

/-! ### Pin changes -/

/-- The line after a raw edge, its pin moved (R75, R79). -/
def State.edged (s : State) (i : Nat) (high : Bool) : Line :=
  { s.line i with
    pinHigh := high, lastRawEdge := some s.tsc.e
    quiet := if (s.line i).state = .chatter then some (s.tsc.e + s.cfg.window) else (s.line i).quiet }

/-- The change that a raw edge starts (R75). -/
def State.change (s : State) (i : Nat) (high : Bool) : PendingChange :=
  { level := high != (s.lineCfg i).activeLow, raw := compensate s.latch (s.lineCfg i).comp
    expiry := s.tsc.e + (s.lineCfg i).filter * 1000 }

/-- The line with that change pending. -/
def State.changing (s : State) (i : Nat) (high : Bool) : State :=
  s.setLine i { s.edged i high with
    pending := some (s.change i high), state := if (s.line i).state = .chatter then .chatter else .pending }

/-- What a pin change does, by the kind of the line and its pending change (R72, R74 to R76). -/
theorem State.pinChange_cases (h1 : 1 ≤ i) (h32 : i ≤ 32) (high : Bool) (s : State) :
    ((s.line i).pinHigh = high → s.pinChange i high = s)
      ∧ ((s.line i).pinHigh ≠ high → (s.lineCfg i).kind = .unused →
          s.pinChange i high = s.setLine i { s.line i with pinHigh := high })
      ∧ ((s.line i).pinHigh ≠ high → (s.lineCfg i).kind ≠ .unused → (s.line i).pending.isSome = true →
          s.pinChange i high = s.setLine i { s.edged i high with
            pending := none, bounce := satAdd (s.line i).bounce 1 255
            state := if (s.line i).state = .chatter then .chatter else .steady })
      ∧ ((s.line i).pinHigh ≠ high → (s.lineCfg i).kind ≠ .unused → (s.line i).pending = none →
          s.pinChange i high = if (s.lineCfg i).filter = 0 then (s.changing i high).qualify i (s.change i high)
            else s.changing i high) := by
  have line (t : State) (x : Line) : (t.setLine i x).line i = x := t.line_setLine_self x ⟨h1, h32⟩
  have cfg (t : State) (x : Line) : (t.setLine i x).lineCfg i = t.lineCfg i := rfl
  have level (t : State) (x : Line) : (t.setLine i x).lineLevel i = (x.pinHigh != (t.lineCfg i).activeLow) := by
    rw [State.lineLevel, line, cfg]
  refine ⟨fun h => if_pos h, fun h k => ?_, fun h k p => ?_, fun h k p => ?_⟩
  · exact (if_neg h).trans (if_pos k)
  · refine (if_neg h).trans ((if_neg k).trans ?_)
    simp only [State.rawEdge, line, p, if_true, State.bounce, State.setLine_setLine]
    rfl
  · refine (if_neg h).trans ((if_neg k).trans ?_)
    simp only [State.rawEdge, line, p, Option.isSome_none, Bool.false_eq_true, if_false, State.startPending, level, cfg,
      State.setLine_setLine]
    rfl

/-- A pending change whose expiry E has reached qualifies (R76). -/
theorem exec_filterExpiry_now {p : PendingChange} (h1 : 1 ≤ i) (h32 : i ≤ 32) (h : (s.line i).pending = some p)
    (now : p.expiry ≤ s.tsc.e) : exec (.filterExpiry i) s = .next (s.qualify i p) := by
  have instant : TimedEvent.instant s (.filter i) = some p.expiry := by
    show (s.line i).pending.map (·.expiry) = _
    rw [h]
    rfl
  have reached : s.await (.filter i) (TimedEvent.instant s (.filter i)) = s.filterReached i := by
    rw [instant]
    show (if TimedEvent.instant (s.runToE p.expiry) (.filter i) = some p.expiry then _ else _) = _
    rw [State.runToE_of_le now, if_pos instant]
    rfl
  refine (if_pos (lineExists_of h1 h32)).trans (congrArg Host.Outcome.next (reached.trans ?_))
  rw [State.filterReached, h]

/-- Settles O50: the cases of a pin change; one that qualifies at once is the filter expiry reached at the same instant. -/
theorem pinChangesStartOrReturn : Obligations.PinChangesStartOrReturn := by
  intro i high s h1 h32
  have exists_ := lineExists_of h1 h32
  obtain ⟨same, unused, bounces, starts⟩ := State.pinChange_cases h1 h32 high s
  have both (t : State) (h : s.pinChange i high = t) :
      exec (.rawEdge i high) s = .next t ∧ exec (.unusedLinePinChange i high) s = .next t :=
    ⟨(if_pos exists_).trans (congrArg _ h), (if_pos exists_).trans (congrArg _ h)⟩
  refine ⟨fun h => both _ (same h), fun k => ?_, fun k h => ⟨fun p => ?_, fun p f => ?_, fun p f => ?_⟩, fun y j => ?_⟩
  · have moved : s.pinChange i high = s.setLine i { s.line i with pinHigh := high } := by
      by_cases h : (s.line i).pinHigh = high
      · rw [same h, ← h]
        exact (s.setLine_line i).symm
      · exact unused h k
    exact (both _ moved).symm
  · exact (both _ (bounces h k p)).1
  · exact (both _ ((starts h k p).trans (if_neg f))).1
  · refine (both _ ((starts h k p).trans (if_pos f))).1.trans ?_
    have pending : ((s.changing i high).line i).pending = some (s.change i high) := by
      rw [State.changing, State.line_setLine_self _ _ ⟨h1, h32⟩]
    have now : (s.change i high).expiry = s.tsc.e := by rw [State.change, f, Nat.zero_mul]; exact Nat.add_zero _
    exact (exec_filterExpiry_now h1 h32 pending (Nat.le_of_eq now)).symm
  · refine ⟨?_, setLine_unchanged s (by decide) _ _⟩
    by_cases hj : j = i
    · rw [if_pos hj, hj]
      exact s.line_setLine_self y ⟨h1, h32⟩
    · rw [if_neg hj]
      exact nth_setNth_other _ _ _ _ hj

end Sys2Proof.Machine

/-! PROOFS. What a delivered change is handed on to (R82 to R85, R110, R115 to R117, R124, R148, R162). `Precedes` says what a
command may have done before, `Noted` what records and notices add. -/

namespace Sys2Proof.Machine

variable {s t m : State} {i j k u : Nat} {l : Latch}

/-! ### What comes before -/

/-- What a command may do before it hands a change on: it places `k` records. -/
structure Precedes (k : Nat) (s m : State) : Prop where
  tlu : m.tlu = s.tlu
  cfg : m.cfg = s.cfg
  units : m.shu.current.units = s.shu.current.units
  station : m.shu.current.stationTrips = s.shu.current.stationTrips
  trips : Part.trips.same s m
  evq : s.evq.records.length + k ≤ 318 → ∀ n, s.evq.nextSeq = some n → k = 0 ∨ n + k ≤ max32 →
    ∃ more : List Record, more.length = k ∧ m.evq.records = s.evq.records ++ more ∧ m.evq.nextSeq = some (n + k)

theorem Precedes.of_blocks (tlu : m.tlu = s.tlu) (cfg : m.cfg = s.cfg) (shu : m.shu = s.shu) (evq : m.evq = s.evq) :
    Precedes 0 s m where
  tlu := tlu
  cfg := cfg
  units := by rw [shu]
  station := by rw [shu]
  trips := by simp only [Part.same, shu, and_self]
  evq := fun _ n hn _ => ⟨[], rfl, by rw [evq, List.append_nil], by rw [evq, hn]; rfl⟩

/-- One record placed before. -/
theorem Precedes.place (s : State) (p : Placement) : Precedes 1 s (s.place p) := by
  obtain ⟨loss, shu⟩ := s.place_shu p
  refine ⟨s.place_tlu p, by rw [State.place_cfg], by rw [shu], by rw [shu], by simp only [Part.same, shu, and_self],
    fun room n hn numbers => ⟨[{ s.recordOf p with seq := n }], rfl, s.place_records p hn (by omega), ?_⟩⟩
  rw [State.place, State.placeSeq_of_room p hn (by omega)]
  exact if_neg (by omega)

theorem Precedes.then_blocks {m' : State} (h : Precedes k s m) (tlu : m'.tlu = m.tlu) (cfg : m'.cfg = m.cfg)
    (shu : m'.shu = m.shu) (evq : m'.evq = m.evq) : Precedes k s m' := by
  obtain ⟨h1, h2, h3, h4, h5, h6⟩ := h
  refine ⟨tlu.trans h1, cfg.trans h2, by rw [shu, h3], by rw [shu, h4], ?_, by rw [evq]; exact h6⟩
  simp only [Part.same] at h5 ⊢
  rw [shu]
  exact h5

theorem Precedes.unit (h : Precedes k s m) (u : Nat) : m.unit u = s.unit u := by rw [State.unit, State.unit, h.tlu]

theorem Precedes.lineCfg (h : Precedes k s m) (i : Nat) : m.lineCfg i = s.lineCfg i := by
  rw [State.lineCfg, State.lineCfg, h.cfg]

/-- The trip seen from before the records that precede it. -/
theorem TripTaken.of_precedes (h : Precedes k s m) (ht : TripTaken 0 i l m t) : TripTaken k i l s t := by
  obtain ⟨tlu, cfg, units, station, ⟨openTrips, overflow⟩, evq⟩ := id h
  dsimp only [TripTaken] at ht ⊢
  rw [h.lineCfg, h.unit, units, station, openTrips, overflow] at ht
  obtain ⟨counts, stations, notice, listed, records⟩ := ht
  refine ⟨counts, stations, notice, listed, fun room n hn numbers => ?_⟩
  obtain ⟨more, length, recs, next⟩ := evq room n hn numbers
  have len : m.evq.records.length = s.evq.records.length + k := by rw [recs, List.length_append, length]
  obtain ⟨held, ⟨r, hr, fields⟩, list⟩ := records (by omega) (n + k) next (.inl rfl)
  refine ⟨(recs ▸ List.prefix_append _ _).trans held, ⟨r, ?_, fields⟩, list⟩
  rw [← len]
  exact hr

/-! ### A trip (R84, R110, R124, R148, R162) -/

/-- The trip's record asked of EVQ (R94). -/
def State.tripPlacement (s : State) (i : Nat) (l : Latch) : Placement :=
  let u := (s.lineCfg i).unit
  { detail := (s.countTrip u).tripDetail u, source := i, station := decide (u = 0), date := some (dateOf l) }

/-- The open trip list after a trip is offered to it (R162). -/
theorem ShiftUnitState.listTrip_cases (h : ShiftUnitState) (u : Nat) (d : Date) (o : Option Nat) :
    (h.listTrip u d o).current = h.current
      ∧ ((h.listTrip u d o).openTrips.length = h.openTrips.length + 1 ∨ (h.listTrip u d o).overflow = true)
      ∧ (∀ n, o = some n → h.openTrips.length < 16 → (∀ y ∈ h.openTrips, y.seq ≠ n) →
          (h.listTrip u d o).openTrips = h.openTrips ++ [{ seq := n, unit := u, date := d }]
          ∧ (h.listTrip u d o).overflow = h.overflow) := by
  cases o with
  | none => exact ⟨rfl, .inr rfl, fun _ e => nomatch e⟩
  | some n =>
    simp only [ShiftUnitState.listTrip]
    split_ifs with hseq hlen
    · refine ⟨rfl, .inr rfl, fun n' e _ fresh => ?_⟩
      cases e
      obtain ⟨y, hy, e⟩ := List.any_eq_true.1 hseq
      exact absurd (beq_iff_eq.1 e) (fresh y hy)
    · refine ⟨rfl, .inr rfl, fun n' _ few => ?_⟩
      unfold openTripCapacity at hlen
      omega
    · refine ⟨rfl, .inl (by rw [List.length_append]; rfl), fun n' e _ _ => ?_⟩
      cases e
      exact ⟨rfl, rfl⟩

/-- The unit of a counted trip (R124 step 1). -/
theorem State.countTrip_unit (s : State) {u : Nat} (hu : 1 ≤ u ∧ u ≤ 8) (v : Nat) : (s.countTrip u).unit v =
    if v = u then { s.unit u with tally := { (s.unit u).tally with trips := min ((s.unit u).tally.trips + 1) 65535 } }
    else s.unit v := by
  rw [State.countTrip, if_neg (by omega)]
  exact s.unit_setUnit _ _ _ hu

/-- A counted trip changes the tallies alone. -/
theorem State.countTrip_eq (s : State) (u : Nat) : ∃ x, s.countTrip u = s.setTlu x := by
  rw [State.countTrip]
  split
  · exact ⟨s.tlu, rfl⟩
  · exact ⟨_, rfl⟩

/-- The trip path as a placing, the shift told and the notice (R84). -/
theorem State.tripPath_eq (s : State) (i : Nat) (l : Latch) :
    let u := (s.lineCfg i).unit
    let p := (s.countTrip u).place (s.tripPlacement i l)
    ∃ o, s.tripPath i l = (p.shiftTrip u (dateOf l) o).notifyTrip i ∧ (p.shiftTrip u (dateOf l) o).cfg = s.cfg
      ∧ (∀ n, s.evq.nextSeq = some n → s.evq.records.length ≤ 318 → o = some n) := by
  obtain ⟨x, e⟩ := s.countTrip_eq (s.lineCfg i).unit
  refine ⟨((s.countTrip (s.lineCfg i).unit).placeSeq (s.tripPlacement i l)).2, rfl, ?_, fun n hn room => ?_⟩
  · exact (State.place_cfg _ _).trans (by rw [e]; rfl)
  · have hn' : (s.countTrip (s.lineCfg i).unit).evq.nextSeq = some n := by rw [e]; exact hn
    have room' : (s.countTrip (s.lineCfg i).unit).evq.records.length ≤ 318 := by rw [e]; exact room
    exact congrArg Prod.snd (State.placeSeq_of_room _ hn' room')

/-- The notice changes the notices alone, and the flag stands when LINE_NOTIFY is 1 (R84). -/
theorem State.notifyTrip_eq (s : State) (i : Nat) : ∃ x, s.notifyTrip i = s.setNtc x
    ∧ ((s.lineCfg i).notify = true → x.flags.getLsbD 0 = true)
    ∧ ∀ v : Notice, s.ntc.flags.getLsbD v.index = true → x.flags.getLsbD v.index = true := by
  rw [State.notifyTrip]
  split
  next h =>
    refine ⟨_, rfl, fun _ => (NoticeUnit.raise_flag _ .trip .trip _).trans (Bool.or_true _), fun v hv => ?_⟩
    rw [NoticeUnit.raise_flag, hv, Bool.true_or]
  next h => exact ⟨s.ntc, rfl, fun h' => absurd h' h, fun _ => id⟩

/-- The counts of the shift after a trip (R148). -/
theorem ShiftRecord.countTrip_cases (r : ShiftRecord) (u : Nat) :
    (1 ≤ u ∧ u ≤ 8 → (nth (r.countTrip u).units u).trips = min ((nth r.units u).trips + 1) 255
        ∧ (r.countTrip u).stationTrips = r.stationTrips)
      ∧ (u = 0 → (r.countTrip u).stationTrips = min (r.stationTrips + 1) 255 ∧ (r.countTrip u).units = r.units) := by
  rw [ShiftRecord.countTrip]
  refine ⟨fun hu => ?_, fun hu => ?_⟩
  · rw [if_neg (by omega), nth_setNth_self _ _ _ hu]
    exact ⟨rfl, rfl⟩
  · rw [if_pos hu]
    exact ⟨rfl, rfl⟩

/-- The trip's record with its snapshot of the unit (R94, R124). -/
theorem State.tripPlacement_detail (s : State) (i : Nat) (l : Latch) (hu : (s.lineCfg i).unit ≤ 8) :
    let u := (s.lineCfg i).unit
    let g := s.unit u
    (s.tripPlacement i l).detail = if u = 0 then .trip 0 .none 0 0
      else .trip u g.mode (if g.mode = .none then 0 else min ((s.tsc.e - g.entry) / 1000000) max32)
        (min (g.tally.trips + 1) 65535) := by
  dsimp only [State.tripPlacement, State.tripDetail]
  split
  · rfl
  next h =>
    obtain ⟨x, e⟩ := s.countTrip_eq (s.lineCfg i).unit
    rw [s.countTrip_unit ⟨by omega, hu⟩, if_pos rfl, e]
    rfl

/-- A trip of the line is taken (R84). -/
theorem State.tripPath_taken (s : State) (l : Latch) (hu : (s.lineCfg i).unit ≤ 8) : TripTaken 0 i l s (s.tripPath i l) := by
  obtain ⟨o, path, cfg, outcome⟩ := s.tripPath_eq i l
  obtain ⟨x, counted⟩ := s.countTrip_eq (s.lineCfg i).unit
  have detail := s.tripPlacement_detail i l hu
  obtain ⟨loss, shu⟩ := (s.countTrip (s.lineCfg i).unit).place_shu (s.tripPlacement i l)
  have tlu := (s.countTrip (s.lineCfg i).unit).place_tlu (s.tripPlacement i l)
  have units := s.countTrip_unit (u := (s.lineCfg i).unit)
  have tsc := State.place_tsc (s.countTrip (s.lineCfg i).unit) (s.tripPlacement i l)
  have records (n : Nat) (hn : s.evq.nextSeq = some n) (room : s.evq.records.length ≤ 318) :
      ((s.countTrip (s.lineCfg i).unit).place (s.tripPlacement i l)).evq.records = s.evq.records
        ++ [{ (s.recordOf (s.tripPlacement i l)) with seq := n }] := by
    rw [State.place_records _ (by rw [counted]; exact hn) (by rw [counted]; exact room), counted]
    rfl
  have shus : (s.countTrip (s.lineCfg i).unit).shu = s.shu := by rw [counted]; rfl
  have tscs : (s.countTrip (s.lineCfg i).unit).tsc = s.tsc := by rw [counted]; rfl
  rw [shus] at shu
  rw [tscs] at tsc
  rw [path]
  generalize (s.countTrip (s.lineCfg i).unit).place (s.tripPlacement i l) = p at *
  obtain ⟨current, listed, list⟩ := ({ p.shu with current := p.shu.current.countTrip (s.lineCfg i).unit } : ShiftUnitState).listTrip_cases
    (s.lineCfg i).unit (dateOf l) o
  obtain ⟨ofUnit, ofStation⟩ := p.shu.current.countTrip_cases (s.lineCfg i).unit
  obtain ⟨ntc, e, notice, -⟩ := (p.shiftTrip (s.lineCfg i).unit (dateOf l) o).notifyTrip_eq i
  rw [State.lineCfg, cfg] at notice
  rw [e]
  generalize hq : (p.shiftTrip (s.lineCfg i).unit (dateOf l) o).setNtc ntc = q
  have qshu : q.shu = ({ p.shu with current := p.shu.current.countTrip (s.lineCfg i).unit } : ShiftUnitState).listTrip
      (s.lineCfg i).unit (dateOf l) o := by rw [← hq]; rfl
  have qevq : q.evq = p.evq := by rw [← hq]; rfl
  have qtlu : q.tlu = p.tlu := by rw [← hq]; rfl
  have qtsc : q.tsc = p.tsc := by rw [← hq]; rfl
  have qntc : q.ntc = ntc := by rw [← hq]; rfl
  rw [← qshu] at current listed list
  have qunit (v : Nat) : q.unit v = (s.countTrip (s.lineCfg i).unit).unit v := by rw [State.unit, qtlu, tlu]; rfl
  rw [shu] at listed list ofUnit ofStation
  refine ⟨fun h1 => ?_, fun h0 => ?_, fun hn => ?_, listed, fun room n hn _ => ?_⟩
  · obtain ⟨trips, stations⟩ := ofUnit ⟨h1, hu⟩
    rw [qunit, units ⟨h1, hu⟩, if_pos rfl, current, shu]
    exact ⟨rfl, trips, stations⟩
  · rw [current, shu]
    exact ofStation h0
  · rw [qntc]
    exact notice hn
  · have recs := records n hn room
    refine ⟨by rw [qevq, recs]; exact List.prefix_append _ _, ⟨{ s.recordOf (s.tripPlacement i l) with seq := n }, ?_, rfl, rfl, rfl, rfl, rfl, rfl, ?_⟩, ?_⟩
    · rw [qevq, recs]
      exact List.getElem?_concat_length
    · rw [qtsc, tsc]
      exact detail
    · exact list n (outcome n hn room)

end Sys2Proof.Machine

/-! PROOFS. A unit enters a mode, and a status change (R115 to R117, R122, R148). `Noted` says what the records, the notices and
the evaluations of a unit leave. -/

namespace Sys2Proof.Machine

variable {s t m : State} {i j k n u v : Nat} {l : Latch}

/-! ### The queue only grows while there is room (R99) -/

/-- The newest record is no marker, or the queue is full. -/
def EventQueue.fresh (q : EventQueue) : Prop := q.newestIsMarker = false ∨ q.records.length = 320

/-- With room for `k` records, those held stay and at most `k` come; the last place also serves when the newest is no marker. -/
structure Grows (k : Nat) (s t : State) : Prop where
  held : s.evq.records.length + k ≤ 319 ∨ s.evq.records.length + k ≤ 320 ∧ s.evq.fresh →
    s.evq.records <+: t.evq.records ∧ t.evq.records.length ≤ s.evq.records.length + k
  fresh : s.evq.records.length + k ≤ 320 → s.evq.fresh → t.evq.fresh

theorem Grows.of_eq (h : t.evq = s.evq) : Grows 0 s t where
  held := fun _ => by rw [h]; exact ⟨List.prefix_refl _, Nat.le_refl _⟩
  fresh := fun _ f => by rw [h]; exact f

theorem Grows.trans {t' : State} (h : Grows j s t) (h' : Grows k t t') : Grows (j + k) s t' where
  held := fun room => by
    obtain ⟨p, len⟩ := h.held (room.imp (by omega) fun ⟨r, f⟩ => ⟨by omega, f⟩)
    obtain ⟨p', len'⟩ := h'.held (room.imp (by omega) fun ⟨r, f⟩ => ⟨by omega, h.fresh (by omega) f⟩)
    exact ⟨p.trans p', by omega⟩
  fresh := fun room f => by
    obtain ⟨-, len⟩ := h.held (.inr ⟨by omega, f⟩)
    exact h'.fresh (by omega) (h.fresh (by omega) f)

theorem Grows.mono (h : Grows j s t) (hk : j ≤ k) : Grows k s t where
  held := fun room => by
    obtain ⟨p, len⟩ := h.held (room.imp (by omega) fun ⟨r, f⟩ => ⟨by omega, f⟩)
    exact ⟨p, by omega⟩
  fresh := fun room f => h.fresh (by omega) f

/-- A record that is appended is then the newest. -/
theorem EventQueue.fresh_append (q : EventQueue) (n : Nat) {r : Record} (h : r.detail.isMarker = false) : (q.append n r).fresh := by
  refine .inl ?_
  rw [EventQueue.newestIsMarker, EventQueue.append, List.getLast?_concat]
  exact h

/-- A record is appended, lost without a number, or replaced by a marker at the last place but one (R98 to R102). -/
theorem Grows.place (s : State) (p : Placement) (hp : p.detail.isMarker = false) : Grows 1 s (s.place p) := by
  have cases' (room : s.evq.records.length ≤ 318 ∨ s.evq.records.length ≤ 319 ∧ s.evq.fresh) :
      (s.place p).evq.records = s.evq.records
        ∨ (∃ r, (s.place p).evq.records = s.evq.records ++ [r]) ∧ ((s.place p).evq.fresh) := by
    rw [State.place_evq, EventQueue.place]
    cases hn : s.evq.nextSeq with
    | none => exact .inl rfl
    | some n =>
      have appended := s.evq.fresh_append n (r := s.recordOf p) hp
      cases s.cfg.queuePolicy with
      | stop =>
        dsimp only [EventQueue.placeStop]
        by_cases few : s.evq.records.length ≤ 318
        · rw [if_pos few]
          exact .inr ⟨⟨_, rfl⟩, appended⟩
        · obtain ⟨len, f⟩ := room.resolve_left few
          have last : s.evq.records.length = 319 := by omega
          have marker : s.evq.newestIsMarker = false := f.resolve_right (by omega)
          rw [EventQueue.newestIsMarker] at marker
          rw [if_neg few, marker, if_neg Bool.false_ne_true, if_pos last]
          exact .inr ⟨⟨_, rfl⟩, .inr (by
            show (s.evq.records ++ [_]).length = 320
            rw [List.length_append, last]; rfl)⟩
      | overwrite =>
        have below : s.evq.records.length < queueCapacity := by unfold queueCapacity; omega
        dsimp only [EventQueue.placeOverwrite]
        rw [if_pos below]
        exact .inr ⟨⟨_, rfl⟩, appended⟩
  refine ⟨fun room => ?_, fun room f => ?_⟩
  · rcases cases' (room.imp (by omega) fun ⟨r, f⟩ => ⟨by omega, f⟩) with same | ⟨⟨r, more⟩, -⟩
    · rw [same]
      exact ⟨List.prefix_refl _, Nat.le_succ _⟩
    · rw [more]
      exact ⟨List.prefix_append _ _, by rw [List.length_append]; exact Nat.le_refl _⟩
  · rcases cases' (.inr ⟨by omega, f⟩) with same | ⟨-, f'⟩
    · unfold EventQueue.fresh EventQueue.newestIsMarker
      rw [same]
      exact f
    · exact f'

/-! ### What records and evaluations leave -/

/-- At most `k` records come, and the shift counts no start and no trip. -/
structure Noted (k : Nat) (s t : State) : Prop where
  counts : t.shiftCounts = s.shiftCounts
  grows : Grows k s t
  appends : Appends k [] s t

theorem Noted.of_blocks (shu : t.shu = s.shu) (evq : t.evq = s.evq) : Noted 0 s t :=
  ⟨by rw [State.shiftCounts, shu]; rfl, .of_eq evq, .of_eq evq⟩

theorem Noted.setUnit (s : State) (u : Nat) (x : GenUnit) : Noted 0 s (s.setUnit u x) := .of_blocks rfl rfl

theorem Noted.hand (s : State) (w : Notice) (b : Bool) : Noted 0 s (s.hand w b) := .of_blocks rfl rfl

theorem Noted.trans {t' : State} (h : Noted j s t) (h' : Noted k t t') : Noted (j + k) s t' :=
  ⟨h'.counts.trans h.counts, h.grows.trans h'.grows, h.appends.trans h'.appends⟩

theorem Noted.mono (h : Noted j s t) (hk : j ≤ k) : Noted k s t :=
  ⟨h.counts, h.grows.mono hk, h.appends.mono hk (List.Subset.refl _)⟩

theorem Noted.place (s : State) (p : Placement) (hp : p.detail.isMarker = false) : Noted 1 s (s.place p) :=
  ⟨s.shiftCounts_place p, .place s p hp, (Appends.place s p).mono (Nat.le_refl _) (List.nil_subset _)⟩

theorem Noted.checkpoint (s : State) (u t : Nat) : Noted 0 s (s.checkpoint u t) :=
  ⟨s.shiftCounts_checkpoint u t, .of_eq rfl, .of_eq rfl⟩

theorem Noted.evalMaintenance (s : State) (u : Nat) : Noted 1 s (s.evalMaintenance u) := by
  have set (x : Tally) : Noted 0 s (s.setTally u x) := .of_blocks rfl rfl
  simp only [State.evalMaintenance]
  split_ifs
  · exact (set _).trans (.place _ _ rfl)
  · exact (set _).mono (Nat.zero_le _)
  · exact ((set _).trans (.place _ _ rfl)).trans (.hand _ _ _)
  · exact ((set _).trans (.hand _ _ _)).mono (Nat.zero_le _)

theorem Noted.expireIfPassed (s : State) (u : Nat) : Noted 1 s (s.expireIfPassed u) := by
  have nothing : Noted 0 s s := .of_blocks rfl rfl
  simp only [State.expireIfPassed]
  split
  · split
    · exact ((Noted.setUnit s u _).trans (.place _ _ rfl)).trans (.hand _ _ _)
    · exact nothing.mono (Nat.zero_le _)
  · exact nothing.mono (Nat.zero_le _)
  · exact nothing.mono (Nat.zero_le _)

theorem Noted.updateTimer (s : State) (u : Nat) (old : Mode) : Noted 1 s (s.updateTimer u old) := by
  have nothing : Noted 0 s s := .of_blocks rfl rfl
  simp only [State.updateTimer]
  split_ifs
  · exact nothing.mono (Nat.zero_le _)
  · exact (Noted.setUnit s u _).trans (.expireIfPassed _ u)
  · exact ((Noted.setUnit s u _).trans (.hand _ _ _)).mono (Nat.zero_le _)
  · exact (Noted.setUnit s u _).mono (Nat.zero_le _)

theorem Noted.enterMode (s : State) (u : Nat) (new : Mode) (at' : Nat) (d : Date) : Noted 1 s (s.enterMode u new at' d) :=
  (Noted.setUnit s u _).trans (.updateTimer _ _ _)

/-- A record placed among others stands behind those held before. -/
theorem Appends.placed_between {ds es : List Detail} {p : Placement} (h : Appends j ds s m) (h' : Appends k es (m.place p) t)
    (hn : s.evq.nextSeq = some n) (room : s.evq.records.length + (j + 1 + k) ≤ 319) (numbers : n + (j + 1 + k) ≤ max32) :
    ∃ r ∈ t.evq.records.drop s.evq.records.length, ∃ q, r = { m.recordOf p with seq := q } := by
  obtain ⟨a, ha, hal, han, -⟩ := h n hn (by omega) (by omega)
  have len : m.evq.records.length = s.evq.records.length + a.length := by rw [ha, List.length_append]
  obtain ⟨b, hb, hbl, hbn, -⟩ := Appends.place m p _ han (by omega) (by omega)
  have recs := m.place_records p han (by omega)
  obtain ⟨c, hc, -⟩ := h' _ hbn (by rw [recs, List.length_append, List.length_singleton]; omega) (by omega)
  refine ⟨{ m.recordOf p with seq := n + a.length }, ?_, _, rfl⟩
  rw [hc, recs, ha, List.append_assoc, List.append_assoc, List.drop_left]
  exact List.mem_append_right _ (List.mem_append_left _ (List.mem_singleton_self _))

/-! ### The discrepancy timer after a change of mode (R122) -/

/-- The timer that a unit takes when its mode has changed from `old`. -/
def State.timerAfter (s : State) (u : Nat) (old : Mode) : DiscTimer :=
  if (s.unit u).mode = .indet then
    if old = .indet then (s.unit u).timer
    else if s.discrepancyExpiry u ≤ s.tsc.e then .expired else .running (s.discrepancyExpiry u)
  else .stopped

theorem State.expireIfPassed_unit (hu : 1 ≤ u ∧ u ≤ 8) (x : Nat) (v : Nat) :
    ((s.setUnit u { s.unit u with timer := .running x }).expireIfPassed u).unit v =
      if v = u then { s.unit u with timer := if x ≤ s.tsc.e then .expired else .running x } else s.unit v := by
  have set (w : Nat) := s.unit_setUnit u w { s.unit u with timer := .running x } hu
  have timer : ((s.setUnit u { s.unit u with timer := .running x }).unit u).timer = .running x := by rw [set, if_pos rfl]
  rw [State.expireIfPassed, timer]
  dsimp only
  rw [State.setUnit_tsc]
  split
  · obtain ⟨unit, other, -⟩ := (s.setUnit u { s.unit u with timer := .running x }).expireDiscrepancy_leaves hu
    split
    next h => rw [h, unit, set, if_pos rfl]
    next h => rw [other v h, set, if_neg h]
  · exact set v

theorem State.updateTimer_unit (s : State) (hu : 1 ≤ u ∧ u ≤ 8) (old : Mode) (v : Nat) :
    (s.updateTimer u old).unit v = if v = u then { s.unit u with timer := s.timerAfter u old } else s.unit v := by
  have set (x : GenUnit) := s.unit_setUnit u v x hu
  have nothing : s.unit v = if v = u then { s.unit u with timer := (s.unit u).timer } else s.unit v := by
    split
    next e => rw [e]
    next => rfl
  simp only [State.updateTimer, State.timerAfter]
  by_cases hi : (s.unit u).mode = .indet
  · rw [if_pos hi, if_pos hi]
    by_cases ho : old = .indet
    · rw [if_pos ho, if_pos ho]
      exact nothing
    · rw [if_neg ho, if_neg ho]
      exact State.expireIfPassed_unit hu _ v
  · rw [if_neg hi, if_neg hi]
    by_cases he : (s.unit u).timer = .expired
    · rw [if_pos he]
      exact set _
    · rw [if_neg he]
      exact set _

end Sys2Proof.Machine

/-! PROOFS. The mode of a unit by its lines (R114, R115), and what a status change leaves (R116, R117, R135, R148). -/

namespace Sys2Proof.Machine

variable {s t m : State} {i j k n u v : Nat} {l : Latch}

/-! ### The mode by the table of R115 -/

/-- A unit has a BREAKER line exactly when one is configured for it (R114). -/
theorem State.statusLine_isSome (s : State) (u : Nat) (k : LineKind) : (s.statusLine u k).isSome = true ↔
    ∃ j, 1 ≤ j ∧ j ≤ 32 ∧ (s.lineCfg j).kind = k ∧ (s.lineCfg j).unit = u := by
  rw [State.statusLine, List.find?_isSome]
  refine ⟨fun ⟨j, hj, h⟩ => ?_, fun ⟨j, h1, h32, h⟩ => ⟨j, (mem_numbers 32 j).2 ⟨h1, h32⟩, decide_eq_true h⟩⟩
  obtain ⟨h1, h32⟩ := (mem_numbers 32 j).1 hj
  exact ⟨j, h1, h32, of_decide_eq_true h⟩

/-- The mode table, row by row (R115). -/
theorem modeOf_table (b sp c p : Bool) :
    (¬ b = true → ¬ sp = true → modeOf b sp c p = .still) ∧ (¬ b = true → sp = true → modeOf b sp c p = .spin)
      ∧ (b = true → ¬ sp = true → modeOf b sp c p = .indet) ∧ (b = true → sp = true → c = true → modeOf b sp c p = .cond)
      ∧ (b = true → sp = true → ¬ c = true → p = true → modeOf b sp c p = .pump)
      ∧ (b = true → sp = true → ¬ c = true → ¬ p = true → modeOf b sp c p = .gen) := by
  simp only [Bool.not_eq_true]
  refine ⟨?_, ?_, ?_, ?_, ?_, ?_⟩ <;> rintro rfl rfl
  · rfl
  · rfl
  · rfl
  · rintro rfl; rfl
  · rintro rfl rfl; rfl
  · rintro rfl rfl; rfl

theorem State.deriveMode_derived (t : State) (u : Nat) : ModeDerived u (t.deriveMode u) t := by
  dsimp only [ModeDerived]
  rw [← State.statusLine_isSome, State.deriveMode]
  refine ⟨fun h => if_neg h, fun h => ?_⟩
  rw [if_pos h]
  exact modeOf_table _ _ _ _

theorem State.deriveMode_congr (lqu : t.lqu = s.lqu) (cfg : t.cfg = s.cfg) (u : Nat) : t.deriveMode u = s.deriveMode u := by
  have line (k : LineKind) : t.statusLine u k = s.statusLine u k := by
    simp only [State.statusLine, State.lineCfg, cfg]
    rfl
  have level (k : LineKind) : t.statusLevel u k = s.statusLevel u k := by
    simp only [State.statusLevel, line, State.line, lqu]
  simp only [State.deriveMode, level, line]

/-- A monitored unit has a mode (R114). -/
theorem State.deriveMode_ne_none (h : ∃ j, 1 ≤ j ∧ j ≤ 32 ∧ (s.lineCfg j).kind = .breaker ∧ (s.lineCfg j).unit = u) :
    s.deriveMode u ≠ .none := by
  rw [State.deriveMode, if_pos ((s.statusLine_isSome u .breaker).2 h)]
  unfold modeOf
  split <;> decide

/-! ### A unit enters a mode (R116, R117, R126) -/

/-- A counted start changes the start count of the unit alone (R117). -/
theorem State.countStart_unit (s : State) (hu : 1 ≤ u ∧ u ≤ 8) (v : Nat) : (s.countStart u).unit v =
    if v = u then { s.unit u with tally := { (s.unit u).tally with starts := min ((s.unit u).tally.starts + 1) 65535 } }
    else s.unit v := s.unit_setUnit u v _ hu

/-- The unit that enters a mode (R116 step 5). -/
theorem State.enterMode_unit (s : State) (hu : 1 ≤ u ∧ u ≤ 8) (new : Mode) (at' : Nat) (d : Date) (v : Nat) :
    let g : GenUnit := { s.unit u with
      mode := new, entry := at', entryDate := d, ecp := ecpAfter (s.unit u).mode new at' (s.unit u).ecp }
    (s.enterMode u new at' d).unit v =
      if v = u then { g with timer := (s.setUnit u g).timerAfter u (s.unit u).mode } else s.unit v := by
  intro g
  have set (w : Nat) := s.unit_setUnit u w g hu
  rw [State.enterMode, State.updateTimer_unit _ hu, set u, if_pos rfl, set v]
  split <;> rfl

theorem State.placeMode_unit (s : State) (u : Nat) (old : Mode) (d : Option Date) (v : Nat) :
    (s.placeMode u old d).unit v = s.unit v := by
  rw [State.placeMode]
  split
  · rw [State.unit, State.place_tlu]
    rfl
  · rfl

/-- A start is counted on leaving STILL for a running mode (R117). -/
theorem isStart_iff {old new : Mode} (h : new ≠ .none) :
    isStart old new = true ↔ old = .still ∧ new ≠ .still ∧ new ≠ .indet := by
  cases new with
  | none => exact absurd rfl h
  | _ => simp [isStart]

/-! ### A status change (R116) -/

theorem GenUnit.checkpoint_ecp {g : GenUnit} (h : g.mode ≠ .none) (t : Nat) : (g.checkpoint t).ecp = some t := by
  rw [GenUnit.checkpoint, if_neg h]

/-- The unit that changes its mode at a status change (R116 steps 5 and 6, R117). -/
theorem State.changeMode_unit (s : State) (hu : 1 ≤ u ∧ u ≤ 8) (new : Mode) (at' : Nat) (l : Latch) :
    let g := s.unit u
    let h := (s.changeMode u new at' l).unit u
    h.mode = new ∧ h.entry = at' ∧ h.entryDate = dateOf l ∧ h.ecp = ecpAfter g.mode new at' g.ecp
      ∧ h.tally.starts = (if isStart g.mode new then min (g.tally.starts + 1) 65535 else g.tally.starts)
      ∧ ∀ v, v ≠ u → (s.changeMode u new at' l).unit v = s.unit v := by
  intro g h
  have counted (v : Nat) := s.countStart_unit hu v
  by_cases hs : isStart g.mode new = true
  · have unit (v : Nat) := (s.countStart u).enterMode_unit hu new at' (dateOf l) v
    have e : s.changeMode u new at' l = ((s.countStart u).enterMode u new at' (dateOf l)).placeMode u g.mode (some (dateOf l)) := by
      rw [State.changeMode, if_pos hs]
    simp only [h, e, State.placeMode_unit, unit, counted, if_true, hs]
    exact ⟨trivial, trivial, trivial, rfl, rfl, fun v hv => by rw [if_neg hv, if_neg hv]⟩
  · have unit (v : Nat) := s.enterMode_unit hu new at' (dateOf l) v
    have e : s.changeMode u new at' l = (s.enterMode u new at' (dateOf l)).placeMode u g.mode (some (dateOf l)) := by
      rw [State.changeMode, if_neg hs]
    simp only [h, e, State.placeMode_unit, unit, if_true, hs]
    exact ⟨trivial, trivial, trivial, rfl, rfl, fun v hv => by rw [if_neg hv]⟩

/-- The unit that a status change leaves, by the mode derived (R116, R117). -/
theorem State.statusChange_unit (s : State) (hu : 1 ≤ u ∧ u ≤ 8) (l : Latch) (hm : (s.unit u).mode ≠ .none)
    (hb : ∃ j, 1 ≤ j ∧ j ≤ 32 ∧ (s.lineCfg j).kind = .breaker ∧ (s.lineCfg j).unit = u) :
    let g := s.unit u
    let h := (s.statusChange u l).unit u
    let booked := max l.e (g.ecp.getD 0)
    let starts := g.mode = .still ∧ h.mode ≠ .still ∧ h.mode ≠ .indet
    h.mode = s.deriveMode u
      ∧ h.tally.starts = (if starts then min (g.tally.starts + 1) 65535 else g.tally.starts)
      ∧ (h.mode ≠ g.mode → h.entry = booked ∧ h.entryDate = dateOf l)
      ∧ (h.mode = g.mode → h.entry = g.entry ∧ h.entryDate = g.entryDate)
      ∧ h.ecp = some booked := by
  intro g h booked starts
  have new := State.deriveMode_ne_none hb
  have exists' : unitExists u = true := decide_eq_true hu
  obtain ⟨mode, entry, date, -, starts', -⟩ := g.checkpoint_keeps booked
  have ecp : (g.checkpoint booked).ecp = some booked := GenUnit.checkpoint_ecp hm _
  have derived : (s.checkpoint u booked).deriveMode u = s.deriveMode u := State.deriveMode_congr rfl rfl u
  have checked (v : Nat) : (s.checkpoint u booked).unit v = if v = u then g.checkpoint booked else s.unit v :=
    s.checkpoint_unit u booked v exists'
  have e : s.statusChange u l = if s.deriveMode u = g.mode then (s.checkpoint u booked).evalMaintenance u
      else ((s.checkpoint u booked).changeMode u (s.deriveMode u) booked l).evalMaintenance u := by
    rw [State.statusChange, if_neg hm]
    dsimp only
    rw [show (s.unit u).bookTo l.e = booked from rfl, derived, checked, if_pos rfl, mode]
  by_cases same : s.deriveMode u = g.mode
  · rw [if_pos same] at e
    have unit (v : Nat) : (s.statusChange u l).unit v = if v = u then (g.checkpoint booked).evaluated (s.unitCfg u) s.tsc.e
        else s.unit v := by
      rw [e, State.evalMaintenance_unit_eq _ u v hu, checked, if_pos rfl, checked]
      split <;> rfl
    have hh : h = (g.checkpoint booked).evaluated (s.unitCfg u) s.tsc.e := (unit u).trans (if_pos rfl)
    have hmode : h.mode = g.mode := by rw [hh]; exact mode
    have none : ¬ starts := fun ⟨still, other, _⟩ => other (hmode.trans still)
    refine ⟨hmode.trans same.symm, ?_, fun other => absurd hmode other, fun _ => ?_, ?_⟩
    · rw [if_neg none, hh]; exact starts'
    · rw [hh]; exact ⟨entry, date⟩
    · rw [hh]; exact ecp
  · rw [if_neg same] at e
    have unit (v : Nat) := State.evalMaintenance_unit_eq ((s.checkpoint u booked).changeMode u (s.deriveMode u) booked l) u v hu
    obtain ⟨c1, c2, c3, c4, c5, -⟩ := (s.checkpoint u booked).changeMode_unit hu (s.deriveMode u) booked l
    rw [checked, if_pos rfl, mode, ecp] at c4
    rw [checked, if_pos rfl, mode, starts'] at c5
    rw [← e] at unit
    generalize (s.checkpoint u booked).changeMode u (s.deriveMode u) booked l = q at *
    have hh : h = (q.unit u).evaluated (q.unitCfg u) q.tsc.e := (unit u).trans (if_pos rfl)
    have hmode : h.mode = s.deriveMode u := by rw [hh]; exact c1
    have after : ecpAfter g.mode (s.deriveMode u) booked (some booked) = some booked := by
      unfold ecpAfter
      split
      · exact absurd ‹_› new
      · rfl
      · rfl
    refine ⟨hmode, ?_, fun _ => ?_, fun e => absurd (hmode.symm.trans e) same, ?_⟩
    · have counts : (isStart g.mode (s.deriveMode u) = true) ↔ starts := by
        rw [isStart_iff new, ← hmode]
      refine (congrArg (fun x : GenUnit => x.tally.starts) hh).trans (Eq.trans c5 ?_)
      by_cases hs : starts
      · rw [if_pos hs, if_pos (counts.2 hs)]
      · rw [if_neg hs, if_neg (mt counts.1 hs)]
    · rw [hh]; exact ⟨c2, c3⟩
    · rw [hh]; exact c4.trans after

/-- A status change touches no other unit. -/
theorem State.statusChange_other (s : State) (hu : 1 ≤ u ∧ u ≤ 8) (l : Latch) (hv : v ≠ u) :
    (s.statusChange u l).unit v = s.unit v := by
  have evaluated (m : State) : (m.evalMaintenance u).unit v = m.unit v := by
    rw [State.evalMaintenance_unit_eq _ u v hu, if_neg hv]
  have checked (at' : Nat) : (s.checkpoint u at').unit v = s.unit v := by
    rw [State.checkpoint_unit _ _ _ _ (decide_eq_true hu), if_neg hv]
  have changed (m : State) (new : Mode) (at' : Nat) : (m.changeMode u new at' l).unit v = m.unit v := by
    obtain ⟨-, -, -, -, -, other⟩ := m.changeMode_unit hu new at' l
    exact other v hv
  simp only [State.statusChange]
  split_ifs
  · exact evaluated s
  · rw [evaluated, checked]
  · rw [evaluated, changed, checked]

/-! ### The records and the counts of a status change (R116, R117, R148) -/

theorem Noted.placeMode (s : State) (u : Nat) (old : Mode) (d : Option Date) : Noted 1 s (s.placeMode u old d) := by
  have nothing : Noted 0 s s := .of_blocks rfl rfl
  rw [State.placeMode]
  split
  · exact .place s _ rfl
  · exact nothing.mono (Nat.zero_le _)

/-- A change of mode: the start when one is counted, the mode entered, the record (R116). -/
theorem State.changeMode_eq (s : State) (u : Nat) (new : Mode) (at' : Nat) (l : Latch) :
    s.changeMode u new at' l = (((if isStart (s.unit u).mode new then s.countStart u else s).enterMode u new at'
      (dateOf l)).placeMode u (s.unit u).mode (some (dateOf l))) := rfl

/-- What the shift counts of starts. -/
theorem starts_of_shiftCounts (hu : 1 ≤ u ∧ u ≤ 8) (h : t.shiftCounts = s.shiftCounts) :
    (nth t.shu.current.units u).starts = (nth s.shu.current.units u).starts := by
  have at' := congrArg (fun v : Vector (Nat × Nat) 8 => (nth v u).1) h
  simpa only [State.shiftCounts, nth_eq_getElem _ _ hu, Vector.getElem_map] using at'

/-- The starts of the shift after a change of mode (R148). -/
theorem State.changeMode_starts (s : State) (hu : 1 ≤ u ∧ u ≤ 8) (new : Mode) (at' : Nat) (l : Latch) :
    (nth (s.changeMode u new at' l).shu.current.units u).starts = if isStart (s.unit u).mode new
      then min ((nth s.shu.current.units u).starts + 1) 255 else (nth s.shu.current.units u).starts := by
  have counts := ((Noted.enterMode (if isStart (s.unit u).mode new then s.countStart u else s) u new at' (dateOf l)).trans
    (.placeMode _ u (s.unit u).mode (some (dateOf l)))).counts
  rw [State.changeMode_eq, starts_of_shiftCounts hu counts]
  split
  · exact congrArg ShiftUnit.starts (nth_setNth_self _ _ _ hu)
  · rfl

/-- The starts of the shift after a status change (R117, R148). -/
theorem State.statusChange_starts (s : State) (hu : 1 ≤ u ∧ u ≤ 8) (l : Latch) (hm : (s.unit u).mode ≠ .none)
    (hb : ∃ j, 1 ≤ j ∧ j ≤ 32 ∧ (s.lineCfg j).kind = .breaker ∧ (s.lineCfg j).unit = u) :
    (nth (s.statusChange u l).shu.current.units u).starts =
      if (s.unit u).mode = .still ∧ s.deriveMode u ≠ .still ∧ s.deriveMode u ≠ .indet
      then min ((nth s.shu.current.units u).starts + 1) 255 else (nth s.shu.current.units u).starts := by
  have evaluated (m : State) : (nth (m.evalMaintenance u).shu.current.units u).starts = (nth m.shu.current.units u).starts :=
    starts_of_shiftCounts hu (m.shiftCounts_evalMaintenance u)
  have checked := starts_of_shiftCounts hu (s.shiftCounts_checkpoint u ((s.unit u).bookTo l.e))
  have derived : (s.checkpoint u ((s.unit u).bookTo l.e)).deriveMode u = s.deriveMode u := State.deriveMode_congr rfl rfl u
  have mode : ((s.checkpoint u ((s.unit u).bookTo l.e)).unit u).mode = (s.unit u).mode := by
    obtain ⟨mode, -⟩ := (s.unit u).checkpoint_keeps ((s.unit u).bookTo l.e)
    rw [State.checkpoint_unit _ _ _ _ (decide_eq_true hu), if_pos rfl, mode]
  rw [State.statusChange, if_neg hm]
  dsimp only
  rw [derived, mode]
  split
  next same =>
    rw [evaluated, checked, if_neg]
    rintro ⟨still, other, -⟩
    exact other (same.trans still)
  next =>
    rw [evaluated, State.changeMode_starts _ hu, checked, mode]
    simp only [isStart_iff (State.deriveMode_ne_none hb)]

/-- A status change places three records at most. -/
theorem Grows.statusChange (s : State) (u : Nat) (l : Latch) : Grows 3 s (s.statusChange u l) := by
  have changed (m : State) (new : Mode) (at' : Nat) : Grows 2 m (m.changeMode u new at' l) := by
    have counted : Grows 0 m (if isStart (m.unit u).mode new then m.countStart u else m) := by
      refine .of_eq ?_
      split <;> rfl
    exact counted.trans ((Noted.enterMode _ u new at' (dateOf l)).trans (.placeMode _ u _ _)).grows
  have evaluated (m : State) : Grows 1 m (m.evalMaintenance u) := (Noted.evalMaintenance m u).grows
  have checked (at' : Nat) : Grows 0 s (s.checkpoint u at') := .of_eq rfl
  simp only [State.statusChange]
  split_ifs
  · exact (evaluated s).mono (by decide)
  · exact ((checked _).trans (evaluated _)).mono (by decide)
  · exact ((checked _).trans (changed _ _ _)).trans (evaluated _)

/-- The MODE record of a status change (R116 step 6), behind the records placed before it. -/
theorem State.statusChange_record (h : Appends k [] s m) (hu : 1 ≤ u ∧ u ≤ 8) (l : Latch) (hm : (m.unit u).mode ≠ .none)
    (changes : m.deriveMode u ≠ (m.unit u).mode) (recorded : (m.unitCfg u).modeRecord = true) (hn : s.evq.nextSeq = some n)
    (room : s.evq.records.length + (k + 3) ≤ 319) (numbers : n + (k + 3) ≤ max32) :
    ∃ r ∈ (m.statusChange u l).evq.records.drop s.evq.records.length, r.source = u ∧ r.date = dateOf l
      ∧ r.detail = .mode u (m.unit u).mode ((m.statusChange u l).unit u).mode ((m.statusChange u l).unit u).tally.starts := by
  have derived : (m.checkpoint u ((m.unit u).bookTo l.e)).deriveMode u = m.deriveMode u := State.deriveMode_congr rfl rfl u
  have mode : ((m.checkpoint u ((m.unit u).bookTo l.e)).unit u).mode = (m.unit u).mode := by
    obtain ⟨mode, -⟩ := (m.unit u).checkpoint_keeps ((m.unit u).bookTo l.e)
    rw [State.checkpoint_unit _ _ _ _ (decide_eq_true hu), if_pos rfl, mode]
  have e : m.statusChange u l = ((m.checkpoint u ((m.unit u).bookTo l.e)).changeMode u (m.deriveMode u)
      ((m.unit u).bookTo l.e) l).evalMaintenance u := by
    rw [State.statusChange, if_neg hm]
    dsimp only
    rw [derived, mode, if_neg changes]
  rw [State.changeMode_eq, mode] at e
  generalize hq : State.enterMode u (m.deriveMode u) ((m.unit u).bookTo l.e) (dateOf l) _ = q at e
  have before : Appends 1 [] m q := by
    rw [← hq]
    refine (Appends.of_eq (t := if isStart (m.unit u).mode (m.deriveMode u) then _ else _) ?_).trans
      (Noted.enterMode _ u _ _ _).appends
    split <;> rfl
  have cfg : q.unitCfg u = m.unitCfg u := by
    have kept (c : State) := enterMode_unchanged c (L := .tlu :: Part.recording) (by decide) (by decide) u (m.deriveMode u)
      ((m.unit u).bookTo l.e) (dateOf l)
    rw [← hq, (kept _).unitCfg_eq (by decide)]
    split <;> rfl
  rw [State.placeMode, cfg, if_pos recorded] at e
  obtain ⟨r, hr, number, fields⟩ := Appends.placed_between (h.trans before) (Appends.evalMaintenance u _) hn (by omega) (by omega)
  rw [← e] at hr
  have unit : (m.statusChange u l).unit u = (q.unit u).evaluated (q.unitCfg u) q.tsc.e := by
    rw [e, State.evalMaintenance_unit_eq _ u u hu, if_pos rfl, State.place_tsc, State.unitCfg, State.place_cfg, State.unit,
      State.place_tlu]
    rfl
  refine ⟨r, hr, by rw [fields]; rfl, by rw [fields]; rfl, ?_⟩
  rw [fields, unit]
  rfl

end Sys2Proof.Machine

/-! PROOFS. A delivered change is handed on (R82 to R85), after what the command has placed before. -/

namespace Sys2Proof.Machine

variable {s t m : State} {i j k n u v : Nat} {l : Latch} {level : Bool}

/-! ### Seen from before the records that precede it -/

theorem StatusTaken.of_precedes (h : Precedes k s m) (ht : StatusTaken 0 i l m t) : StatusTaken k i l s t := by
  obtain ⟨-, cfg, units, -, -, evq⟩ := id h
  dsimp only [StatusTaken] at ht ⊢
  rw [h.lineCfg, h.unit, units, State.unitCfg, cfg] at ht
  obtain ⟨derived, starts, changed, same, ecp, counts, record⟩ := ht
  refine ⟨derived, starts, changed, same, ecp, counts, fun hm hr room n hn numbers => ?_⟩
  obtain ⟨more, length, recs, next⟩ := evq (by omega) n hn (.inr (by omega))
  obtain ⟨r, hr, fields⟩ := record hm hr (by rw [recs, List.length_append]; omega) (n + k) next (by omega)
  refine ⟨r, ?_, fields⟩
  have len : m.evq.records.length = s.evq.records.length + k := by rw [recs, List.length_append, length]
  rw [len, ← List.drop_drop] at hr
  exact List.mem_of_mem_drop hr

theorem HandedOn.of_precedes (h : Precedes k s m) (ht : HandedOn 0 i level l m t) : HandedOn k i level l s t := by
  obtain ⟨tlu, cfg, -, -, trips, evq⟩ := id h
  have taken : TripTaken 0 i l m t → TripTaken k i l s t := TripTaken.of_precedes h
  have status : StatusTaken 0 i l m t → StatusTaken k i l s t := StatusTaken.of_precedes h
  have lines : ∀ j, m.lineCfg j = s.lineCfg j := h.lineCfg
  have unit : ∀ u, m.unit u = s.unit u := h.unit
  have recorded {room : Nat} (hr : room ≤ 318) {r : Nat → Record}
      (placed : m.evq.records.length + 0 ≤ room → ∀ n, m.evq.nextSeq = some n → True ∨ n + 0 ≤ max32 →
        m.evq.records <+: t.evq.records ∧ t.evq.records[m.evq.records.length + 0]? = some (r (n + 0))) :
      s.evq.records.length + k ≤ room → ∀ n, s.evq.nextSeq = some n → k = 0 ∨ n + k ≤ max32 →
        s.evq.records <+: t.evq.records ∧ t.evq.records[s.evq.records.length + k]? = some (r (n + k)) := by
    intro few n hn numbers
    obtain ⟨more, length, recs, next⟩ := evq (by omega) n hn numbers
    have len : m.evq.records.length = s.evq.records.length + k := by rw [recs, List.length_append, length]
    obtain ⟨held, at'⟩ := placed (by omega) (n + k) next (.inl trivial)
    exact ⟨(recs ▸ List.prefix_append _ _).trans held, by rw [← len]; exact at'⟩
  dsimp only [HandedOn] at ht ⊢
  simp only [lines, unit, tlu] at ht
  obtain ⟨edge, same, ofStatus, clear, trip, others⟩ := ht
  refine ⟨fun h1 h2 h3 => ?_, same, fun h1 h2 h3 h4 => status (ofStatus h1 h2 h3 h4), fun h1 h2 => ?_,
    fun h1 h2 => taken (trip h1 h2), others⟩
  · exact recorded (r := fun n => { seq := n, detail := _, injected := false, delivered := false, station := _, source := i, date := _ })
      (by decide) (edge h1 h2 h3)
  · obtain ⟨c1, c2, c3⟩ := clear h1 h2
    refine ⟨fun h3 => ?_, c2, ⟨c3.1.trans trips.1, c3.2.trans trips.2⟩⟩
    exact recorded (r := fun n => { seq := n, detail := _, injected := false, delivered := false, station := _, source := i, date := _ })
      (Nat.le_refl _) (c1 h3)

/-! ### Delivery (R82) -/

/-- A change handed on, case by case of the line's kind (R82). -/
theorem State.handOn_cases (s : State) (i : Nat) (level : Bool) (l : Latch) :
    let c := s.lineCfg i
    let recorded := s.placeIfRecorded i (s.edgeRecord i level l)
    (c.kind = .unused → s.handOn i level l = s)
      ∧ (c.kind ≠ .unused → c.kind ≠ .trip → c.kind = .plain ∨ c.unit = 0 → s.handOn i level l = recorded)
      ∧ (c.kind ≠ .unused → c.kind ≠ .trip → c.kind ≠ .plain → c.unit ≠ 0 → s.handOn i level l = recorded.statusChange c.unit l)
      ∧ (c.kind = .trip → level = true → s.handOn i level l = s.tripPath i l)
      ∧ (c.kind = .trip → level = false → s.handOn i level l = s.placeIfRecorded i (s.clearRecord i l)) := by
  intro c recorded
  have e : s.handOn i level l = match c.kind with
      | .unused => s
      | .plain => recorded
      | .breaker | .speed | .pump | .cond => if c.unit = 0 then recorded else recorded.statusChange c.unit l
      | .trip => if level then s.tripPath i l else s.placeIfRecorded i (s.clearRecord i l) := by
    unfold State.handOn
    cases hk : (s.lineCfg i).kind <;> simp only [c, hk] <;> rfl
  refine ⟨fun h => ?_, fun h1 h2 h3 => ?_, fun h1 h2 h3 h4 => ?_, fun h hl => ?_, fun h hl => ?_⟩
  · rw [e, h]
  · cases hk : c.kind with
    | unused => exact absurd hk h1
    | trip => exact absurd hk h2
    | plain => rw [e, hk]
    | breaker | speed | pump | cond => rw [e, hk]; exact if_pos (h3.resolve_left (by rw [hk]; decide))
  · cases hk : c.kind with
    | unused => exact absurd hk h1
    | trip => exact absurd hk h2
    | plain => exact absurd hk h3
    | breaker | speed | pump | cond => rw [e, hk]; exact if_neg h4
  · rw [e, h]; exact if_pos hl
  · rw [e, h, hl]; rfl

/-- What a record asked for leaves: it is placed when LINE_RECORD is 1 (R82, R85). -/
theorem State.placeIfRecorded_cases (s : State) (i : Nat) (p : Placement) :
    ((s.lineCfg i).record = true → s.placeIfRecorded i p = s.place p)
      ∧ ((s.lineCfg i).record = false → s.placeIfRecorded i p = s) :=
  ⟨fun h => if_pos h, fun h => if_neg (by rw [h]; decide)⟩

/-- The effective level set, the record asked for: the tallies stay, at most one record comes. -/
theorem State.placeIfRecorded_leaves (s : State) (i : Nat) (p : Placement) :
    (s.placeIfRecorded i p).tlu = s.tlu ∧ (s.placeIfRecorded i p).cfg = s.cfg ∧ (s.placeIfRecorded i p).lqu = s.lqu
      ∧ (∃ loss, (s.placeIfRecorded i p).shu = { s.shu with current := { s.shu.current with loss := loss } })
      ∧ Appends 1 [] s (s.placeIfRecorded i p) := by
  obtain ⟨yes, no⟩ := s.placeIfRecorded_cases i p
  cases h : (s.lineCfg i).record with
  | true =>
    rw [yes h]
    exact ⟨s.place_tlu p, s.place_cfg p, s.place_lqu p, s.place_shu p, (Appends.place s p).mono (Nat.le_refl _) (List.nil_subset _)⟩
  | false =>
    rw [no h]
    exact ⟨rfl, rfl, rfl, ⟨s.shu.current.loss, rfl⟩, (Appends.of_eq rfl).mono (Nat.zero_le _) (List.Subset.refl _)⟩

/-- A status change taken from the state `m` that a record has been placed in. -/
theorem StatusTaken.of_change (hu : 1 ≤ (s.lineCfg i).unit ∧ (s.lineCfg i).unit ≤ 8) (tlu : m.tlu = s.tlu) (cfg : m.cfg = s.cfg)
    (shu : ∃ loss, m.shu = { s.shu with current := { s.shu.current with loss := loss } }) (before : Appends 1 [] s m)
    (hm : (s.unit (s.lineCfg i).unit).mode ≠ .none)
    (hb : ∃ j, 1 ≤ j ∧ j ≤ 32 ∧ (s.lineCfg j).kind = .breaker ∧ (s.lineCfg j).unit = (s.lineCfg i).unit) :
    StatusTaken 0 i l s (m.statusChange (s.lineCfg i).unit l) := by
  have unit : m.unit (s.lineCfg i).unit = s.unit (s.lineCfg i).unit := by rw [State.unit, tlu]; rfl
  have lines (j : Nat) : m.lineCfg j = s.lineCfg j := by rw [State.lineCfg, cfg]; rfl
  have hb' : ∃ j, 1 ≤ j ∧ j ≤ 32 ∧ (m.lineCfg j).kind = .breaker ∧ (m.lineCfg j).unit = (s.lineCfg i).unit := by
    simp only [lines]; exact hb
  have counts := m.statusChange_starts hu l (by rw [unit]; exact hm) hb'
  obtain ⟨mode, starts, changed, same, ecp⟩ := m.statusChange_unit hu l (by rw [unit]; exact hm) hb'
  have kept : Unchanged (.tlu :: Part.recording) m (m.statusChange (s.lineCfg i).unit l) :=
    statusChange_unchanged m (by decide) (by decide) _ _
  have derived : (m.statusChange (s.lineCfg i).unit l).deriveMode (s.lineCfg i).unit = m.deriveMode (s.lineCfg i).unit :=
    State.deriveMode_congr (kept .lqu (by decide)) (kept .cfg (by decide)) _
  obtain ⟨loss, shu⟩ := shu
  rw [unit] at counts starts changed same ecp
  rw [shu, ← mode] at counts
  refine ⟨?_, starts, changed, same, ecp, counts, fun hne hr room n hn numbers => ?_⟩
  · rw [mode, ← derived]
    exact State.deriveMode_derived _ _
  · have record := State.statusChange_record before hu l (by rw [unit]; exact hm) (by rw [unit, ← mode]; exact hne)
      (by rw [State.unitCfg, cfg]; exact hr) hn (by omega) (by omega)
    rw [unit] at record
    exact record

/-- A record placed when LINE_RECORD is 1, before what adds at most three (R82, R85). -/
theorem recorded_of_place {p : Placement} {d : Detail} {date : Date} {room : Nat} (same : m.evq = s.evq) (cfg : m.cfg = s.cfg)
    (hd : p.detail = d) (hdate : p.date = some date) (hi : p.injected = false) (hs : p.source = i)
    (hst : p.station = decide ((s.lineCfg i).unit = 0)) (hr : (s.lineCfg i).record = true)
    (after : Grows k (m.placeIfRecorded i p) t) (few : room + 1 + k ≤ 319) :
    s.evq.records.length + 0 ≤ room → ∀ n, s.evq.nextSeq = some n → 0 = 0 ∨ n + 0 ≤ max32 →
      s.evq.records <+: t.evq.records ∧ t.evq.records[s.evq.records.length + 0]? = some
        { seq := n + 0, detail := d, injected := false, delivered := false, station := decide ((s.lineCfg i).unit = 0),
          source := i, date := date } := by
  intro len n hn _
  rw [← same] at len hn ⊢
  have hr' : (m.lineCfg i).record = true := by rw [State.lineCfg, cfg]; exact hr
  rw [(m.placeIfRecorded_cases i p).1 hr'] at after
  have recs := m.place_records p hn (by omega)
  obtain ⟨held, -⟩ := after.held (.inl (by rw [recs, List.length_append, List.length_singleton]; omega))
  rw [recs] at held
  have record : ({ m.recordOf p with seq := n } : Record) =
      { seq := n + 0, detail := d, injected := false, delivered := false, station := decide ((s.lineCfg i).unit = 0),
        source := i, date := date } := by
    simp only [State.recordOf, hd, hdate, hi, hs, hst]
    rfl
  rw [record] at held
  refine ⟨(List.prefix_append _ _).trans held, ?_⟩
  obtain ⟨more, e⟩ := held
  rw [← e, List.append_assoc]
  exact (List.getElem?_append_right (Nat.le_refl _)).trans (by rw [Nat.add_zero, Nat.sub_self]; rfl)

/-- A trip counts in its own unit alone, and a station trip in none (R110, R124). -/
theorem State.tripPath_units (s : State) (i : Nat) (l : Latch) (hu : (s.lineCfg i).unit ≤ 8) :
    ((s.lineCfg i).unit = 0 → (s.tripPath i l).tlu = s.tlu)
      ∧ ∀ v, v ≠ (s.lineCfg i).unit → (s.tripPath i l).unit v = s.unit v := by
  obtain ⟨o, path, -⟩ := s.tripPath_eq i l
  obtain ⟨x, e, -⟩ := (State.shiftTrip ((s.countTrip (s.lineCfg i).unit).place (s.tripPlacement i l)) (s.lineCfg i).unit
    (dateOf l) o).notifyTrip_eq i
  have tlu : (s.tripPath i l).tlu = (s.countTrip (s.lineCfg i).unit).tlu := by
    rw [path, e]
    exact State.place_tlu _ _
  refine ⟨fun h => ?_, fun v hv => ?_⟩
  · rw [tlu, h]
    rfl
  · rw [State.unit, tlu]
    by_cases h : (s.lineCfg i).unit = 0
    · rw [h]
      rfl
    · exact (s.countTrip_unit ⟨by omega, hu⟩ v).trans (if_neg hv)

/-- A change handed on from `m`, which differs from `s` in its lines alone (R82 to R85). -/
theorem HandedOn.of_handOn (hu : (s.lineCfg i).unit ≤ 8) (x : Vector Line 32) :
    HandedOn 0 i level l s ((s.setLqu x).handOn i level l) := by
  obtain ⟨unused, plain, status, trip, clear⟩ := (s.setLqu x).handOn_cases i level l
  have nothing (m : State) : Grows 0 m m := .of_eq rfl
  obtain ⟨tlu, cfg, -, shu, before⟩ := (s.setLqu x).placeIfRecorded_leaves i ((s.setLqu x).edgeRecord i level l)
  obtain ⟨ctlu, -, -, ⟨_, cshu⟩, -⟩ := (s.setLqu x).placeIfRecorded_leaves i ((s.setLqu x).clearRecord i l)
  obtain ⟨tripTlu, tripUnits⟩ := (s.setLqu x).tripPath_units i l hu
  refine ⟨fun h1 h2 h3 => ?_, fun h => ?_, fun h1 h2 h3 h4 => ?_, fun h hl => ⟨fun h3 => ?_, ?_, ?_⟩, fun h hl => ?_, fun v hv => ?_⟩
  · by_cases h : (s.lineCfg i).kind = .plain ∨ (s.lineCfg i).unit = 0
    · rw [plain h1 h2 h]
      exact recorded_of_place (m := s.setLqu x) (k := 0) rfl rfl rfl rfl rfl rfl rfl h3 (nothing _) (by decide)
    · rw [not_or] at h
      rw [status h1 h2 h.1 h.2]
      exact recorded_of_place (m := s.setLqu x) (k := 3) rfl rfl rfl rfl rfl rfl rfl h3 (.statusChange _ _ _) (by decide)
  · by_cases h1 : (s.lineCfg i).kind = .unused
    · rw [unused h1]
      rfl
    · by_cases h2 : (s.lineCfg i).kind = .trip
      · have zero : (s.lineCfg i).unit = 0 := h.resolve_left (by rw [h2]; decide)
        cases level with
        | true => rw [trip h2 rfl, tripTlu zero]; rfl
        | false => rw [clear h2 rfl, ctlu]; rfl
      · rw [plain h1 h2 h, tlu]
        rfl
  · have h1' : (s.lineCfg i).kind ≠ .unused ∧ (s.lineCfg i).kind ≠ .trip ∧ (s.lineCfg i).kind ≠ .plain := by
      rcases h1 with h | h | h | h <;> rw [h] <;> decide
    obtain ⟨n1, n2, n3⟩ := h1'
    rw [status n1 n2 n3 (Nat.ne_of_gt h2)]
    exact StatusTaken.of_change ⟨h2, hu⟩ tlu cfg shu before h3 h4
  · rw [clear h hl]
    exact recorded_of_place (m := s.setLqu x) (k := 0) rfl rfl rfl rfl rfl rfl rfl h3 (nothing _) (by decide)
  · rw [clear h hl, ctlu]
    rfl
  · rw [clear h hl]
    simp only [Part.same, cshu]
    exact ⟨rfl, rfl⟩
  · rw [trip h hl]
    exact TripTaken.of_precedes (.of_blocks rfl rfl rfl rfl) ((s.setLqu x).tripPath_taken l hu)
  · by_cases h1 : (s.lineCfg i).kind = .unused
    · rw [unused h1]
      rfl
    · by_cases h2 : (s.lineCfg i).kind = .trip
      · cases level with
        | true => rw [trip h2 rfl, tripUnits v hv]; rfl
        | false => rw [clear h2 rfl, State.unit, ctlu]; rfl
      · by_cases h : (s.lineCfg i).kind = .plain ∨ (s.lineCfg i).unit = 0
        · rw [plain h1 h2 h, State.unit, tlu]
          rfl
        · rw [not_or] at h
          rw [status h1 h2 h.1 h.2]
          refine (State.statusChange_other _ ⟨Nat.pos_of_ne_zero h.2, hu⟩ l hv).trans ?_
          rw [State.unit, tlu]
          rfl

end Sys2Proof.Machine

/-! PROOFS. A filter expiry: the change qualifies and is delivered (R76, R82); O52. -/

namespace Sys2Proof.Machine

variable {s t m : State} {i j k n u v : Nat} {l : Latch} {level : Bool}

/-! ### The records of a delivered change -/

/-- With room a placed record is the newest (R98, R99). -/
theorem State.place_evq_of_room (p : Placement) (hn : s.evq.nextSeq = some n) (room : s.evq.records.length ≤ 318) :
    (s.place p).evq = s.evq.append n (s.recordOf p) := by
  rw [State.place, State.placeSeq_of_room p hn room]
  rfl

/-- With room the trip path places the trip's record (R84, R99). -/
theorem State.tripPath_evq (s : State) (i : Nat) (l : Latch) (hn : s.evq.nextSeq = some n) (room : s.evq.records.length ≤ 318) :
    (s.tripPath i l).evq = s.evq.append n (s.recordOf (s.tripPlacement i l)) := by
  obtain ⟨o, path, -⟩ := s.tripPath_eq i l
  obtain ⟨ntc, notified, -⟩ := (State.shiftTrip ((s.countTrip (s.lineCfg i).unit).place (s.tripPlacement i l)) (s.lineCfg i).unit
    (dateOf l) o).notifyTrip_eq i
  obtain ⟨x, counted⟩ := s.countTrip_eq (s.lineCfg i).unit
  rw [path, notified]
  refine (State.place_evq_of_room (s := s.countTrip (s.lineCfg i).unit) _ (by rw [counted]; exact hn)
    (by rw [counted]; exact room)).trans ?_
  rw [counted]
  rfl

/-- What a change of a plain or a TRIP line leaves in the queue (R82 to R85). -/
theorem State.handOn_records (s : State) (i : Nat) (level : Bool) (l : Latch) :
    let c := s.lineCfg i
    (c.kind = .plain ∨ c.kind = .trip ∧ level = false → c.record = false → (s.handOn i level l).evq = s.evq)
      ∧ (c.kind = .plain ∨ c.kind = .trip → s.evq.records.length ≤ 318 → s.evq.nextSeq.isSome = true →
          (s.handOn i level l).evq.records.length = s.evq.records.length
            + if c.kind = .trip ∧ level = true ∨ c.record = true then 1 else 0) := by
  intro c
  obtain ⟨-, plain, -, trip, clear⟩ := s.handOn_cases i level l
  have one (n : Nat) (r : Record) : (s.evq.append n r).records.length = s.evq.records.length + 1 := List.length_append
  have recorded (p : Placement) (hn : s.evq.nextSeq.isSome = true) (room : s.evq.records.length ≤ 318) :
      (s.placeIfRecorded i p).evq.records.length = s.evq.records.length + if c.record = true then 1 else 0 := by
    obtain ⟨yes, no⟩ := s.placeIfRecorded_cases i p
    obtain ⟨n, hn⟩ := Option.isSome_iff_exists.1 hn
    by_cases h : c.record = true
    · rw [yes h, if_pos h, State.place_evq_of_room p hn room, one]
    · rw [no (Bool.eq_false_iff.2 h), if_neg h, Nat.add_zero]
  refine ⟨fun h hr => ?_, fun h room hn => ?_⟩
  · rcases h with h | ⟨h, hl⟩
    · rw [plain (by rw [h]; decide) (by rw [h]; decide) (.inl h), (s.placeIfRecorded_cases i _).2 hr]
    · rw [clear h hl, (s.placeIfRecorded_cases i _).2 hr]
  · by_cases ht : c.kind = .trip
    · cases level with
      | true =>
        obtain ⟨n, hn⟩ := Option.isSome_iff_exists.1 hn
        rw [trip ht rfl, s.tripPath_evq i l hn room, one, if_pos (.inl ⟨ht, rfl⟩)]
      | false =>
        rw [clear ht rfl, recorded _ hn room]
        simp only [Bool.false_eq_true, and_false, false_or]
    · have h' : c.kind = .plain := h.resolve_right ht
      rw [plain (by rw [h']; decide) ht (.inl h'), recorded _ hn room]
      simp only [ht, false_and, false_or]

/-! ### The filter expiry (R76) -/

/-- A pending change whose expiry nothing comes before is brought there and qualifies (R76, entry 3). -/
theorem exec_filterExpiry_quiet {p : PendingChange} (hi : 1 ≤ i ∧ i ≤ 32) (h : (s.line i).pending = some p)
    (hq : s.quietTo p.expiry) : exec (.filterExpiry i) s = .next ((s.setTsc (s.tsc.reach p.expiry)).qualify i p) := by
  have instant : TimedEvent.instant s (.filter i) = some p.expiry := by
    show (s.line i).pending.map (·.expiry) = _
    rw [h]
    rfl
  have reached : (s.setTsc (s.tsc.reach p.expiry)).filterReached i = (s.setTsc (s.tsc.reach p.expiry)).qualify i p := by
    rw [State.filterReached, show ((s.setTsc (s.tsc.reach p.expiry)).line i).pending = some p from h]
  refine (if_pos (lineExists_of hi.1 hi.2)).trans (congrArg Host.Outcome.next ?_)
  exact (await_instant (ev := .filter i) instant hq).trans reached

/-- The line that a delivered change leaves, before it is handed on (R76). -/
def State.delivered (s : State) (i : Nat) (p : PendingChange) : Line :=
  { s.line i with
    filtered := p.level, effective := p.level, pending := none, state := .steady
    recent := pruned (s.line i).recent s.tsc.e s.cfg.window ++ [s.tsc.e] }

/-- A change that qualifies outside CHATTER, with few recent ones, is delivered (R76, R77). -/
theorem State.qualify_delivered {p : PendingChange} (s : State) (hi : 1 ≤ i ∧ i ≤ 32) (hs : (s.line i).state ≠ .chatter)
    (few : (pruned (s.line i).recent s.tsc.e s.cfg.window).length < s.cfg.chatterCount) :
    s.qualify i p = (s.setLine i (s.delivered i p)).handOn i p.level p.raw := by
  rw [State.qualify, if_neg hs]
  dsimp only
  rw [if_pos few, State.deliver, State.setEffective, State.line_setLine_self _ _ hi, State.setLine_setLine]
  rfl

/-- Pruning keeps no more than there is (R77). -/
theorem pruned_length (recent : List Nat) (now window : Nat) : (pruned recent now window).length ≤ recent.length :=
  List.length_filter_le _ _

/-- Settles O52: the change qualifies and is handed on from the time reached. -/
theorem deliveredChangesAreHandedOn : Obligations.DeliveredChangesAreHandedOn := by
  intro i p s h1 h32 c hp hs few hu hq
  have e := (exec_filterExpiry_quiet ⟨h1, h32⟩ hp hq).trans (congrArg Host.Outcome.next
    (State.qualify_delivered (p := p) (s.setTsc (s.tsc.reach p.expiry)) ⟨h1, h32⟩ hs
      (Nat.lt_of_le_of_lt (pruned_length _ _ _) few)))
  obtain ⟨same, count⟩ := State.handOn_records
    ((s.setTsc (s.tsc.reach p.expiry)).setLine i ((s.setTsc (s.tsc.reach p.expiry)).delivered i p)) i p.level p.raw
  have before : Precedes 0 s (s.setTsc (s.tsc.reach p.expiry)) := .of_blocks rfl rfl rfl rfl
  refine ⟨_, e, HandedOn.of_precedes before (HandedOn.of_handOn (s := s.setTsc (s.tsc.reach p.expiry)) hu _),
    fun h => same (.inl h), fun h hl => same (.inr ⟨h, hl⟩), count⟩

end Sys2Proof.Machine

/-! PROOFS. Chatter (R77 to R81): a line enters it with its record, a suppressed change in it, and a line leaves it; O51. -/

namespace Sys2Proof.Machine

variable {s t m : State} {i j k n u v : Nat} {l : Latch} {level : Bool} {p : PendingChange}

/-! ### What comes after a trip -/

/-- The trip seen from after a further record. -/
theorem TripTaken.then {t' : State} (h : TripTaken k i l s t) (tlu : t'.tlu = t.tlu) (e : t'.tsc.e = t.tsc.e)
    (shu : ∃ loss, t'.shu = { t.shu with current := { t.shu.current with loss := loss } })
    (flag : t.ntc.flags.getLsbD 0 = true → t'.ntc.flags.getLsbD 0 = true)
    (records : s.evq.records.length + k ≤ 318 → ∀ n, s.evq.nextSeq = some n → k = 0 ∨ n + k ≤ max32 →
      t.evq.records <+: t'.evq.records) : TripTaken k i l s t' := by
  obtain ⟨loss, shu⟩ := shu
  have unit (u : Nat) : t'.unit u = t.unit u := by rw [State.unit, tlu]; rfl
  dsimp only [TripTaken] at h ⊢
  rw [unit, shu, e]
  obtain ⟨counts, stations, notice, listed, placed⟩ := h
  refine ⟨counts, stations, fun hn => flag (notice hn), listed, fun room n hn numbers => ?_⟩
  obtain ⟨held, ⟨r, hr, fields⟩, list⟩ := placed room n hn numbers
  have more := records room n hn numbers
  obtain ⟨rest, e⟩ := id more
  obtain ⟨below, -⟩ := List.getElem?_eq_some_iff.1 hr
  refine ⟨held.trans more, ⟨r, ?_, fields⟩, list⟩
  rw [← e, List.getElem?_append_left below]
  exact hr

/-! ### A suppressed change (R78, R80) -/

/-- What a suppressed change leaves: the trip of an exempt one (R80). -/
theorem State.suppress_cases (s : State) (i : Nat) (p : PendingChange) :
    ((s.lineCfg i).kind = .trip ∧ p.level = true → s.suppress i p = (s.setEffective i true).tripPath i p.raw)
      ∧ (¬((s.lineCfg i).kind = .trip ∧ p.level = true) → s.suppress i p = s) := by
  have e : s.exempt i p.level = true ↔ (s.lineCfg i).kind = .trip ∧ p.level = true := by
    rw [State.exempt, Bool.and_eq_true, decide_eq_true_iff]
  exact ⟨fun h => if_pos (e.2 h), fun h => if_neg (mt e.1 h)⟩

/-- The lines that a suppressed change leaves. -/
theorem State.suppress_line (s : State) (hi : 1 ≤ i ∧ i ≤ 32) (p : PendingChange) (j : Nat) :
    (s.suppress i p).line j = if j = i then { s.line i with
        effective := if (s.lineCfg i).kind = .trip ∧ p.level = true then true else (s.line i).effective } else s.line j := by
  obtain ⟨exempt, other⟩ := s.suppress_cases i p
  by_cases h : (s.lineCfg i).kind = .trip ∧ p.level = true
  · have kept := tripPath_unchanged (s.setEffective i true) (L := .tlu :: .trips :: Part.recording) (by decide) (by decide)
      (by decide) i p.raw
    have lines : ((s.setEffective i true).tripPath i p.raw).line j = (s.setEffective i true).line j := by
      rw [State.line, kept .lqu (by decide)]
      rfl
    rw [exempt h, lines, if_pos h]
    split
    next e => rw [e]; exact s.line_setLine_self _ hi
    next e => exact nth_setNth_other _ _ _ _ e
  · rw [other h, if_neg h]
    split
    next e => rw [e]
    next => rfl

theorem State.suppress_tsc (s : State) (i : Nat) (p : PendingChange) : (s.suppress i p).tsc = s.tsc :=
  (suppress_unchanged s (L := .lqu :: .tlu :: .trips :: Part.recording) (by decide) (by decide) (by decide) (by decide) i p).tsc_eq
    (by decide) (by decide) (by decide) (by decide)

theorem State.suppress_cfg (s : State) (i : Nat) (p : PendingChange) : (s.suppress i p).cfg = s.cfg :=
  suppress_unchanged s (L := .lqu :: .tlu :: .trips :: Part.recording) (by decide) (by decide) (by decide) (by decide) i p .cfg
    (by decide)

theorem State.suppress_dsc (s : State) (i : Nat) (p : PendingChange) : (s.suppress i p).dsc = s.dsc :=
  suppress_unchanged s (L := .lqu :: .tlu :: .trips :: Part.recording) (by decide) (by decide) (by decide) (by decide) i p .dsc
    (by decide)

/-- The records of a suppressed change: the trip's, when it is exempt (R80). -/
theorem State.suppress_records (s : State) (i : Nat) (p : PendingChange) (hn : s.evq.nextSeq = some n)
    (room : s.evq.records.length ≤ 318) :
    let exempt := (s.lineCfg i).kind = .trip ∧ p.level = true
    (¬ exempt → (s.suppress i p).evq = s.evq)
      ∧ (exempt → ∃ r, r.detail.isTrip = true ∧ (s.suppress i p).evq = s.evq.append n r) := by
  obtain ⟨exempt, other⟩ := s.suppress_cases i p
  refine ⟨fun h => by rw [other h], fun h =>
    ⟨(s.setEffective i true).recordOf ((s.setEffective i true).tripPlacement i p.raw), ?_, ?_⟩⟩
  · show ((s.setEffective i true).tripPlacement i p.raw).detail.isTrip = true
    dsimp only [State.tripPlacement, State.tripDetail]
    split <;> rfl
  · rw [exempt h]
    exact (s.setEffective i true).tripPath_evq i p.raw hn room

/-- The trip of a suppressed change is taken all the same (R80). -/
theorem State.suppress_taken (s : State) (i : Nat) (p : PendingChange) (h : (s.lineCfg i).kind = .trip ∧ p.level = true)
    (hu : (s.lineCfg i).unit ≤ 8) : TripTaken 0 i p.raw s (s.suppress i p) := by
  rw [(s.suppress_cases i p).1 h]
  exact TripTaken.of_precedes (.of_blocks rfl rfl rfl rfl) ((s.setEffective i true).tripPath_taken p.raw hu)

/-! ### A line enters CHATTER (R78) -/

/-- The state in which the CHATTER record is placed. -/
def State.chattering (s : State) (i : Nat) (p : PendingChange) : State :=
  let x := (s.suppress i p).line i
  (s.suppress i p).setLine i { x with
    state := .chatter, recent := [], quiet := some (x.lastRawEdge.getD s.tsc.e + s.cfg.window) }

theorem State.enterChatter_eq (s : State) (i : Nat) (p : PendingChange) : s.enterChatter i p =
    ((s.chattering i p).place { detail := .chatter true ((s.suppress i p).line i).effective, source := i }).raise .chatter := by
  have h : s.chattering i p = (s.suppress i p).setLine i { (s.suppress i p).line i with
      state := .chatter, recent := []
      quiet := some (((s.suppress i p).line i).lastRawEdge.getD (s.suppress i p).tsc.e + (s.suppress i p).cfg.window) } := by
    rw [State.suppress_tsc, State.suppress_cfg]
    rfl
  rw [h]
  rfl

/-- The lines once a line is in CHATTER. -/
theorem State.enterChatter_line (s : State) (hi : 1 ≤ i ∧ i ≤ 32) (p : PendingChange) (j : Nat) :
    (s.enterChatter i p).line j = if j = i then { s.line i with
        effective := if (s.lineCfg i).kind = .trip ∧ p.level = true then true else (s.line i).effective
        state := .chatter, recent := [], quiet := some ((s.line i).lastRawEdge.getD s.tsc.e + s.cfg.window) }
      else s.line j := by
  have lqu : (s.enterChatter i p).line j = (s.chattering i p).line j := by
    rw [State.enterChatter_eq, State.line, State.raise_lqu, State.place_lqu]
    rfl
  rw [lqu, State.chattering]
  dsimp only
  split
  next e => rw [e, State.line_setLine_self _ _ hi, s.suppress_line hi, if_pos rfl]
  next e => rw [State.line, State.setLine_lqu, nth_setNth_other _ _ _ _ e]; exact (s.suppress_line hi p j).trans (if_neg e)

/-- The CHATTER record, behind the trip of an exempt change (R78, R80). -/
theorem State.enterChatter_records (s : State) (hi : 1 ≤ i ∧ i ≤ 32) (p : PendingChange) (hn : s.evq.nextSeq = some n)
    (room : s.evq.records.length ≤ 317) (numbers : n < 4294967295) :
    let exempt := (s.lineCfg i).kind = .trip ∧ p.level = true
    ∃ before r, (s.enterChatter i p).evq.records = s.evq.records ++ before ++ [r] ∧ before.length = (if exempt then 1 else 0)
      ∧ r.detail = .chatter true (if exempt then true else (s.line i).effective) ∧ r.source = i
      ∧ r.date = { epoch := s.tsc.epoch, cls := s.dsc.effClass, s := s.tsc.s, us := s.tsc.n / 1000 }
      ∧ (exempt → ∀ y ∈ before, y.detail.isTrip = true) := by
  intro exempt
  have effective : ((s.suppress i p).line i).effective = if exempt then true else (s.line i).effective := by
    rw [s.suppress_line hi, if_pos rfl]
  obtain ⟨none, one⟩ := s.suppress_records i p hn (by omega)
  obtain ⟨before, q, recs, next, len, trips⟩ : ∃ before q, (s.suppress i p).evq.records = s.evq.records ++ before
      ∧ (s.suppress i p).evq.nextSeq = some q ∧ before.length = (if exempt then 1 else 0)
      ∧ (exempt → ∀ y ∈ before, y.detail.isTrip = true) := by
    by_cases h : exempt
    · obtain ⟨r, trip, e⟩ := one h
      refine ⟨[{ r with seq := n }], n + 1, by rw [e]; rfl, ?_, by rw [if_pos h]; rfl, fun _ y hy => ?_⟩
      · rw [e, EventQueue.append]
        exact if_neg (by unfold max32; omega)
      · rw [List.mem_singleton.1 hy]
        exact trip
    · exact ⟨[], n, by rw [none h, List.append_nil], by rw [none h, hn], by rw [if_neg h]; rfl, fun h' => absurd h' h⟩
  have few : (s.suppress i p).evq.records.length ≤ 318 := by
    rw [recs, List.length_append, len]
    split <;> omega
  have evq : (s.chattering i p).evq = (s.suppress i p).evq := rfl
  refine ⟨before, { (s.chattering i p).recordOf { detail := .chatter true ((s.suppress i p).line i).effective, source := i }
    with seq := q }, ?_, len, by rw [← effective]; rfl, rfl, ?_, trips⟩
  · rw [State.enterChatter_eq, State.raise_evq, State.place_records _ (by rw [evq]; exact next) (by rw [evq]; exact few), evq, recs]
  · have tsc : (s.chattering i p).tsc = s.tsc := s.suppress_tsc i p
    have dsc : (s.chattering i p).dsc = s.dsc := s.suppress_dsc i p
    show (s.chattering i p).dateNow = _
    rw [State.dateNow, State.latch, tsc, dsc]
    rfl

theorem Detail.unmarked_of_isTrip {d : Detail} (h : d.isTrip = true) : d.isMarker = false := by
  cases d with
  | overflow => exact absurd h Bool.false_ne_true
  | _ => rfl

/-- The trip of an exempt change that sends its line into CHATTER (R78, R80). -/
theorem State.enterChatter_taken (s : State) (p : PendingChange) (h : (s.lineCfg i).kind = .trip ∧ p.level = true)
    (hu : (s.lineCfg i).unit ≤ 8) : TripTaken 0 i p.raw s (s.enterChatter i p) := by
  have evq : (s.chattering i p).evq = (s.suppress i p).evq := rfl
  rw [State.enterChatter_eq]
  generalize hp : ({ detail := .chatter true ((s.suppress i p).line i).effective, source := i } : Placement) = c
  refine (s.suppress_taken i p h hu).then ?_ ?_ ?_ (fun flag => ?_) (fun room n hn _ => ?_)
  · rw [State.raise_tlu, State.place_tlu]; rfl
  · rw [State.raise_tsc, State.place_tsc]; rfl
  · exact (s.chattering i p).place_shu c
  · exact (NoticeUnit.raise_flag _ .chatter .trip _).trans (by rw [State.place_flag (s := s.chattering i p) (v := .trip) c flag, Bool.true_or])
  · obtain ⟨r, trip, e⟩ := (s.suppress_records i p hn room).2 h
    have fresh : (s.chattering i p).evq.fresh := by
      rw [evq, e]
      exact s.evq.fresh_append n (Detail.unmarked_of_isTrip trip)
    have len : (s.chattering i p).evq.records.length = s.evq.records.length + 1 := by
      rw [evq, e]
      exact List.length_append
    rw [← evq]
    exact ((Grows.place (s.chattering i p) c (by rw [← hp]; rfl)).held (.inr ⟨by omega, fresh⟩)).1

/-! ### A line leaves CHATTER (R81) -/

theorem Grows.tripPath (s : State) (i : Nat) (l : Latch) : Grows 1 s (s.tripPath i l) := by
  obtain ⟨o, path, -⟩ := s.tripPath_eq i l
  obtain ⟨ntc, notified, -⟩ := (State.shiftTrip ((s.countTrip (s.lineCfg i).unit).place (s.tripPlacement i l)) (s.lineCfg i).unit
    (dateOf l) o).notifyTrip_eq i
  obtain ⟨x, counted⟩ := s.countTrip_eq (s.lineCfg i).unit
  have unmarked : (s.tripPlacement i l).detail.isMarker = false := by
    dsimp only [State.tripPlacement, State.tripDetail]
    split <;> rfl
  have before : Grows 0 s (s.countTrip (s.lineCfg i).unit) := .of_eq (by rw [counted]; rfl)
  have after : Grows 0 ((s.countTrip (s.lineCfg i).unit).place (s.tripPlacement i l)) (s.tripPath i l) :=
    .of_eq (by rw [path, notified]; rfl)
  exact (before.trans (.place _ _ unmarked)).trans after

/-- A change handed on places four records at most. -/
theorem Grows.handOn (s : State) (i : Nat) (level : Bool) (l : Latch) : Grows 4 s (s.handOn i level l) := by
  obtain ⟨unused, plain, status, trip, clear⟩ := s.handOn_cases i level l
  have nothing : Grows 0 s s := .of_eq rfl
  have recorded (p : Placement) (hp : p.detail.isMarker = false) : Grows 1 s (s.placeIfRecorded i p) := by
    obtain ⟨yes, no⟩ := s.placeIfRecorded_cases i p
    cases h : (s.lineCfg i).record with
    | true => rw [yes h]; exact .place s p hp
    | false => rw [no h]; exact nothing.mono (Nat.zero_le _)
  by_cases h1 : (s.lineCfg i).kind = .unused
  · rw [unused h1]
    exact nothing.mono (Nat.zero_le _)
  · by_cases h2 : (s.lineCfg i).kind = .trip
    · cases level with
      | true => rw [trip h2 rfl]; exact (Grows.tripPath s i l).mono (by decide)
      | false => rw [clear h2 rfl]; exact (recorded _ rfl).mono (by decide)
    · by_cases h : (s.lineCfg i).kind = .plain ∨ (s.lineCfg i).unit = 0
      · rw [plain h1 h2 h]
        exact (recorded _ rfl).mono (by decide)
      · rw [not_or] at h
        rw [status h1 h2 h.1 h.2]
        exact (recorded _ rfl).trans (.statusChange _ _ _)

/-- The state in which a line has left CHATTER, its record placed and its level not yet handed on. -/
def State.calmed (s : State) (i : Nat) : State :=
  (s.place { detail := .chatter false (s.lineLevel i), source := i }).setLine i { s.line i with
    quiet := none, state := .steady, pending := none, filtered := s.lineLevel i
    recent := if s.lineLevel i = (s.line i).effective then [] else [s.tsc.e] }

theorem State.leaveChatter_eq (s : State) (i : Nat) : s.leaveChatter i = if s.lineLevel i = (s.line i).effective
    then s.calmed i else (s.calmed i).deliver i (s.lineLevel i) (s.calmed i).latch := by
  have line : (s.place { detail := .chatter false (s.lineLevel i), source := i }).line i = s.line i := by
    rw [State.line, State.place_lqu]; rfl
  simp only [State.leaveChatter, State.calmed, line, State.place_tsc]
  by_cases h : s.lineLevel i = (s.line i).effective
  · simp only [h, bne_self_eq_false, Bool.false_eq_true, if_false, if_true]
  · have differs : (s.lineLevel i != (s.line i).effective) = true := bne_iff_ne.2 h
    simp only [differs, h, if_false, if_true]

end Sys2Proof.Machine

/-! PROOFS. O51: a change qualifies, and a line leaves CHATTER when it has been quiet (R76 to R82, R84). -/

namespace Sys2Proof.Machine

variable {s t m : State} {i j k n u v : Nat} {l : Latch} {level : Bool} {p : PendingChange}

/-! ### A change qualifies -/

/-- A change that qualifies in CHATTER is suppressed (R79, R80). -/
theorem State.qualify_chatter (s : State) (i : Nat) (p : PendingChange) (hs : (s.line i).state = .chatter) :
    s.qualify i p = (s.setLine i { s.line i with filtered := p.level, pending := none }).suppress i p := if_pos hs

/-- A change that qualifies with many recent ones sends its line into CHATTER (R77, R78). -/
theorem State.qualify_enters (s : State) (i : Nat) (p : PendingChange) (hs : (s.line i).state ≠ .chatter)
    (many : s.cfg.chatterCount ≤ (pruned (s.line i).recent s.tsc.e s.cfg.window).length) :
    s.qualify i p = (s.setLine i { s.line i with
      filtered := p.level, pending := none, state := .steady
      recent := pruned (s.line i).recent s.tsc.e s.cfg.window }).enterChatter i p := by
  rw [State.qualify, if_neg hs]
  dsimp only
  rw [if_neg (Nat.not_lt.2 many)]

/-- The lines after a change has been handed on are those before. -/
theorem State.handOn_line (s : State) (i : Nat) (level : Bool) (l : Latch) (j : Nat) :
    (s.handOn i level l).line j = s.line j := by
  have kept := handOn_unchanged s (L := .tlu :: .trips :: Part.recording) (by decide) (by decide) (by decide) i level l
  rw [State.line, kept .lqu (by decide)]
  rfl

/-- A line written, and another one. -/
theorem State.line_setLine_other (s : State) (x : Line) (h : j ≠ i) : (s.setLine i x).line j = s.line j :=
  nth_setNth_other _ _ _ _ h

/-- A change qualifies at the present instant: what becomes of its line and of the rest (R76 to R80). -/
theorem State.qualify_leaves (s : State) (hi : 1 ≤ i ∧ i ≤ 32) (p : PendingChange) :
    let x := s.line i
    let c := s.lineCfg i
    let recent := x.recent.filter (fun at' => decide (s.tsc.e < at' + s.cfg.window))
    let exempt := c.kind = .trip ∧ p.level = true
    let t := s.qualify i p
    (x.state ≠ .chatter → recent.length < s.cfg.chatterCount →
        t.line i = { x with filtered := p.level, effective := p.level, pending := none, state := .steady
                            recent := recent ++ [s.tsc.e] })
      ∧ (x.state ≠ .chatter → s.cfg.chatterCount ≤ recent.length →
          t.line i = { x with filtered := p.level, effective := if exempt then true else x.effective, pending := none
                              state := .chatter, recent := []
                              quiet := some (x.lastRawEdge.getD s.tsc.e + s.cfg.window) }
          ∧ t.ntc.flags.getLsbD 6 = true
          ∧ (s.evq.records.length ≤ 317 → ∀ n, s.evq.nextSeq = some n → n < 4294967295 →
              ∃ before r, t.evq.records = s.evq.records ++ before ++ [r] ∧ before.length = (if exempt then 1 else 0)
                ∧ r.detail = .chatter true (if exempt then true else x.effective) ∧ r.source = i
                ∧ r.date = { epoch := s.tsc.epoch, cls := s.dsc.effClass, s := s.tsc.s, us := s.tsc.n / 1000 }
                ∧ (exempt → ∀ y ∈ before, y.detail.isTrip = true)))
      ∧ (x.state = .chatter →
          t.line i = { x with filtered := p.level, effective := if exempt then true else x.effective, pending := none })
      ∧ (x.state = .chatter → ¬ exempt → Unchanged [.lqu] s t)
      ∧ (x.state = .chatter ∨ s.cfg.chatterCount ≤ recent.length → exempt → c.unit ≤ 8 → TripTaken 0 i p.raw s t)
      ∧ ∀ j, j ≠ i → t.line j = s.line j := by
  intro x c recent exempt t
  have self (y : Line) := s.line_setLine_self (i := i) y hi
  have written (y : Line) : Precedes 0 s (s.setLine i y) := .of_blocks rfl rfl rfl rfl
  refine ⟨fun hs few => ?_, fun hs many => ⟨?_, ?_, fun room n hn numbers => ?_⟩, fun hs => ?_, fun hs h => ?_, fun hs h hu => ?_,
    fun j hj => ?_⟩
  · rw [show t = _ from s.qualify_delivered hi hs few, State.handOn_line, self]
    rfl
  · rw [show t = _ from s.qualify_enters i p hs many, State.enterChatter_line _ hi, if_pos rfl, self]
    rfl
  · rw [show t = _ from s.qualify_enters i p hs many, State.enterChatter_eq]
    exact (NoticeUnit.raise_flag _ .chatter .chatter _).trans (Bool.or_true _)
  · rw [show t = _ from s.qualify_enters i p hs many]
    have records := State.enterChatter_records (s.setLine i { s.line i with
      filtered := p.level, pending := none, state := .steady
      recent := pruned (s.line i).recent s.tsc.e s.cfg.window }) hi p hn room numbers
    rw [self] at records
    exact records
  · rw [show t = _ from s.qualify_chatter i p hs, State.suppress_line _ hi, if_pos rfl, self]
    rfl
  · rw [show t = _ from (s.qualify_chatter i p hs).trans ((State.suppress_cases (s.setLine i _) i p).2 h)]
    exact setLine_unchanged s (by decide) _ _
  · by_cases hc : x.state = .chatter
    · rw [show t = _ from s.qualify_chatter i p hc]
      exact TripTaken.of_precedes (written _) (State.suppress_taken _ i p h hu)
    · rw [show t = _ from s.qualify_enters i p hc (hs.resolve_left hc)]
      exact TripTaken.of_precedes (written _) (State.enterChatter_taken _ p h hu)
  · by_cases hc : x.state = .chatter
    · rw [show t = _ from s.qualify_chatter i p hc, State.suppress_line _ hi, if_neg hj, s.line_setLine_other _ hj]
    · by_cases few : recent.length < s.cfg.chatterCount
      · rw [show t = _ from s.qualify_delivered hi hc few, State.handOn_line, s.line_setLine_other _ hj]
      · rw [show t = _ from s.qualify_enters i p hc (Nat.not_lt.1 few), State.enterChatter_line _ hi, if_neg hj,
          s.line_setLine_other _ hj]

/-! ### A line leaves CHATTER (R81) -/

/-- What a line leaves when it leaves CHATTER at the present instant. -/
theorem State.leaveChatter_leaves (s : State) (hi : 1 ≤ i ∧ i ≤ 32) :
    let x := s.line i
    let t := s.leaveChatter i
    t.line i = { x with state := .steady, quiet := none, pending := none, filtered := s.lineLevel i
                        effective := s.lineLevel i, recent := if s.lineLevel i = x.effective then [] else [s.tsc.e] }
      ∧ (s.evq.records.length ≤ 315 → ∀ n, s.evq.nextSeq = some n → ∃ r more, t.evq.records = s.evq.records ++ r :: more
          ∧ r.seq = n ∧ r.detail = .chatter false (s.lineLevel i) ∧ r.source = i
          ∧ (s.lineLevel i = x.effective → more = []))
      ∧ (s.lineLevel i = x.effective → Unchanged (.lqu :: Part.recording) s t)
      ∧ (s.lineLevel i ≠ x.effective → (s.lineCfg i).unit ≤ 8 → HandedOn 1 i (s.lineLevel i) t.latchNow s t)
      ∧ ∀ j, j ≠ i → t.line j = s.line j := by
  intro x t
  have e := s.leaveChatter_eq i
  have calm (j : Nat) (hj : j ≠ i) : (s.calmed i).line j = s.line j := by
    rw [State.calmed, State.line_setLine_other _ _ hj, State.line, State.place_lqu]
    rfl
  have self : (s.calmed i).line i = { x with
      quiet := none, state := .steady, pending := none, filtered := s.lineLevel i
      recent := if s.lineLevel i = (s.line i).effective then [] else [s.tsc.e] } := State.line_setLine_self _ _ hi
  have kept : Unchanged (.lqu :: Part.recording) s (s.calmed i) :=
    (place_unchanged s (by decide) _).trans (setLine_unchanged _ (by decide) _ _)
  have before : Precedes 1 s (s.calmed i) := (Precedes.place s _).then_blocks rfl rfl rfl rfl
  have record (n : Nat) (hn : s.evq.nextSeq = some n) (room : s.evq.records.length ≤ 315) :
      (s.calmed i).evq = s.evq.append n (s.recordOf { detail := .chatter false (s.lineLevel i), source := i }) :=
    State.place_evq_of_room _ hn (by omega)
  by_cases h : s.lineLevel i = x.effective
  · have ht : t = s.calmed i := e.trans (if_pos h)
    rw [ht]
    refine ⟨by rw [self, h], fun room n hn => ⟨_, [], congrArg EventQueue.records (record n hn room), rfl, rfl, rfl, fun _ => rfl⟩,
      fun _ => kept, fun h' => absurd h h', calm⟩
  · have ht : t = ((s.calmed i).setEffective i (s.lineLevel i)).handOn i (s.lineLevel i) (s.calmed i).latch := e.trans (if_neg h)
    have handed : Unchanged (.tlu :: .trips :: Part.recording) ((s.calmed i).setEffective i (s.lineLevel i)) t := by
      rw [ht]
      exact handOn_unchanged _ (by decide) (by decide) (by decide) _ _ _
    refine ⟨?_, fun room n hn => ?_, fun h' => absurd h' h, fun _ hu => ?_, fun j hj => ?_⟩
    · rw [ht, State.handOn_line, State.setEffective, State.line_setLine_self _ _ hi, self]
    · have fresh : (s.calmed i).evq.fresh := by rw [record n hn room]; exact s.evq.fresh_append n rfl
      have len : (s.calmed i).evq.records.length = s.evq.records.length + 1 := by rw [record n hn room]; exact List.length_append
      obtain ⟨⟨more, held⟩, -⟩ := (Grows.handOn ((s.calmed i).setEffective i (s.lineLevel i)) i (s.lineLevel i)
        (s.calmed i).latch).held (.inr ⟨by show (s.calmed i).evq.records.length + 4 ≤ 320; omega, fresh⟩)
      rw [← ht, show ((s.calmed i).setEffective i (s.lineLevel i)).evq = (s.calmed i).evq from rfl, record n hn room] at held
      refine ⟨{ s.recordOf { detail := .chatter false (s.lineLevel i), source := i } with seq := n }, more, ?_, rfl, rfl, rfl,
        fun h' => absurd h' h⟩
      rw [← held]
      exact List.append_assoc _ _ _
    · have latch : (s.calmed i).latch = t.latchNow := by
        have tsc : t.tsc = (s.calmed i).tsc := handed.tsc_eq (by decide) (by decide) (by decide) (by decide)
        have dsc : t.dsc = (s.calmed i).dsc := handed .dsc (by decide)
        rw [State.latchNow, tsc, dsc]
        rfl
      rw [← latch, ht]
      refine HandedOn.of_precedes before (HandedOn.of_handOn ?_ _)
      rw [before.lineCfg]
      exact hu
    · rw [ht, State.handOn_line, State.setEffective, State.line_setLine_other _ _ hj, calm j hj]

/-- Settles O51: the two events awaited at their instants. -/
theorem changesQualify : Obligations.ChangesQualify := by
  intro i s h1 h32 x c us changed
  have hi : 1 ≤ i ∧ i ≤ 32 := ⟨h1, h32⟩
  have exists' := lineExists_of h1 h32
  refine ⟨fun p hp hq => ?_, fun hp => ?_, fun at' ha hq => ?_, fun ha => ?_⟩
  · have e := exec_filterExpiry_quiet hi hp hq
    have moved : Unchanged [.clock] s (s.setTsc (s.tsc.reach p.expiry)) := reach_unchanged (by decide) s _
    have blocks : Precedes 0 s (s.setTsc (s.tsc.reach p.expiry)) := .of_blocks rfl rfl rfl rfl
    have tscm : (s.setTsc (s.tsc.reach p.expiry)).tsc = s.tsc.reach p.expiry := rfl
    have kept := qualify_unchanged (s.setTsc (s.tsc.reach p.expiry)) (L := .lqu :: .tlu :: .trips :: Part.recording) (by decide)
      (by decide) (by decide) (by decide) i p
    have tsc := kept.tsc_eq (by decide) (by decide) (by decide) (by decide)
    have dsc : ((s.setTsc (s.tsc.reach p.expiry)).qualify i p).dsc = (s.setTsc (s.tsc.reach p.expiry)).dsc := kept .dsc (by decide)
    obtain ⟨few, many, chatter, alone, trip, others⟩ := (s.setTsc (s.tsc.reach p.expiry)).qualify_leaves hi p
    rw [← tsc] at few many
    rw [← dsc] at many
    have overall : Unchanged changed s ((s.setTsc (s.tsc.reach p.expiry)).qualify i p) :=
      (moved.mono (by decide)).trans (kept.mono (by decide))
    refine ⟨_, e, tsc, ⟨few, many, chatter, fun hs h => (moved.mono (by decide)).trans ((alone hs h).mono (by decide)),
      fun hs h hu => TripTaken.of_precedes blocks (trip ?_ h hu)⟩, others, overall⟩
    rw [← tsc]
    exact hs
  · exact (if_pos exists').trans (congrArg Host.Outcome.next (await_of_none (ev := .filter i)
      (show (s.line i).pending.map (·.expiry) = none by rw [show (s.line i).pending = none from hp]; rfl)))
  · have e : exec (.quietTimerExpiry i) s = .next ((s.setTsc (s.tsc.reach at')).leaveChatter i) :=
      (if_pos exists').trans (congrArg Host.Outcome.next (await_instant (ev := .quiet i) ha hq))
    have moved : Unchanged [.clock] s (s.setTsc (s.tsc.reach at')) := reach_unchanged (by decide) s _
    have blocks : Precedes 0 s (s.setTsc (s.tsc.reach at')) := .of_blocks rfl rfl rfl rfl
    have kept := leaveChatter_unchanged (s.setTsc (s.tsc.reach at')) (L := .lqu :: .tlu :: .trips :: Part.recording) (by decide)
      (by decide) (by decide) (by decide) i
    have tsc := kept.tsc_eq (by decide) (by decide) (by decide) (by decide)
    obtain ⟨line, record, same, handed, others⟩ := (s.setTsc (s.tsc.reach at')).leaveChatter_leaves hi
    rw [← tsc] at line
    refine ⟨_, e, tsc, line, record, fun h => (moved.mono (by decide)).trans ((same h).mono (by decide)), handed, others,
      (moved.mono (by decide)).trans (kept.mono (by decide))⟩
  · exact (if_pos exists').trans (congrArg Host.Outcome.next (await_of_none (ev := .quiet i) ha))

end Sys2Proof.Machine

/-! PROOFS. The sources and the selection (R29 to R38, R54 to R56): what an evaluation of the selection leaves of the receiver and
of the discipline. -/

namespace Sys2Proof.Machine

variable {s t m : State} {x y : Source}

/-! ### The receiver told of a change of state (R34, R56) -/

/-- The receiver after the discipline went from one state to another, told only of a change. -/
def Receiver.toldOf (r : Receiver) (old new : DiscState) : Receiver := if old = new then r else r.told old new

@[simp] theorem Receiver.toldOf_self (r : Receiver) (d : DiscState) : r.toldOf d d = r := if_pos rfl

theorem Receiver.toldOf_of_ne {old new : DiscState} (r : Receiver) (h : new ≠ old) : r.toldOf old new = r.told old new :=
  if_neg (Ne.symm h)

/-- Being told leaves all but the out and release counts, which stay too when supervision runs on. -/
theorem Receiver.toldOf_cases (r : Receiver) (old new : DiscState) :
    (old = new ∨ (old.supervised = true ∧ new.supervised = true) → r.toldOf old new = r)
      ∧ (¬(old = new ∨ (old.supervised = true ∧ new.supervised = true)) → r.toldOf old new =
          { r with srcA := { r.srcA with out := 0, release := 0 }, srcB := { r.srcB with out := 0, release := 0 } }) := by
  rw [Receiver.toldOf, Receiver.told]
  by_cases h : old = new
  · exact ⟨fun _ => if_pos h, fun h' => absurd (.inl h) h'⟩
  · rw [if_neg h]
    refine ⟨fun h' => if_pos ?_, fun h' => if_neg ?_⟩
    · rw [Bool.and_eq_true]; exact h'.resolve_left h
    · rw [Bool.and_eq_true]; exact fun both => h' (.inr both)

/-- A source after the receiver has been told. -/
theorem Receiver.toldOf_src (r : Receiver) (old new : DiscState) (x : Source) :
    (r.toldOf old new).src x = if old = new ∨ (old.supervised = true ∧ new.supervised = true) then r.src x
      else { r.src x with out := 0, release := 0 } := by
  obtain ⟨kept, cleared⟩ := r.toldOf_cases old new
  split
  next h => rw [kept h]
  next h =>
    rw [cleared h]
    cases x <;> rfl

/-! ### A change of the selection handed on (R54) -/

/-- A change of selection that loses the last source enters HOLDOVER; any other is taken in the state that stands (R54). -/
theorem State.discSelection_eq (s : State) (new : Option Source) :
    let lost := new = none ∧ (s.dsc.state = .acquire ∨ s.dsc.state = .locked)
    (lost → s.discSelection new = (s.setDsc { s.dsc with view := new }).enterHoldover)
      ∧ (¬ lost → ∃ d : Discipline, s.discSelection new = (s.setDsc d).evalClass ∧ d.view = new ∧ d.u = s.dsc.u
          ∧ d.f = s.dsc.f ∧ d.state = s.dsc.state) := by
  have e : s.discSelection new = match s.dsc.state, new with
      | .free, _ => (s.setDsc { s.dsc with view := new }).evalClass
      | .holdover, _ | .acquire, some _ | .locked, some _ =>
          (s.setDsc { ({ s.dsc with view := new } : Discipline).restart with lock := 0 }).evalClass
      | .acquire, none | .locked, none => (s.setDsc { s.dsc with view := new }).enterHoldover := by
    cases hs : s.dsc.state <;> cases new <;> simp only [State.discSelection, State.setDsc_dsc, hs] <;> rfl
  refine ⟨fun ⟨gone, from'⟩ => ?_, fun h => ?_⟩
  · rw [e, gone]
    rcases from' with h | h <;> rw [h]
  · let restarted : Discipline := { ({ s.dsc with view := new } : Discipline).restart with lock := 0 }
    cases hs : s.dsc.state with
    | free => exact ⟨{ s.dsc with view := new }, by rw [e, hs], rfl, rfl, rfl, hs⟩
    | holdover => exact ⟨restarted, by rw [e, hs], rfl, rfl, rfl, hs⟩
    | acquire =>
      cases new with
      | none => exact absurd ⟨rfl, .inl hs⟩ h
      | some x => exact ⟨restarted, by rw [e, hs], rfl, rfl, rfl, hs⟩
    | locked =>
      cases new with
      | none => exact absurd ⟨rfl, .inr hs⟩ h
      | some x => exact ⟨restarted, by rw [e, hs], rfl, rfl, rfl, hs⟩

/-- A change of selection leaves the discipline's U and F, and its state unless it loses its last source (R54). -/
theorem State.discSelection_leaves (s : State) (new : Option Source) :
    let lost := new = none ∧ (s.dsc.state = .acquire ∨ s.dsc.state = .locked)
    let t := s.discSelection new
    t.rrx = s.rrx.toldOf s.dsc.state t.dsc.state ∧ t.dsc.view = new ∧ t.dsc.u = s.dsc.u ∧ t.dsc.f = s.dsc.f
      ∧ (lost → t.dsc.state = .holdover ∧ t.dsc.c = max (-(s.cfg.slewLimit : Int)) (min (-s.dsc.f) s.cfg.slewLimit))
      ∧ (¬ lost → t.dsc.state = s.dsc.state) := by
  intro lost t
  obtain ⟨enters, stays⟩ := s.discSelection_eq new
  by_cases h : lost
  · have e : t = (s.setDsc { s.dsc with view := new }).enterHoldover := enters h
    obtain ⟨-, from'⟩ := id h
    have moved : DiscState.holdover ≠ s.dsc.state := by rcases from' with h | h <;> rw [h] <;> decide
    have dsc := (s.setDsc { s.dsc with view := new }).enterHoldover_dsc
    rw [← e] at dsc
    have state : t.dsc.state = .holdover := by rw [dsc]; rfl
    have rrx : t.rrx = s.rrx.told s.dsc.state t.dsc.state := by
      rw [state, e, State.enterHoldover, State.reportDisc_rrx, State.evalClass_rrx, State.evalClass_dsc]
      rfl
    refine ⟨by rw [rrx, Receiver.toldOf_of_ne _ (state ▸ moved)], by rw [dsc]; rfl, by rw [dsc]; rfl, by rw [dsc]; rfl,
      fun _ => ⟨state, ?_⟩, fun h' => absurd h h'⟩
    rw [dsc]
    exact clampInt_eq _ (by omega)
  · obtain ⟨d, e, view, u, f, state⟩ := stays h
    have dsc : t.dsc = { d with effClass := d.classNow } := by
      rw [show t = _ from e, State.evalClass_dsc]; rfl
    have rrx : t.rrx = s.rrx := by rw [show t = _ from e, State.evalClass_rrx]; rfl
    rw [dsc, rrx]
    exact ⟨by rw [state, Receiver.toldOf_self], view, u, f, fun h' => absurd h' h, fun _ => state⟩

/-! ### The selection evaluated (R36 to R38) -/

/-- The selection that R36 finds is made of eligible sources. -/
theorem State.selectionNow_eligible (s : State) (b : Bool) : ∀ x, s.selectionNow b = some x → s.eligible x = true := by
  intro x h
  rw [State.selectionNow] at h
  split_ifs at h with h1 h2 h3
  · cases h; exact h1.2.1
  · cases h; exact h2
  · cases h; exact h3

/-- What an evaluation of the selection leaves of the receiver and of the discipline (R36 to R38, R54, R56). -/
theorem State.evalSelection_leaves (s : State) (b : Bool) :
    let new := s.selectionNow b
    let t := s.evalSelection b
    (∃ rev, t.rrx = ({ s.rrx with selection := new, revert := rev } : Receiver).toldOf s.dsc.state t.dsc.state)
      ∧ t.dsc.u = s.dsc.u ∧ t.dsc.f = s.dsc.f
      ∧ (new = s.rrx.selection → t.dsc = s.dsc)
      ∧ (new ≠ s.rrx.selection → t.dsc.view = new ∧ t.ntc.flags.getLsbD 2 = true)
      ∧ (new = none ∧ new ≠ s.rrx.selection ∧ (s.dsc.state = .acquire ∨ s.dsc.state = .locked) → t.dsc.state = .holdover
          ∧ t.dsc.c = max (-(s.cfg.slewLimit : Int)) (min (-s.dsc.f) s.cfg.slewLimit))
      ∧ (¬(new = none ∧ new ≠ s.rrx.selection ∧ (s.dsc.state = .acquire ∨ s.dsc.state = .locked)) →
          t.dsc.state = s.dsc.state) := by
  intro new t
  by_cases same : new = s.rrx.selection
  · have e : t = s.settleRevert := State.evalSelection_same same
    have dsc : t.dsc = s.dsc := by rw [e]; rfl
    refine ⟨⟨t.rrx.revert, ?_⟩, by rw [dsc], by rw [dsc], fun _ => dsc, fun h => absurd same h, fun h => absurd same h.2.1,
      fun _ => by rw [dsc]⟩
    rw [dsc, Receiver.toldOf_self, e, same]
    rfl
  · generalize hm : (State.placeRef (s.setRrx { s.rrx with selection := new }).settleRevert (new.getD (s.rrx.selection.getD .a))
      (s.rrx.src (new.getD (s.rrx.selection.getD .a))).state (s.rrx.src (new.getD (s.rrx.selection.getD .a))).state new) = m
    have e : t = m.discSelection new := by rw [← hm]; exact if_neg same
    have dsc : m.dsc = s.dsc := by
      rw [← hm, State.placeRef, State.raise_dsc, State.place_dsc]; rfl
    have cfg : m.cfg = s.cfg := by
      rw [← hm, State.placeRef, State.raise_cfg, State.place_cfg]; rfl
    have rrx : m.rrx = (s.setRrx { s.rrx with selection := new }).settleRevert.rrx := by
      rw [← hm, State.placeRef, State.raise_rrx, State.place_rrx]
    have flag : m.ntc.flags.getLsbD 2 = true := by
      rw [← hm]
      exact (NoticeUnit.raise_flag _ .refChange .refChange _).trans (Bool.or_true _)
    obtain ⟨told, view, u, f, lost, kept⟩ := m.discSelection_leaves new
    rw [← e, dsc] at told u f lost kept
    rw [cfg] at lost
    refine ⟨⟨m.rrx.revert, by rw [told, rrx]; rfl⟩, u, f, fun h => absurd h same, fun _ => ⟨e ▸ view, ?_⟩,
      fun ⟨h1, _, h3⟩ => lost ⟨h1, h3⟩, fun h => kept fun ⟨h1, h3⟩ => h ⟨h1, same, h3⟩⟩
    rw [e]
    obtain ⟨-, -, -, -, flags, -⟩ := Aside.discSelection m new
    exact flags .refChange flag

end Sys2Proof.Machine

/-! PROOFS. The events of a source (R30 to R33), its instants and the revert timer (R29, R31, R36, R37). -/

namespace Sys2Proof.Machine

variable {s t m : State} {x y : Source}

/-! ### The sources of the receiver -/

@[simp] theorem Receiver.src_setSrc (r : Receiver) (x : Source) (d : SourceData) : (r.setSrc x d).src x = d := by cases x <;> rfl

theorem Receiver.src_setSrc_other (r : Receiver) (d : SourceData) (h : y ≠ x) : (r.setSrc x d).src y = r.src y := by
  cases x <;> cases y <;> first | rfl | exact absurd rfl h

/-- The blocks that an evaluation of the selection reads. -/
def State.SameView (s m : State) : Prop := m.rrx = s.rrx ∧ m.dsc = s.dsc ∧ m.cfg = s.cfg

theorem State.SameView.selectionNow (h : s.SameView m) (b : Bool) : m.selectionNow b = s.selectionNow b := by
  obtain ⟨rrx, dsc, cfg⟩ := h
  have eligible (x : Source) : m.eligible x = s.eligible x := by rw [State.eligible, State.eligible, rrx, dsc]
  simp only [State.selectionNow, eligible, rrx, cfg]

/-- A source whose state has changed is recorded and the selection evaluated; one that has not leaves all (R30 step 3). -/
theorem State.sourceMoved_eq (s : State) (x : Source) (old : SourceState) :
    ((s.rrx.src x).state = old → s.sourceMoved x old = s)
      ∧ ((s.rrx.src x).state ≠ old → ∃ m, s.SameView m ∧ s.sourceMoved x old = m.evalSelection false) := by
  refine ⟨fun h => if_pos h, fun h => ⟨s.placeRef x old (s.rrx.src x).state s.rrx.selection, ⟨?_, ?_, ?_⟩, if_neg h⟩⟩
  · rw [State.placeRef, State.raise_rrx, State.place_rrx]
  · rw [State.placeRef, State.raise_dsc, State.place_dsc]
  · rw [State.placeRef, State.raise_cfg, State.place_cfg]

/-- What the evaluation after an event of a source leaves (R30 step 3). -/
theorem State.sourceMoved_leaves (s : State) (x : Source) (old : SourceState) :
    let t := s.sourceMoved x old
    (∃ sel rev, t.rrx = ({ s.rrx with selection := sel, revert := rev } : Receiver).toldOf s.dsc.state t.dsc.state)
      ∧ t.dsc.u = s.dsc.u ∧ t.dsc.f = s.dsc.f
      ∧ ((s.rrx.src x).state ≠ old → t.rrx.selection = s.selectionNow false)
      ∧ (t.dsc.state ≠ s.dsc.state → t.dsc.state = .holdover ∧ t.rrx.selection = none
          ∧ (s.dsc.state = .acquire ∨ s.dsc.state = .locked)) := by
  intro t
  obtain ⟨same, moved⟩ := s.sourceMoved_eq x old
  have told (r : Receiver) (a b : DiscState) : (r.toldOf a b).selection = r.selection := by
    rw [Receiver.toldOf, Receiver.told]
    split_ifs <;> rfl
  by_cases h : (s.rrx.src x).state = old
  · rw [show t = s from same h]
    exact ⟨⟨_, _, (Receiver.toldOf_self _ _).symm⟩, rfl, rfl, fun h' => absurd h h', fun h' => absurd rfl h'⟩
  · obtain ⟨m, view, e⟩ := moved h
    obtain ⟨⟨rev, rrx⟩, u, f, -, -, lost, kept⟩ := m.evalSelection_leaves false
    have now := view.selectionNow false
    obtain ⟨mrrx, mdsc, -⟩ := view
    rw [now, mrrx, mdsc, ← e] at rrx
    rw [mdsc, ← e] at u f
    have sel : t.rrx.selection = s.selectionNow false := by rw [show t.rrx = _ from rrx, told]
    refine ⟨⟨_, rev, rrx⟩, u, f, fun _ => sel, fun h' => ?_⟩
    by_cases gone : m.selectionNow false = none ∧ m.selectionNow false ≠ m.rrx.selection ∧ (m.dsc.state = .acquire ∨ m.dsc.state = .locked)
    · have held := (lost gone).1
      obtain ⟨none', -, from'⟩ := gone
      rw [mdsc] at from'
      exact ⟨by rw [show t = _ from e]; exact held, by rw [sel, ← now]; exact none', from'⟩
    · refine absurd ?_ h'
      rw [show t = _ from e, kept gone, mdsc]

/-- Being told touches the counts of the sources alone. -/
theorem Receiver.toldOf_eq (r : Receiver) (a b : DiscState) : ∃ oa ra ob rb, r.toldOf a b = { r with
    srcA := { r.srcA with out := oa, release := ra }, srcB := { r.srcB with out := ob, release := rb } } := by
  obtain ⟨kept, cleared⟩ := r.toldOf_cases a b
  by_cases h : a = b ∨ (a.supervised = true ∧ b.supervised = true)
  · exact ⟨r.srcA.out, r.srcA.release, r.srcB.out, r.srcB.release, kept h⟩
  · exact ⟨0, 0, 0, 0, cleared h⟩

theorem DiscState.supervised_iff (d : DiscState) : d.supervised = true ↔ d = .locked ∨ d = .holdover := by
  cases d <;> decide

/-! ### An event taken by a source (R30 to R33) -/

theorem SourceData.take_qualified {d : SourceData} (h : d.state = .absent ∨ d.state = .qualifying) (cfg : Settings) (sup : Bool)
    (u : Nat) (ev : RefEvent) : d.take cfg sup u ev = (d.record ev).qualified ev := by
  rcases h with h | h
  · cases d; cases h; rfl
  · cases d; cases h; rfl

/-- The supervision of a source, when it runs and there is something to judge (R32, R33). -/
def SourceData.supervisedIf (d : SourceData) (cfg : Settings) (u : Nat) : Bool → Option (Option Int) → SourceData
  | true, some j => d.supervised cfg u j
  | _, _ => d

theorem SourceData.take_supervised {d : SourceData} (h : d.state = .usable ∨ d.state = .faulted) (cfg : Settings) (sup : Bool)
    (u : Nat) (ev : RefEvent) : d.take cfg sup u ev = (d.record ev).supervisedIf cfg u sup (d.judged ev) := by
  rcases h with h | h
  · cases d; cases h; rfl
  · cases d; cases h; rfl

theorem SourceData.take_judged {d : SourceData} {ev : RefEvent} {j : Option Int} (h : d.state = .usable ∨ d.state = .faulted)
    (hj : d.judged ev = some j) (cfg : Settings) (u : Nat) : d.take cfg true u ev = (d.record ev).supervised cfg u j := by
  rw [SourceData.take_supervised h, hj, SourceData.supervisedIf]

theorem SourceData.take_unjudged {d : SourceData} {sup : Bool} {ev : RefEvent} (h : d.state = .usable ∨ d.state = .faulted)
    (hj : sup = false ∨ d.judged ev = none) (cfg : Settings) (u : Nat) : d.take cfg sup u ev = d.record ev := by
  rw [SourceData.take_supervised h]
  rcases hj with hj | hj
  · rw [hj]; rfl
  · rw [hj]; cases sup <;> rfl

theorem SourceData.supervised_usable {d : SourceData} (h : d.state = .usable) (cfg : Settings) (u : Nat) (j : Option Int) :
    d.supervised cfg u j = if isOut cfg.phaseLimit j then
        if cfg.faultCount + 1 ≤ d.out + 1 then { d with state := .faulted, out := 0, release := 0 } else { d with out := d.out + 1 }
      else { d with out := 0 } := by
  cases d; cases h; rfl

theorem SourceData.supervised_faulted {d : SourceData} (h : d.state = .faulted) (cfg : Settings) (u : Nat) (j : Option Int) :
    d.supervised cfg u j = if isGood cfg.phaseLimit cfg.phaseHyst u j then
        if cfg.faultCount + 1 ≤ d.release + 1 then { d with state := .usable, out := 0, release := 0 }
        else { d with release := d.release + 1 }
      else { d with release := 0 } := by
  cases d; cases h; rfl

/-- A source after a missing sample (R31 to R33). -/
theorem SourceData.take_missing (d : SourceData) (cfg : Settings) (sup : Bool) (u : Nat) :
    let d' := d.take cfg sup u .missing
    d'.state = (if d.state = .usable ∧ sup = true ∧ cfg.faultCount ≤ d.out then .faulted else d.state)
      ∧ (d.state = .qualifying → d'.qualify = 0)
      ∧ (d.state = .usable → sup = true → d.out < cfg.faultCount → d'.out = d.out + 1)
      ∧ (d.state = .faulted → sup = true → d'.release = 0)
      ∧ ∃ st q o p, d' = { d with state := st, qualify := q, out := o, release := p } := by
  intro d'
  by_cases hq : d.state = .absent ∨ d.state = .qualifying
  · have e : d' = if d.state = .qualifying then { d with qualify := 0 } else d := d.take_qualified hq cfg sup u .missing
    by_cases h : d.state = .qualifying
    · rw [if_pos h] at e
      rw [e, h]
      exact ⟨rfl, fun _ => rfl, fun h => (nomatch h), fun h => (nomatch h), _, _, _, _, rfl⟩
    · have absent := hq.resolve_right h
      rw [if_neg h] at e
      rw [e, absent]
      exact ⟨rfl, fun h => (nomatch h), fun h => (nomatch h), fun h => (nomatch h), _, _, _, _, rfl⟩
  · have hj : d.state = .usable ∨ d.state = .faulted := by cases hs : d.state <;> simp_all
    cases sup with
    | false =>
      have e : d' = d := d.take_unjudged hj (.inl rfl) cfg u
      rw [e]
      refine ⟨(if_neg fun h => Bool.false_ne_true h.2.1).symm, fun h => absurd (.inr h) hq, fun _ h => (nomatch h),
        fun _ h => (nomatch h), _, _, _, _, rfl⟩
    | true =>
      have e : d' = d.supervised cfg u none := d.take_judged hj rfl cfg u
      rcases hj with h | h
      · have out : d' = if cfg.faultCount + 1 ≤ d.out + 1 then { d with state := .faulted, out := 0, release := 0 } else { d with out := d.out + 1 } :=
          e.trans (SourceData.supervised_usable h cfg u none)
        by_cases many : cfg.faultCount ≤ d.out
        · rw [if_pos (by omega)] at out
          rw [out, h]
          exact ⟨(if_pos ⟨rfl, rfl, many⟩).symm, fun h => (nomatch h), fun _ _ few => absurd many (by omega), fun h => (nomatch h),
            _, _, _, _, rfl⟩
        · rw [if_neg (by omega)] at out
          rw [out, h]
          exact ⟨(if_neg fun h => many h.2.2).symm, fun h => (nomatch h), fun _ _ _ => rfl, fun h => (nomatch h), _, _, _, _, rfl⟩
      · have e' : d' = { d with release := 0 } := e.trans (SourceData.supervised_faulted h cfg u none)
        rw [e', h]
        exact ⟨rfl, fun h => (nomatch h), fun h => (nomatch h), fun _ _ => rfl, _, _, _, _, rfl⟩

/-- A source after the receiver has been told: its counts may be cleared. -/
theorem Receiver.toldOf_src_eq (r : Receiver) (a b : DiscState) (x : Source) : ∃ o p,
    (r.toldOf a b).src x = { r.src x with out := o, release := p } := by
  obtain ⟨oa, ra, ob, rb, e⟩ := r.toldOf_eq a b
  rw [e]
  cases x with
  | a => exact ⟨oa, ra, rfl⟩
  | b => exact ⟨ob, rb, rfl⟩

/-- A missing sample handed to the discipline leaves the receiver (R55). -/
theorem State.handToDsc_missing (s : State) (x : Source) : (s.handToDsc x .missing).rrx = s.rrx
    ∧ (s.rrx.selection = some x → s.dsc.state = .acquire ∨ s.dsc.state = .locked →
        (s.handToDsc x .missing).dsc = { s.dsc with lock := 0, sum := 0, count := 0, prev := none }) := by
  rw [State.handToDsc, State.discMissing]
  refine ⟨?_, fun hs h => ?_⟩
  · split_ifs
    · cases s.dsc.state <;> rfl
    · rfl
  · rw [if_pos hs]
    dsimp only
    split
    · rfl
    · rfl
    · rename_i hf; rw [hf] at h; rcases h with h | h <;> cases h
    · rename_i hf; rw [hf] at h; rcases h with h | h <;> cases h

/-- A missing sample taken by the receiver (R30). -/
theorem State.takeRefEvent_missing (s : State) (x : Source) :
    let d := (s.rrx.src x).take s.cfg s.dsc.state.supervised s.dsc.u .missing
    let t := s.takeRefEvent x .missing
    (∃ o p, t.rrx.src x = { d with out := o, release := p })
      ∧ t.rrx.countA = s.rrx.countA ∧ t.rrx.countB = s.rrx.countB
      ∧ (d.state = (s.rrx.src x).state → t.rrx = s.rrx.setSrc x d
          ∧ (s.rrx.selection = some x → s.dsc.state = .acquire ∨ s.dsc.state = .locked →
              t.dsc = { s.dsc with lock := 0, sum := 0, count := 0, prev := none })) := by
  intro d t
  have src : (s.setSrc x d).rrx.src x = d := s.rrx.src_setSrc x d
  have sel : (s.setSrc x d).rrx.selection = s.rrx.selection := by cases x <;> rfl
  obtain ⟨same, dsc⟩ := ((s.setSrc x d).sourceMoved x (s.rrx.src x).state).handToDsc_missing x
  have rrx : t.rrx = ((s.setSrc x d).sourceMoved x (s.rrx.src x).state).rrx := same
  obtain ⟨⟨sel', rev, told⟩, -⟩ := (s.setSrc x d).sourceMoved_leaves x (s.rrx.src x).state
  refine ⟨?_, ?_, ?_, fun h => ?_⟩
  · obtain ⟨o, p, e⟩ := Receiver.toldOf_src_eq { (s.setSrc x d).rrx with selection := sel', revert := rev } (s.setSrc x d).dsc.state
      ((s.setSrc x d).sourceMoved x (s.rrx.src x).state).dsc.state x
    refine ⟨o, p, ?_⟩
    rw [rrx, told, e, ← src]
    cases x <;> rfl
  · obtain ⟨_, _, _, _, e⟩ := Receiver.toldOf_eq { (s.setSrc x d).rrx with selection := sel', revert := rev } (s.setSrc x d).dsc.state
      ((s.setSrc x d).sourceMoved x (s.rrx.src x).state).dsc.state
    rw [rrx, told, e]
    cases x <;> rfl
  · obtain ⟨_, _, _, _, e⟩ := Receiver.toldOf_eq { (s.setSrc x d).rrx with selection := sel', revert := rev } (s.setSrc x d).dsc.state
      ((s.setSrc x d).sourceMoved x (s.rrx.src x).state).dsc.state
    rw [rrx, told, e]
    cases x <;> rfl
  · have still : (s.setSrc x d).sourceMoved x (s.rrx.src x).state = s.setSrc x d :=
      ((s.setSrc x d).sourceMoved_eq x _).1 (by rw [src]; exact h)
    have ht : t = (s.setSrc x d).handToDsc x .missing := congrArg (State.handToDsc x .missing) still
    rw [still] at dsc rrx
    exact ⟨rrx, fun hs hst => (congrArg State.dsc ht).trans (dsc (sel.trans hs) hst)⟩

/-! ### Instants that a candidate may defer (R29) -/

/-- A source's event is awaited at its instant unless a candidate in hand defers it. -/
theorem await_undeferred {ev : TimedEvent} {at' : Nat} (hi : ev.instant s = s.rrx.undeferred x (some at')) (hq : s.quietTo at') :
    let deferred := x = .a ∧ ∃ c : Candidate, s.rrx.candidate = some c ∧ c.mark.e < at'
    (deferred → s.await ev (some at') = s.setTsc (s.tsc.reach at'))
      ∧ (¬ deferred → s.await ev (some at') = ev.happen (s.setTsc (s.tsc.reach at'))) := by
  intro deferred
  have defers : s.rrx.defers x at' = true ↔ deferred := by
    rw [Receiver.defers, Bool.and_eq_true, decide_eq_true_iff]
    refine and_congr_right fun _ => ?_
    cases s.rrx.candidate with
    | none => simp
    | some c => simp
  have there : ev.instant (s.setTsc (s.tsc.reach at')) = s.rrx.undeferred x (some at') :=
    (TimedEvent.instant_setTsc ev s _).trans hi
  have e : s.await ev (some at') = if ev.instant (s.setTsc (s.tsc.reach at')) = some at' then
      ev.happen (s.setTsc (s.tsc.reach at')) else s.setTsc (s.tsc.reach at') := by
    rw [State.await, State.runToE_quiet hq]
  refine ⟨fun h => e.trans (if_neg ?_), fun h => e.trans (if_pos ?_)⟩
  · rw [there, Receiver.undeferred, Option.filter_some, if_neg (by rw [defers.2 h]; decide)]
    exact fun h => nomatch h
  · rw [there, Receiver.undeferred, Option.filter_some, if_pos (by rw [Bool.eq_false_iff.2 (mt defers.1 h)]; rfl)]

/-! ### The 8-second instant (R31) -/

theorem Receiver.toldOf_rest (r : Receiver) (a b : DiscState) : (r.toldOf a b).selection = r.selection
    ∧ (r.toldOf a b).revert = r.revert ∧ (r.toldOf a b).state = r.state ∧ (r.toldOf a b).discards = r.discards
    ∧ (r.toldOf a b).countA = r.countA ∧ (r.toldOf a b).countB = r.countB := by
  obtain ⟨_, _, _, _, e⟩ := r.toldOf_eq a b
  rw [e]
  exact ⟨rfl, rfl, rfl, rfl, rfl, rfl⟩

/-- A source after its 8-second instant (R31). -/
def SourceData.gone (d : SourceData) : SourceData :=
  { d with state := .absent, qualify := 0, out := 0, release := 0, lastSample := none, nextMissing := none, absentAt := none }

/-- The 8-second instant taken, up to the evaluation of the selection (R24, R31). -/
def State.withAbsent (s : State) (x : Source) : State :=
  let m := s.setSrc x (s.rrx.src x).gone
  if x = .a then m.setRrx { m.rrx with state := .hunt, discards := 0 } else m

theorem State.withAbsent_leaves (s : State) (x : Source) :
    (s.withAbsent x).rrx.src x = (s.rrx.src x).gone ∧ (∀ y, y ≠ x → (s.withAbsent x).rrx.src y = s.rrx.src y)
      ∧ (s.withAbsent x).rrx.selection = s.rrx.selection ∧ (s.withAbsent x).dsc = s.dsc ∧ (s.withAbsent x).cfg = s.cfg
      ∧ (x = .a → (s.withAbsent x).rrx.state = .hunt ∧ (s.withAbsent x).rrx.discards = 0) := by
  cases x with
  | a => exact ⟨rfl, fun y hy => by cases y with | a => exact absurd rfl hy | b => rfl, rfl, rfl, rfl, fun _ => ⟨rfl, rfl⟩⟩
  | b => exact ⟨rfl, fun y hy => by cases y with | b => exact absurd rfl hy | a => rfl, rfl, rfl, rfl, fun h => (nomatch h)⟩

/-- What the 8-second instant leaves (R24, R31, R36, R54). -/
theorem State.takeAbsent_leaves (s : State) (x : Source) :
    let d := s.rrx.src x
    let t := s.takeAbsent x
    t.rrx.src x = d.gone ∧ (x = .a → t.rrx.state = .hunt ∧ t.rrx.discards = 0)
      ∧ (d.state ≠ .absent → t.rrx.selection ≠ some x)
      ∧ (d.state ≠ .absent → s.rrx.selection = some x → (s.dsc.state = .acquire ∨ s.dsc.state = .locked) →
          (∀ y, y ≠ x → (s.rrx.src y).state ≠ .usable) →
          t.rrx.selection = none ∧ t.dsc.state = .holdover ∧ t.dsc.view = none ∧ t.dsc.u = s.dsc.u ∧ t.dsc.f = s.dsc.f
            ∧ t.dsc.c = max (-(s.cfg.slewLimit : Int)) (min (-s.dsc.f) s.cfg.slewLimit)) := by
  intro d t
  obtain ⟨src, others, sel, dsc, cfg, hunt⟩ := s.withAbsent_leaves x
  have e : t = (s.withAbsent x).sourceMoved x d.state := rfl
  obtain ⟨⟨sel', rev, told⟩, u, f, selection, -⟩ := (s.withAbsent x).sourceMoved_leaves x d.state
  have away : (s.withAbsent x).eligible x = false := State.not_eligible (by rw [src]; exact (by decide : SourceState.absent ≠ .usable))
  rw [← e] at told u f selection
  rw [dsc] at told u f
  obtain ⟨-, -, state, discards, -⟩ := Receiver.toldOf_rest { (s.withAbsent x).rrx with selection := sel', revert := rev } s.dsc.state t.dsc.state
  refine ⟨?_, fun h => ?_, fun h hs => ?_, fun h hs hst ho => ?_⟩
  · have whole : ({ (s.withAbsent x).rrx with selection := sel', revert := rev } : Receiver).src x = d.gone := by
      rw [← src]
      cases x <;> rfl
    rw [told, Receiver.toldOf_src, whole]
    exact ite_self _
  · rw [told, state, discards]
    exact hunt h
  · have moved : ((s.withAbsent x).rrx.src x).state ≠ d.state := by rw [src]; exact Ne.symm h
    have := State.selectionNow_eligible _ _ x ((selection moved).symm.trans hs)
    rw [away] at this
    exact Bool.false_ne_true this
  · have moved : ((s.withAbsent x).rrx.src x).state ≠ d.state := by rw [src]; exact Ne.symm h
    obtain ⟨m, view, em⟩ := ((s.withAbsent x).sourceMoved_eq x d.state).2 moved
    obtain ⟨-, -, -, -, changed, lost, -⟩ := m.evalSelection_leaves false
    have gone (y : Source) : (s.withAbsent x).eligible y = false := by
      by_cases hy : y = x
      · rw [hy]; exact away
      · exact State.not_eligible (by rw [others y hy]; exact ho y hy)
    have now : (s.withAbsent x).selectionNow false = none := by
      cases hn : (s.withAbsent x).selectionNow false with
      | none => rfl
      | some y => exact absurd (State.selectionNow_eligible _ _ y hn) (by rw [gone]; decide)
    have nowm := (view.selectionNow false).trans now
    obtain ⟨mrrx, mdsc, mcfg⟩ := view
    rw [nowm, mrrx, sel, hs, mdsc, dsc, mcfg, cfg] at lost
    rw [nowm, mrrx, sel, hs] at changed
    obtain ⟨held, c⟩ := lost ⟨rfl, (fun h => nomatch h), hst⟩
    obtain ⟨view', -⟩ := changed (fun h => nomatch h)
    have et : t = m.evalSelection false := e.trans em
    exact ⟨(selection moved).trans now, by rw [et]; exact held, by rw [et]; exact view', u, f, by rw [et]; exact c⟩

/-! ### The revert timer's expiry (R36, R37) -/

theorem State.settleRevert_none {m : State}
    (h : m.rrx.selection ≠ some (otherSource m.cfg.prefSource) ∨ m.eligible m.cfg.prefSource = false) :
    m.settleRevert.rrx.revert = none := by
  have waiting : (decide (m.rrx.selection = some (otherSource m.cfg.prefSource)) && m.eligible m.cfg.prefSource) = false := by
    rcases h with h | h
    · rw [decide_eq_false h, Bool.false_and]
    · rw [h, Bool.and_false]
  rw [State.settleRevert, waiting]
  rfl

/-- The selection once the revert timer has expired (R36). -/
theorem State.selectionNow_expired (s : State) :
    let p := s.cfg.prefSource
    (s.eligible p = true → s.selectionNow true = some p)
      ∧ (s.eligible p = false → s.eligible (otherSource p) = true → s.selectionNow true = some (otherSource p))
      ∧ (s.eligible p = false → s.eligible (otherSource p) = false → s.selectionNow true = none) := by
  intro p
  have e : s.selectionNow true = if s.eligible p then some p else if s.eligible (otherSource p) then some (otherSource p) else none :=
    if_neg fun h => by obtain ⟨-, -, -, h⟩ := h; cases h
  rw [e]
  refine ⟨fun h => if_pos h, fun h h' => ?_, fun h h' => ?_⟩
  · rw [h, if_neg Bool.false_ne_true, if_pos h']
  · rw [h, h', if_neg Bool.false_ne_true, if_neg Bool.false_ne_true]

/-- An evaluation without the timer's case leaves no timer running (R37). -/
theorem State.evalSelection_revert (s : State) : (s.evalSelection true).rrx.revert = none := by
  have stopped (m : State) (hc : m.cfg = s.cfg) (he : ∀ x, m.eligible x = s.eligible x)
      (hs : m.rrx.selection = s.selectionNow true) : m.settleRevert.rrx.revert = none := by
    refine State.settleRevert_none ?_
    obtain ⟨pref, other, -⟩ := s.selectionNow_expired
    rw [hc, he, hs]
    cases hp : s.eligible s.cfg.prefSource with
    | true =>
      rw [pref hp]
      left
      cases s.cfg.prefSource <;> decide
    | false => exact .inr rfl
  by_cases same : s.selectionNow true = s.rrx.selection
  · rw [State.evalSelection_same same]
    exact stopped s rfl (fun _ => rfl) same.symm
  · rw [State.evalSelection]
    dsimp only
    rw [if_neg same]
    obtain ⟨told, -⟩ := State.discSelection_leaves (((s.setRrx { s.rrx with selection := s.selectionNow true }).settleRevert).placeRef
      ((s.selectionNow true).getD (s.rrx.selection.getD .a)) (s.rrx.src ((s.selectionNow true).getD (s.rrx.selection.getD .a))).state
      (s.rrx.src ((s.selectionNow true).getD (s.rrx.selection.getD .a))).state (s.selectionNow true)) (s.selectionNow true)
    rw [told, (Receiver.toldOf_rest _ _ _).2.1, State.placeRef, State.raise_rrx, State.place_rrx]
    exact stopped (s.setRrx { s.rrx with selection := s.selectionNow true }) rfl (fun x => by cases x <;> rfl) rfl

end Sys2Proof.Machine

/-! PROOFS. O49: a missing sample, the 8-second instant and the revert timer's expiry, each awaited at its instant. -/

namespace Sys2Proof.Machine

variable {s t m : State} {x y : Source}

theorem Receiver.setSrc_selection (r : Receiver) (x : Source) (d : SourceData) : (r.setSrc x d).selection = r.selection := by
  cases x <;> rfl

theorem Receiver.countMissing_selection (r : Receiver) (x : Source) : (r.countMissing x).selection = r.selection := by
  cases x <;> rfl

/-- A missing-sample instant taken (R29 to R33). -/
theorem State.takeMissing_leaves (s : State) (x : Source) {at' : Nat} (h : (s.rrx.src x).nextMissing = some at') :
    let judged := s.dsc.state = .locked ∨ s.dsc.state = .holdover
    let d := s.rrx.src x
    let t := s.takeMissing x
    (t.rrx.src x).nextMissing = (if at' + 1000000 < d.absentAt.getD 0 then some (at' + 1000000) else none)
      ∧ (x = .a → t.rrx.countA = { s.rrx.countA with missing := min (s.rrx.countA.missing + 1) 65535 })
      ∧ (x = .b → t.rrx.countB = { s.rrx.countB with missing := min (s.rrx.countB.missing + 1) 65535 })
      ∧ (t.rrx.src x).state = (if d.state = .usable ∧ judged ∧ s.cfg.faultCount ≤ d.out then .faulted else d.state)
      ∧ (d.state = .qualifying → (t.rrx.src x).qualify = 0)
      ∧ (d.state = .usable → judged → d.out < s.cfg.faultCount → (t.rrx.src x).out = d.out + 1)
      ∧ (d.state = .faulted → judged → (t.rrx.src x).release = 0)
      ∧ (t.rrx.src x).lastMark = d.lastMark ∧ (t.rrx.src x).absentAt = d.absentAt
      ∧ (t.rrx.src x).injection = d.injection ∧ (t.rrx.src x).lastSample = d.lastSample
      ∧ (d.state = .usable → d.out < s.cfg.faultCount → s.rrx.selection = some x →
          (s.dsc.state = .acquire ∨ s.dsc.state = .locked) →
          t.dsc = { s.dsc with lock := 0, sum := 0, count := 0, prev := none }) := by
  intro judged d t
  generalize hr : (s.rrx.countMissing x).setSrc x { d with nextMissing := d.afterMissing at' } = r
  have e : t = (s.setRrx r).takeRefEvent x .missing := by
    simp only [t, State.takeMissing, h, ← hr]
    rfl
  have src : r.src x = { d with nextMissing := d.afterMissing at' } := by rw [← hr, Receiver.src_setSrc]
  have sup : s.dsc.state.supervised = true ↔ judged := DiscState.supervised_iff _
  obtain ⟨⟨o, p, tsrc⟩, countA, countB, still⟩ := (s.setRrx r).takeRefEvent_missing x
  obtain ⟨state, qualify, out, release, st, q, o', p', whole⟩ := (r.src x).take_missing s.cfg s.dsc.state.supervised s.dsc.u
  have dtake : ((s.setRrx r).rrx.src x).take (s.setRrx r).cfg (s.setRrx r).dsc.state.supervised (s.setRrx r).dsc.u .missing
      = (r.src x).take s.cfg s.dsc.state.supervised s.dsc.u .missing := rfl
  rw [dtake, ← e] at tsrc still
  rw [← e] at countA countB
  generalize (r.src x).take s.cfg s.dsc.state.supervised s.dsc.u .missing = d' at *
  rw [src] at state qualify out release whole
  replace state : d'.state = if d.state = .usable ∧ judged ∧ s.cfg.faultCount ≤ d.out then .faulted else d.state :=
    state.trans (if_congr (and_congr_right fun _ => and_congr_left fun _ => sup) rfl rfl)
  rw [sup] at out release
  simp only [State.setRrx_rrx, State.setRrx_dsc, src] at still
  have same (hs : d'.state = d.state) : t.rrx.src x = d' := by
    rw [(still hs).1, Receiver.src_setSrc]
  have keeps (hu : d.state = .usable) (few : d.out < s.cfg.faultCount) : d'.state = d.state := by
    rw [state]
    exact if_neg fun h => absurd h.2.2 (Nat.not_le.2 few)
  refine ⟨?_, fun hx => ?_, fun hx => ?_, ?_, fun h => ?_, fun hu hj few => ?_, fun hf hj => ?_, ?_, ?_, ?_, ?_, fun hu few hs hst => ?_⟩
  · rw [tsrc, whole]; rfl
  · subst hx
    exact countA.trans (by rw [State.setRrx_rrx, ← hr]; rfl)
  · subst hx
    exact countB.trans (by rw [State.setRrx_rrx, ← hr]; rfl)
  · rw [tsrc]; exact state
  · rw [tsrc]; exact qualify h
  · rw [same (keeps hu few)]; exact out hu hj few
  · have stays : d'.state = d.state := by rw [state]; exact if_neg fun h => by rw [hf] at h; cases h.1
    rw [same stays]
    exact release hf hj
  · rw [tsrc, whole]
  · rw [tsrc, whole]
  · rw [tsrc, whole]
  · rw [tsrc, whole]
  · have sel : r.selection = s.rrx.selection := by
      rw [← hr, Receiver.setSrc_selection, Receiver.countMissing_selection]
    exact (still (keeps hu few)).2 (sel.trans hs) hst

/-- The revert timer's expiry (R36, R37). -/
theorem State.revertExpires_leaves (s : State) :
    let eligible (y : Source) := (s.rrx.src y).state = .usable ∧ ¬(y = .b ∧ s.dsc.state = .free)
    let p := s.cfg.prefSource
    let o := match p with | .a => Source.b | .b => Source.a
    let t := s.revertExpires
    t.rrx.revert = none
      ∧ ((eligible p → t.rrx.selection = some p) ∧ (¬ eligible p → eligible o → t.rrx.selection = some o)
          ∧ (¬ eligible p → ¬ eligible o → t.rrx.selection = none))
      ∧ (t.rrx.selection ≠ s.rrx.selection → t.dsc.view = t.rrx.selection ∧ t.ntc.flags.getLsbD 2 = true) := by
  intro eligible p o t
  obtain ⟨⟨rev, rrx⟩, -, -, -, changed, -⟩ := (s.setRrx { s.rrx with revert := none }).evalSelection_leaves true
  have sel : t.rrx.selection = (s.setRrx { s.rrx with revert := none }).selectionNow true :=
    (congrArg Receiver.selection rrx).trans (Receiver.toldOf_rest _ _ _).1
  obtain ⟨pref, other, neither⟩ := (s.setRrx { s.rrx with revert := none }).selectionNow_expired
  have meets (y : Source) : (s.setRrx { s.rrx with revert := none }).eligible y = true ↔ eligible y := by
    rw [State.eligible, Bool.and_eq_true, decide_eq_true_iff, Bool.not_eq_true', Bool.and_eq_false_iff, decide_eq_false_iff_not,
      decide_eq_false_iff_not, ← not_and_or]
    cases y <;> exact Iff.rfl
  have fails (y : Source) (h : ¬ eligible y) : (s.setRrx { s.rrx with revert := none }).eligible y = false :=
    Bool.eq_false_iff.2 (mt (meets y).1 h)
  have otherIs : otherSource p = o := by
    simp only [o]
    cases p <;> rfl
  change (s.setRrx { s.rrx with revert := none }).eligible p = true → _ at pref
  rw [← sel] at pref other neither changed
  refine ⟨State.evalSelection_revert _, ⟨fun h => pref ((meets p).2 h), fun h h' => ?_, fun h h' => ?_⟩, changed⟩
  · rw [← otherIs] at h' ⊢
    exact other (fails p h) ((meets _).2 h')
  · rw [← otherIs] at h'
    exact neither (fails p h) (fails _ h')

/-- Settles O49: the instants awaited, unless a candidate in hand defers them. -/
theorem sourceInstantsAreTaken : Obligations.SourceInstantsAreTaken := by
  intro s judged changed
  have moved (at' : Nat) : Unchanged [.clock] s (s.setTsc (s.tsc.reach at')) := reach_unchanged (by decide) s _
  have tsc {m t : State} (h : Unchanged Part.supervising m t) : t.tsc = m.tsc :=
    h.tsc_eq (by decide) (by decide) (by decide) (by decide)
  have all {at' : Nat} {t : State} (h : Unchanged Part.supervising (s.setTsc (s.tsc.reach at')) t) : Unchanged changed s t :=
    ((moved at').mono (by decide)).trans (h.mono (by decide))
  refine ⟨fun x at' hx hq => ⟨fun h => ?_, fun h => ?_⟩, fun x at' hx hq => ⟨fun h => ?_, fun h => ?_⟩,
    fun timer ht hq => ?_, fun x hx => ?_, fun x hx => ?_, fun hr => ?_⟩
  · obtain ⟨waits, -⟩ := await_undeferred (x := x) (ev := .missing x) (by rw [← hx]; rfl) hq
    exact congrArg Host.Outcome.next ((congrArg (s.await (.missing x)) hx).trans (waits h))
  · obtain ⟨-, happens⟩ := await_undeferred (x := x) (ev := .missing x) (by rw [← hx]; rfl) hq
    have kept := takeMissing_supervising (s.setTsc (s.tsc.reach at')) x
    obtain ⟨h1, h2, h3, h4, h5, h6, h7, h8, h9, h10, h11, h12⟩ := (s.setTsc (s.tsc.reach at')).takeMissing_leaves x hx
    exact ⟨_, congrArg Host.Outcome.next ((congrArg (s.await (.missing x)) hx).trans (happens h)), tsc kept, h1, h2, h3, h4, h5, h6, h7,
      h8, h9, h10, h11, h12, all kept⟩
  · obtain ⟨waits, -⟩ := await_undeferred (x := x) (ev := .absent x) (by rw [← hx]; rfl) hq
    exact congrArg Host.Outcome.next ((congrArg (s.await (.absent x)) hx).trans (waits h))
  · obtain ⟨-, happens⟩ := await_undeferred (x := x) (ev := .absent x) (by rw [← hx]; rfl) hq
    have kept := takeAbsent_supervising (s.setTsc (s.tsc.reach at')) x
    obtain ⟨h1, h2, h3, h4⟩ := (s.setTsc (s.tsc.reach at')).takeAbsent_leaves x
    exact ⟨_, congrArg Host.Outcome.next ((congrArg (s.await (.absent x)) hx).trans (happens h)), tsc kept, h1, h2, h3, h4, all kept⟩
  · have instant : TimedEvent.instant s .revert = some timer.expiry := by
      show s.rrx.revert.map (·.expiry) = _
      rw [ht]; rfl
    have kept : Unchanged Part.supervising (s.setTsc (s.tsc.reach timer.expiry)) (s.setTsc (s.tsc.reach timer.expiry)).revertExpires :=
      revertExpires_unchanged _ (by decide) (by decide) (by decide)
    obtain ⟨h1, h2, h3⟩ := (s.setTsc (s.tsc.reach timer.expiry)).revertExpires_leaves
    exact ⟨_, congrArg Host.Outcome.next (await_instant (ev := .revert) instant hq), tsc kept, h1, h2, h3, all kept⟩
  · exact congrArg Host.Outcome.next (congrArg (s.await (.missing x)) hx)
  · exact congrArg Host.Outcome.next (congrArg (s.await (.absent x)) hx)
  · have instant : TimedEvent.instant s .revert = none := by
      show s.rrx.revert.map (·.expiry) = _
      rw [hr]; rfl
    exact congrArg Host.Outcome.next (await_of_none (ev := .revert) instant)

end Sys2Proof.Machine

/-! PROOFS. A sample of the selected source processed by the discipline (R43 to R53), and the step it may order (R8, R47). -/

namespace Sys2Proof.Machine

variable {s t m : State} {src : Source} {e : Int} {cls : Nat} {acq first : Bool}

/-! ### Rounding -/

theorem roundDiv_eq_nearest (a : Int) (k : Nat) : roundDiv a k = nearest a k := by
  rw [roundDiv, nearest]
  by_cases h : 0 ≤ a
  · obtain ⟨n, rfl⟩ := Int.eq_ofNat_of_zero_le h
    rw [if_pos h, if_pos h, Int.natAbs_natCast, Int.natCast_ediv, Int.natCast_add, Int.natCast_mul, Int.natCast_mul]
    rfl
  · obtain ⟨n, hn⟩ := Int.eq_ofNat_of_zero_le (show 0 ≤ -a by omega)
    rw [if_neg h, if_neg h, hn, ← Int.natAbs_neg, hn, Int.natAbs_natCast, Int.natCast_ediv, Int.natCast_add, Int.natCast_mul,
      Int.natCast_mul]
    rfl

theorem roundDiv_zero (k : Nat) (h : 0 < k) : roundDiv 0 k = 0 := by
  have zero : (2 * (0 : Int).natAbs + k) / (2 * k) = 0 := Nat.div_eq_of_lt (by
    show 2 * 0 + k < 2 * k
    omega)
  rw [roundDiv, if_pos (Int.le_refl 0), zero]
  rfl

/-! ### The frequency window (R43, R44) -/

/-- The frequency sample that a sample forms with the previous one of its source (R43). -/
def Discipline.freqOf (d : Discipline) (src : Source) (e : Int) : Option Int :=
  match d.prev with
  | some p => if p.source = src then some (max (-(2 ^ 63 - 1)) (min (e - p.e - p.c) (2 ^ 63 - 1))) else none
  | none => none

/-- The window and F after a frequency sample, if one was formed (R44). -/
def Discipline.windowed (d : Discipline) (x : Option Int) (window : Nat) : Discipline :=
  { d with
    f := if x.isSome = true ∧ 2 ^ window ≤ d.count + 1 then
        max (-200000) (min (nearest (d.sum + x.getD 0) (2 ^ window : Nat)) 200000) else d.f
    sum := if x.isSome = true ∧ 2 ^ window ≤ d.count + 1 then 0 else d.sum + x.getD 0
    count := if x.isSome = true ∧ 2 ^ window ≤ d.count + 1 then 0 else d.count + if x.isSome then 1 else 0 }

theorem Discipline.windowed_none (d : Discipline) (window : Nat) : d.windowed none window = d := by
  have h : ¬ ((none : Option Int).isSome = true ∧ 2 ^ window ≤ d.count + 1) := fun h => Bool.false_ne_true h.1
  rw [Discipline.windowed, if_neg h, if_neg h, if_neg h]
  exact congrArg (fun v => { d with sum := v }) (Int.add_zero _)

theorem Discipline.windowed_some (d : Discipline) (x : Int) (window : Nat) : d.windowed (some x) window = d.addFreq x window := by
  have range (v : Int) : max (-200000) (min v 200000) = holdAt v maxF := (holdAt_eq v maxF).symm
  rw [Discipline.windowed, Discipline.addFreq]
  by_cases full : 2 ^ window ≤ d.count + 1
  · have h : (some x).isSome = true ∧ 2 ^ window ≤ d.count + 1 := ⟨rfl, full⟩
    rw [if_pos full, if_pos h, if_pos h, if_pos h, range, ← roundDiv_eq_nearest]
    rfl
  · have h : ¬ ((some x).isSome = true ∧ 2 ^ window ≤ d.count + 1) := fun h => full h.2
    rw [if_neg full, if_neg h, if_neg h, if_neg h]
    rfl

/-- A sample forms its frequency sample and adds it to the window (R43, R44). -/
theorem Discipline.freqSample_eq (d : Discipline) (src : Source) (e : Int) (window : Nat) :
    d.freqSample src e window = d.windowed (d.freqOf src e) window := by
  rw [Discipline.freqSample, Discipline.freqOf]
  cases d.prev with
  | none => exact (d.windowed_none window).symm
  | some p =>
    by_cases hs : p.source = src
    · dsimp only
      rw [if_pos hs, if_pos hs, Discipline.windowed_some, holdAt_max63]
    · dsimp only
      rw [if_neg hs, if_neg hs, Discipline.windowed_none]

/-! ### A step of station time (R8) -/

/-- A step moves station time and the epoch, and may fire; it touches neither the discipline nor the receiver (R8). -/
theorem State.stepTo_keeps (s : State) (ns : Int) (reason : StepReason) (leaving : Bool) :
    let t := s.stepTo ns reason leaving
    t.dsc = s.dsc ∧ t.rrx = s.rrx ∧ t.cfg = s.cfg ∧ t.tsc.s = (s.tsc.stepTo ns).s ∧ t.tsc.n = (s.tsc.stepTo ns).n
      ∧ t.tsc.epoch = (s.tsc.epoch + 1) % 256 ∧ t.tsc.e = s.tsc.e ∧ t.tsc.leap = s.tsc.leap := by
  intro t
  obtain ⟨tsc, dsc, rrx, cfg, -⟩ := s.stepped_leaves ns reason
  have e' : (s.tsc.stepTo ns).e = s.tsc.e := by simp only [TimeScale.stepTo]
  have leap : (s.tsc.stepTo ns).leap = s.tsc.leap := by simp only [TimeScale.stepTo]
  have epoch : (s.tsc.stepTo ns).epoch = (s.tsc.epoch + 1) % 256 := by simp only [TimeScale.stepTo]
  have kept : Unchanged Part.firing (s.stepped ns reason) t := by
    simp only [t, State.stepTo_eq]
    split
    · exact trackLeave_unchanged _ (by decide)
    · exact trackChange_unchanged _ (List.Subset.refl _) _ _
  generalize s.stepped ns reason = p at *
  obtain ⟨hs, hn, he, -⟩ := kept .clock (by decide)
  obtain ⟨hl, -⟩ := kept .leap (by decide)
  have hepoch : t.tsc.epoch = p.tsc.epoch := kept .epoch (by decide)
  rw [tsc] at hs hn he hl hepoch
  exact ⟨(kept .dsc (by decide)).trans dsc, (kept .rrx (by decide)).trans rrx, (kept .cfg (by decide)).trans cfg, hs, hn,
    hepoch.trans epoch, he.trans e', hl.trans leap⟩

/-- Station time after a step, in ns (R8). -/
theorem TimeScale.stepTo_total (t : TimeScale) (ns : Int) :
    ((t.stepTo ns).s * 1000000000 + (t.stepTo ns).n : Nat) = max 0 (min ns (2 ^ 40 * 1000000000 - 1))
      ∧ (t.stepTo ns).n < 1000000000 := by
  have range : clampInt ns 0 maxStationNs = max 0 (min ns (2 ^ 40 * 1000000000 - 1)) :=
    clampInt_eq ns (by decide)
  have whole (v : Nat) : v / 1000000000 * 1000000000 + v % 1000000000 = v := Nat.div_add_mod' v _
  have fields : (t.stepTo ns).s = (clampInt ns 0 maxStationNs).toNat / 1000000000
      ∧ (t.stepTo ns).n = (clampInt ns 0 maxStationNs).toNat % 1000000000 := by
    simp only [TimeScale.stepTo, nsPerS, and_self]
  rw [fields.1, fields.2, whole, range]
  refine ⟨Int.toNat_of_nonneg (le_max_left _ _), Nat.mod_lt _ (by decide)⟩

/-! ### A sample processed (R51) -/

/-- The discipline after steps 1, 2 and 4 to 7 of R51, with the class still to be evaluated. -/
def Discipline.processed (d : Discipline) (cfg : Settings) (src : Source) (e : Int) (cls : Nat) (acq stepped : Bool) : Discipline :=
  let d1 := ({ d with srcClass := if src = .a then cls else d.srcClass } : Discipline)
  let d2 := d1.windowed (d.freqOf src e) cfg.freqWindow
  (if stepped then { d2.restart with oneShot := false } else d2).settle cfg src e acq stepped

/-- A sample steps station time (R47, R52). -/
def State.stepsAt (s : State) (e : Int) (acq first : Bool) : Bool := acq && s.stepPermitted e first

/-- The reason of a step at a sample (R47, R52). -/
def State.stepReason (s : State) (first : Bool) : StepReason := if s.dsc.oneShot && !first then .forcedAcquire else .acquire

/-- The state after step 3 of R51, but for the restart of the window. -/
def State.moved (s : State) (e : Int) (acq first : Bool) : State :=
  if s.stepsAt e acq first then s.stepTo (s.tsc.totalNs - e) (s.stepReason first) first
  else if first then s.trackLeave else s

theorem State.moved_keeps (s : State) (e : Int) (acq first : Bool) :
    (s.moved e acq first).dsc = s.dsc ∧ (s.moved e acq first).rrx = s.rrx ∧ (s.moved e acq first).cfg = s.cfg := by
  rw [State.moved]
  split
  · obtain ⟨dsc, rrx, cfg, -⟩ := s.stepTo_keeps (s.tsc.totalNs - e) (s.stepReason first) first
    exact ⟨dsc, rrx, cfg⟩
  · split <;> exact ⟨rfl, rfl, rfl⟩

/-- The window restarted and ONE_SHOT used up by a step (R8, R47). -/
def State.restartedIf (s : State) (stepped : Bool) : State :=
  if stepped then s.setDsc { s.dsc.restart with oneShot := false } else s

/-- A change of state reported (R56). -/
def State.reportedFrom (s : State) (old : DiscState) : State := if s.dsc.state = old then s else s.reportDisc old

theorem State.processSample_eq (s : State) (src : Source) (e : Int) (cls : Nat) (acq first : Bool) :
    let m := s.setDsc (Discipline.freqSample { s.dsc with srcClass := if src = .a then cls else s.dsc.srcClass } src e
      s.cfg.freqWindow)
    let q := (m.moved e acq first).restartedIf (m.stepsAt e acq first)
    s.processSample src e cls acq first =
      (q.setDsc (q.dsc.settle q.cfg src e acq (m.stepsAt e acq first))).evalClass.reportedFrom s.dsc.state := by
  intro m q
  have step : (if m.stepsAt e acq first then m.orderStep e first else if first then m.trackLeave else m) = q := by
    simp only [q, State.restartedIf, State.moved]
    split <;> rfl
  exact congrArg (fun v : State => (v.setDsc (v.dsc.settle v.cfg src e acq (m.stepsAt e acq first))).evalClass.reportedFrom
    s.dsc.state) step

/-- A report leaves a notice, and the receiver told (R56). -/
theorem State.reportedFrom_leaves (s : State) (old : DiscState) :
    (s.reportedFrom old).dsc = s.dsc ∧ (s.reportedFrom old).tsc = s.tsc ∧ (s.reportedFrom old).cfg = s.cfg
      ∧ (s.reportedFrom old).rrx = s.rrx.toldOf old s.dsc.state ∧ Aside 1 s (s.reportedFrom old)
      ∧ Unchanged (.rrx :: .dsc :: Part.recording) s (s.reportedFrom old) ∧ (s.dsc.state ≠ old → (s.reportedFrom old).ntc.flags.getLsbD 3 = true) := by
  rw [State.reportedFrom]
  split
  next h => exact ⟨rfl, rfl, rfl, by rw [h, Receiver.toldOf_self], (Aside.refl s).mono (by decide), Unchanged.refl _ _,
      fun h' => absurd h h'⟩
  next h =>
    obtain ⟨tsc, dsc, rrx, -, -, cfg, flag⟩ := s.reportDisc_leaves old
    exact ⟨dsc, tsc, cfg, by rw [rrx, Receiver.toldOf_of_ne _ h], .reportDisc s old,
      reportDisc_unchanged s (by decide) (by decide) old, fun _ => flag⟩

/-- What a processed sample leaves, in the terms of the state after the step (R51, R56). -/
theorem State.processSample_leaves (s : State) (src : Source) (e : Int) (cls : Nat) (acq first : Bool) :
    let d := s.dsc.processed s.cfg src e cls acq (s.stepsAt e acq first)
    let t := s.processSample src e cls acq first
    ∃ d2 : Discipline, (s.setDsc d2).stepReason first = s.stepReason first
      ∧ (s.setDsc d2).stepsAt e acq first = s.stepsAt e acq first
      ∧ t.dsc = { d with effClass := d.classNow } ∧ t.tsc = ((s.setDsc d2).moved e acq first).tsc
      ∧ t.rrx = s.rrx.toldOf s.dsc.state t.dsc.state ∧ t.cfg = s.cfg
      ∧ Aside 1 ((s.setDsc d2).moved e acq first) t
      ∧ Unchanged (.rrx :: .dsc :: Part.recording) ((s.setDsc d2).moved e acq first) t ∧ (t.dsc.state ≠ s.dsc.state → t.ntc.flags.getLsbD 3 = true) := by
  intro d t
  have e' : t = _ := s.processSample_eq src e cls acq first
  have window := Discipline.freqSample_eq { s.dsc with srcClass := if src = .a then cls else s.dsc.srcClass } src e s.cfg.freqWindow
  generalize Discipline.freqSample { s.dsc with srcClass := if src = .a then cls else s.dsc.srcClass } src e
    s.cfg.freqWindow = d2 at window e'
  have oneShot : d2.oneShot = s.dsc.oneShot := by rw [window]; rfl
  have steps : (s.setDsc d2).stepsAt e acq first = s.stepsAt e acq first := by
    rw [State.stepsAt, State.stepsAt, State.stepPermitted, State.stepPermitted, State.setDsc_dsc, State.setDsc_cfg, oneShot]
  have reason : (s.setDsc d2).stepReason first = s.stepReason first := by
    rw [State.stepReason, State.stepReason, State.setDsc_dsc, oneShot]
  obtain ⟨dsc, rrx, cfg⟩ := (s.setDsc d2).moved_keeps e acq first
  change _ = d2 at dsc
  change _ = s.rrx at rrx
  change _ = s.cfg at cfg
  have whole : d = (if s.stepsAt e acq first then { d2.restart with oneShot := false } else d2).settle s.cfg src e acq
      (s.stepsAt e acq first) := by
    rw [window]; rfl
  refine ⟨d2, reason, steps, ?_⟩
  rw [steps] at e'
  generalize s.stepsAt e acq first = stepped at *
  generalize (s.setDsc d2).moved e acq first = q at *
  have same : (q.restartedIf stepped).tsc = q.tsc ∧ (q.restartedIf stepped).rrx = s.rrx ∧ (q.restartedIf stepped).cfg = s.cfg
      ∧ Aside 0 q (q.restartedIf stepped) ∧ Unchanged [.dsc] q (q.restartedIf stepped)
      ∧ (q.restartedIf stepped).dsc.settle (q.restartedIf stepped).cfg src e acq stepped = d := by
    rw [whole, State.restartedIf]
    cases stepped with
    | true => exact ⟨rfl, rrx, cfg, .setDsc q _, setDsc_unchanged q (by decide) _, by rw [← dsc, ← cfg]; rfl⟩
    | false => exact ⟨rfl, rrx, cfg, .refl q, Unchanged.refl _ _, by rw [← dsc, ← cfg]; rfl⟩
  obtain ⟨tscr, rrxr, cfgr, quiet, kept, settled⟩ := same
  rw [settled] at e'
  generalize q.restartedIf stepped = r at *
  obtain ⟨rdsc, rtsc, rcfg, rrrx, rquiet, rkept, flag⟩ := ((r.setDsc d).evalClass).reportedFrom_leaves s.dsc.state
  rw [← e'] at rdsc rtsc rcfg rrrx rquiet rkept flag
  rw [← rdsc] at flag rrrx
  refine ⟨by rw [rdsc, State.evalClass_dsc]; rfl, ?_, ?_, ?_, ((quiet.trans (.setDsc r d)).trans (.evalClass _)).trans rquiet,
    (((kept.mono (by decide)).trans (setDsc_unchanged r (by decide) d)).trans (evalClass_unchanged _ (by decide) (by decide))).trans rkept,
    flag⟩
  · rw [rtsc, State.evalClass_tsc, State.setDsc_tsc, tscr]
  · rw [rrrx, State.evalClass_rrx, State.setDsc_rrx, rrxr]
  · rw [rcfg, State.evalClass_cfg, State.setDsc_cfg, cfgr]

/-! ### What a sample leaves, as one statement (R43 to R53) -/

/-- c by the steering formula (R46). -/
theorem steer_eq (f e : Int) (gain limit : Nat) :
    steer f e gain limit = max (-(limit : Int)) (min (-f - nearest e (2 ^ gain)) limit) := by
  rw [steer, clampInt_eq _ (by omega), roundDiv_eq_nearest]

theorem nearest_zero {k : Nat} (h : 0 < k) : nearest 0 k = 0 := by
  rw [← roundDiv_eq_nearest, roundDiv_zero k h]

/-- The class of a discipline out of FREE (R50). -/
theorem Discipline.classNow_eq {d : Discipline} (h : d.state ≠ .free) : d.classNow =
    (let own := if d.u ≤ 1000 then 0 else if d.u ≤ 10000 then 1 else if d.u ≤ 100000 then 2
        else if d.u ≤ 1000000 then 3 else if d.u ≤ 10000000 then 4 else if d.u ≤ 100000000 then 5 else 6
      if d.view = some .a then max own d.srcClass else own) := by
  rw [Discipline.classNow, if_neg h]
  split
  · rfl
  · exact Nat.max_zero _

/-- The fields that a processed sample sets whether or not it steps (R51). -/
theorem Discipline.processed_always (d : Discipline) (cfg : Settings) (src : Source) (e : Int) (cls : Nat) (acq stepped : Bool) :
    let x := d.freqOf src e
    let ends := x.isSome = true ∧ 2 ^ cfg.freqWindow ≤ d.count + 1
    let p := d.processed cfg src e cls acq stepped
    p.view = d.view ∧ p.srcClass = (if src = .a then cls else d.srcClass) ∧ p.state ≠ .free
      ∧ p.f = (if ends then max (-200000) (min (nearest (d.sum + x.getD 0) (2 ^ cfg.freqWindow : Nat)) 200000) else d.f)
      ∧ p.c = steer p.f (if stepped then 0 else e) cfg.phaseGain cfg.slewLimit := by
  intro x ends p
  have out : ∀ waits : Bool, (if waits then DiscState.acquire else .locked) ≠ .free := by decide
  cases stepped with
  | true => exact ⟨rfl, rfl, out _, rfl, rfl⟩
  | false => exact ⟨rfl, rfl, out _, rfl, rfl⟩

/-- A sample that steps restarts the window (R8, R45, R47). -/
theorem Discipline.processed_stepped (d : Discipline) (cfg : Settings) (src : Source) (e : Int) (cls : Nat) :
    let p := d.processed cfg src e cls true true
    p.state = .acquire ∧ p.u = 0 ∧ p.sum = 0 ∧ p.count = 0 ∧ p.prev = none ∧ p.lock = 0 ∧ p.oneShot = false :=
  ⟨rfl, rfl, rfl, rfl, rfl, rfl, rfl⟩

/-- A sample that does not step goes into the window and the lock count (R43, R51). -/
theorem Discipline.processed_steered (d : Discipline) (cfg : Settings) (src : Source) (e : Int) (cls : Nat) (acq : Bool) :
    let x := d.freqOf src e
    let ends := x.isSome = true ∧ 2 ^ cfg.freqWindow ≤ d.count + 1
    let lock := if cfg.lockLimit < e.natAbs then 0 else d.lock + 1
    let p := d.processed cfg src e cls acq false
    p.sum = (if ends then 0 else d.sum + x.getD 0) ∧ p.count = (if ends then 0 else d.count + if x.isSome then 1 else 0)
      ∧ p.u = min e.natAbs 4294967295 ∧ p.prev = some { source := src, e := e, c := p.c }
      ∧ (acq = false ∨ 8 ≤ lock → p.state = .locked ∧ p.lock = 0 ∧ p.oneShot = false)
      ∧ (acq = true → lock < 8 → p.state = .acquire ∧ p.lock = lock ∧ p.oneShot = d.oneShot) := by
  intro x ends lock p
  have whole : p.state = (if acq && !(acq && decide (8 ≤ lock)) then .acquire else .locked)
      ∧ p.lock = (if acq && !(acq && decide (8 ≤ lock)) then lock else 0)
      ∧ p.oneShot = (d.oneShot && acq && !(acq && decide (8 ≤ lock))) := by
    simp only [p, Discipline.processed, Discipline.settle, Discipline.windowed, lock, Bool.false_or, decide_eq_true_eq,
      Bool.false_eq_true, if_false, and_self]
  obtain ⟨state, locks, oneShot⟩ := whole
  rw [state, locks, oneShot]
  refine ⟨rfl, rfl, rfl, rfl, fun h => ?_, fun h few => ?_⟩
  · rcases h with h | h
    · rw [h]; simp
    · rw [decide_eq_true h]; simp
  · rw [h, decide_eq_false (Nat.not_le.2 few)]
    simp

theorem State.stepsAt_iff {p : State} : p.stepsAt e acq first = true ↔
    acq = true ∧ p.cfg.stepLimit ≤ e.natAbs ∧ (first = true ∨ p.dsc.oneShot = true ∨ p.cfg.stepAllow = true) := by
  rw [State.stepsAt, State.stepPermitted, Bool.and_eq_true, Bool.and_eq_true, decide_eq_true_iff, Bool.or_eq_true, Bool.or_eq_true,
    or_assoc]

/-- Station time after step 3 of R51. -/
theorem State.moved_clock (s : State) (e : Int) (acq first : Bool) :
    (s.stepsAt e acq first = true → (s.moved e acq first).tsc.s = (s.tsc.stepTo (s.tsc.totalNs - e)).s
        ∧ (s.moved e acq first).tsc.n = (s.tsc.stepTo (s.tsc.totalNs - e)).n
        ∧ (s.moved e acq first).tsc.epoch = (s.tsc.epoch + 1) % 256)
      ∧ (s.stepsAt e acq first = false → (s.moved e acq first).tsc.s = s.tsc.s ∧ (s.moved e acq first).tsc.n = s.tsc.n
        ∧ (s.moved e acq first).tsc.epoch = s.tsc.epoch)
      ∧ (s.moved e acq first).tsc.e = s.tsc.e ∧ (s.moved e acq first).tsc.leap = s.tsc.leap := by
  rw [State.moved]
  cases s.stepsAt e acq first with
  | true =>
    obtain ⟨-, -, -, hs, hn, epoch, he, leap⟩ := s.stepTo_keeps (s.tsc.totalNs - e) (s.stepReason first) first
    exact ⟨fun _ => ⟨hs, hn, epoch⟩, fun h => (nomatch h), he, leap⟩
  | false =>
    cases first <;> exact ⟨fun h => (nomatch h), fun _ => ⟨rfl, rfl, rfl⟩, rfl, rfl⟩

/-- A sample processed from a state that agrees with `s` but for what its discipline state sets first (R51 to R53). -/
theorem SampleLeaves.of_processed {p : State}
    (dsc : p.dsc = { s.dsc with lock := p.dsc.lock, prev := p.dsc.prev, view := p.dsc.view, effClass := p.dsc.effClass })
    (view : s.dsc.state ≠ .free → p.dsc.view = s.dsc.view)
    (sample : p.dsc.freqOf src e = if s.dsc.state = .free then none else s.dsc.freqOf src e)
    (hacq : acq = true ↔ s.dsc.state = .free ∨ s.dsc.state = .acquire ∨ s.dsc.state = .holdover ∧ s.cfg.stepLimit ≤ e.natAbs)
    (hfirst : first = true ↔ s.dsc.state = .free)
    (lock : acq = true → p.dsc.lock = if s.dsc.state = .free ∨ s.dsc.state = .holdover then 0 else s.dsc.lock)
    (cfg : p.cfg = s.cfg)
    (tsc : p.tsc.s = s.tsc.s ∧ p.tsc.n = s.tsc.n ∧ p.tsc.epoch = s.tsc.epoch ∧ p.tsc.e = s.tsc.e) :
    SampleLeaves src e cls s (p.processSample src e cls acq first) := by
  obtain ⟨d2, -, same, tdsc, ttsc, -, -, -, -, flag⟩ := p.processSample_leaves src e cls acq first
  obtain ⟨jumps, stays, te, -⟩ := (p.setDsc d2).moved_clock e acq first
  rw [same, ← ttsc, State.setDsc_tsc] at jumps stays
  rw [← ttsc, State.setDsc_tsc] at te
  obtain ⟨ps, pn, pepoch, pe⟩ := tsc
  have total : p.tsc.totalNs = ((s.tsc.s * 1000000000 + s.tsc.n : Nat) : Int) := by
    rw [TimeScale.totalNs, ps, pn]; rfl
  have stepped := p.tsc.stepTo_total (p.tsc.totalNs - e)
  rw [total] at jumps stepped
  have steps := State.stepsAt_iff (p := p) (e := e) (acq := acq) (first := first)
  obtain ⟨tview, tsrc, tstate, tf, tc⟩ := p.dsc.processed_always p.cfg src e cls acq (p.stepsAt e acq first)
  generalize p.processSample src e cls acq first = t at *
  generalize hd : p.dsc.processed p.cfg src e cls acq (p.stepsAt e acq first) = d at *
  have oneShot : p.dsc.oneShot = s.dsc.oneShot := by rw [dsc]
  have count : p.dsc.count = s.dsc.count := by rw [dsc]
  have sum : p.dsc.sum = s.dsc.sum := by rw [dsc]
  have f : p.dsc.f = s.dsc.f := by rw [dsc]
  have srcClass : p.dsc.srcClass = s.dsc.srcClass := by rw [dsc]
  have state : p.dsc.state = s.dsc.state := by rw [dsc]
  rw [hacq, hfirst, oneShot, cfg] at steps
  rw [sample, sum, count, f, cfg] at tf
  rw [cfg, steer_eq] at tc
  rw [srcClass] at tsrc
  rw [state] at flag
  have cls' := Discipline.classNow_eq tstate
  rw [tsrc] at cls'
  unfold SampleLeaves
  rw [tdsc]
  extract_lets sd bound x sum' ends f' limit acquiring steps' srcClass' old lock' own ns
  have tf' : d.f = f' := tf
  refine ⟨fun h => tview.trans (view h), tsrc, te.trans pe, fun h => flag (by rw [tdsc]; exact Ne.symm h), cls', fun h => ?_, fun h => ?_⟩
  · have no : p.stepsAt e acq first = false := Bool.eq_false_iff.2 (mt steps.1 h)
    obtain ⟨ts, tn, tepoch⟩ := stays no
    rw [no] at hd tc
    obtain ⟨h1, h2, h3, h4, h5, h6⟩ := p.dsc.processed_steered p.cfg src e cls acq
    rw [hd, cfg] at h1 h2 h5 h6
    rw [hd] at h3 h4
    rw [sample, sum, count] at h1
    rw [sample, count] at h2
    rw [if_neg (by decide), tf'] at tc
    refine ⟨ts.trans ps, tn.trans pn, tepoch.trans pepoch, tf', h1, h2, tc, h3, h4, fun h' => ?_, fun h' few => ?_⟩
    · cases ha : acq with
      | false => exact h5 (.inl ha)
      | true =>
        rw [lock ha] at h5
        exact h5 (.inr (h'.resolve_left (not_not_intro (hacq.1 ha))))
    · have ha := hacq.2 h'
      rw [lock ha, oneShot] at h6
      exact h6 ha few
  · have yes : p.stepsAt e acq first = true := steps.2 h
    obtain ⟨ts, tn, tepoch⟩ := jumps yes
    have acq' : acq = true := hacq.2 h.1
    rw [yes, acq'] at hd
    rw [yes] at tc
    obtain ⟨h1, h2, h3, h4, h5, h6, h7⟩ := p.dsc.processed_stepped p.cfg src e cls
    rw [hd] at h1 h2 h3 h4 h5 h6 h7
    refine ⟨?_, ?_, h1, tf', ?_, h2, h3, h4, h5, h6, h7⟩
    · rw [ts, tn]; exact stepped
    · rw [tepoch, pepoch]
    · rw [if_pos rfl, nearest_zero (Nat.two_pow_pos _), Int.sub_zero] at tc
      rw [← tf']; exact tc

end Sys2Proof.Machine

/-! PROOFS. A sample handed to the discipline outside FREE, and the pulse of REF-B that carries one (O48). -/

namespace Sys2Proof.Machine

variable {s t m : State} {src : Source} {e : Int} {epoch cls : Nat} {acq first : Bool}

/-! ### The records of a move (R13, R152) -/

theorem State.jumpReport_appends (s : State) (first last : Int) :
    Appends (s.shu.schedule.length + 10) [] s (s.jumpReport first last) := by
  obtain ⟨nothing, fires⟩ := s.jumpReport_cases first last
  rcases (s.reached first last).eq_nil_or_concat with h | ⟨ps, p, h⟩
  · rw [nothing h]
    exact (Appends.of_eq rfl).mono (Nat.zero_le _) (List.nil_subset _)
  · rw [List.concat_eq_append] at h
    have length := s.reached_length first last
    rw [h, List.length_append, List.length_singleton] at length
    obtain ⟨-, skipped, -⟩ := State.skip_leaves ps s
    rw [fires ps p h]
    exact (skipped.trans (State.fireEntry_leaves _ p.2 (p.1 / 1440)).2).mono (by omega) (List.nil_subset _)

theorem State.trackChange_appends (s : State) (held : Bool) (before : LocalMinute) :
    Appends (s.shu.schedule.length + 10) [] s (s.trackChange held before) := by
  have same {t : State} (h : t.evq = s.evq) : Appends (s.shu.schedule.length + 10) [] s t :=
    (Appends.of_eq h).mono (Nat.zero_le _) (List.nil_subset _)
  simp only [State.trackChange, State.trackMove]
  split_ifs
  · exact same rfl
  · split
    · exact same rfl
    · split_ifs
      · exact same rfl
      · exact same rfl
      · exact (State.jumpReport_appends (s.setTracker (some s.localMinute)) _ _).congr rfl rfl
      · exact same rfl

/-- A record placed among no more than room was made for (R98). -/
theorem Appends.found {k : Nat} {ds : List Detail} {d : Detail} (h : Appends k ds s t) (hd : d ∈ ds) (room : s.roomy)
    (few : k ≤ s.shu.schedule.length + 19) : ∃ r ∈ t.evq.records.drop s.evq.records.length, r.detail = d := by
  obtain ⟨len, n, hn, numbers⟩ := room
  obtain ⟨added, records, -, -, details⟩ := h n hn (by omega) (by omega)
  obtain ⟨r, hr, e⟩ := details d hd
  exact ⟨r, by rw [records, List.drop_left]; exact hr, e⟩

/-! ### A sample outside FREE (R51, R53) -/

/-- A sample outside FREE is processed, in HOLDOVER at STEP_LIMIT as the first of ACQUIRE (R51, R53). -/
theorem State.discSample_processed (hs : s.dsc.state ≠ .free) (he : epoch = s.tsc.epoch) (src : Source) (e : Int) (cls : Nat) :
    ∃ (lock : Nat) (acq : Bool), s.discSample src e epoch cls = (s.setDsc { s.dsc with lock := lock }).processSample src e cls acq false
      ∧ (acq = true ↔ s.dsc.state = .acquire ∨ s.dsc.state = .holdover ∧ s.cfg.stepLimit ≤ e.natAbs)
      ∧ (acq = true → lock = if s.dsc.state = .holdover then 0 else s.dsc.lock) := by
  have same : s.setDsc { s.dsc with lock := s.dsc.lock } = s := rfl
  rw [State.discSample, if_neg (not_not_intro he)]
  cases hst : s.dsc.state with
  | free => exact absurd hst hs
  | acquire => exact ⟨s.dsc.lock, true, by rw [same], by simp, fun _ => rfl⟩
  | locked => exact ⟨s.dsc.lock, false, by rw [same], by simp, fun h => (nomatch h)⟩
  | holdover =>
    dsimp only
    split
    next h => exact ⟨s.dsc.lock, false, by rw [same], by simp [h], fun h => (nomatch h)⟩
    next h => exact ⟨0, true, rfl, by simp [Nat.not_lt.1 h], fun _ => rfl⟩

/-- A sample that neither steps nor leaves FREE changes the discipline, and reports (R51, R56). -/
theorem State.processSample_steered (h : s.stepsAt e acq false = false) (src : Source) (cls : Nat) :
    Unchanged (.rrx :: .dsc :: Part.recording) s (s.processSample src e cls acq false) := by
  obtain ⟨d2, -, same, -, -, -, -, -, kept, -⟩ := s.processSample_leaves src e cls acq false
  rw [State.moved, same, h] at kept
  exact (setDsc_unchanged s (by decide) d2).trans kept

/-- The record of a step between two station times (R8 step 4). -/
theorem stepAmount_eq (old new : Int) :
    stepAmount old new = max (-(2 ^ 47 - 1)) (min ((new - old).tdiv 1000) (2 ^ 47 - 1)) := by
  rw [stepAmount, holdAt_eq]
  rfl

/-- A sample that steps moves the local minute, and leaves the record of the step (R8, R13). -/
theorem State.processSample_stepped {s₀ : State} (h : s.stepsAt e acq false = true) (src : Source) (cls : Nat)
    (before : Aside 0 s₀ s) (tracker : s.tsc.tracker = s₀.tsc.tracker) :
    let t := s.processSample src e cls acq false
    MoveLeaves false s.localCount t.localCount s₀ t
      ∧ Appends (s.shu.schedule.length + 12)
          [.step (max (-(2 ^ 47 - 1)) (min (((t.tsc.s * 1000000000 + t.tsc.n : Nat)
              - (s.tsc.s * 1000000000 + s.tsc.n : Nat) : Int).tdiv 1000) (2 ^ 47 - 1)))
            (if s.dsc.oneShot then .forcedAcquire else .acquire)] s t := by
  intro t
  obtain ⟨d2, reason, same, -, ttsc, -, tcfg, after, -, -⟩ := s.processSample_leaves src e cls acq false
  change t.tsc = _ at ttsc
  change t.cfg = _ at tcfg
  change Aside 1 _ t at after
  obtain ⟨jumps, -, -, leap⟩ := (s.setDsc d2).moved_clock e acq false
  rw [same, ← ttsc] at jumps
  rw [← ttsc] at leap
  obtain ⟨ts, tn, -⟩ := jumps h
  have which : (s.setDsc d2).stepReason false = if s.dsc.oneShot then .forcedAcquire else .acquire := by
    rw [reason, State.stepReason, Bool.not_false, Bool.and_true]
  clear_value t
  rw [State.moved, same, h, if_pos rfl, State.stepTo_eq, if_neg Bool.false_ne_true, which] at after ttsc
  rw [State.setDsc_tsc] at ts tn leap after ttsc
  generalize (if s.dsc.oneShot then StepReason.forcedAcquire else .acquire) = why at *
  obtain ⟨ptsc, -, -, pcfg, -, aside, record⟩ := (s.setDsc d2).stepped_leaves (s.tsc.totalNs - e) why
  have changes := ((s.setDsc d2).stepped (s.tsc.totalNs - e) why).trackChange_appends false (s.setDsc d2).localMinute
  have schedule : ((s.setDsc d2).stepped (s.tsc.totalNs - e) why).shu.schedule = s.shu.schedule := by
    obtain ⟨⟨c, shu, -⟩, -⟩ := aside
    rw [shu]; rfl
  rw [State.setDsc_tsc] at ptsc record
  have new : (((s.tsc.stepTo (s.tsc.totalNs - e)).s * 1000000000 + (s.tsc.stepTo (s.tsc.totalNs - e)).n : Nat) : Int)
      = (s.tsc.stepTo (s.tsc.totalNs - e)).totalNs := rfl
  have now : ((s.tsc.s * 1000000000 + s.tsc.n : Nat) : Int) = s.tsc.totalNs := rfl
  rw [ts, tn, new, now, ← stepAmount_eq]
  rw [schedule] at changes
  rw [State.localMinute_eq, show (s.setDsc d2).localCount = s.localCount from rfl] at after ttsc changes
  generalize hp : (s.setDsc d2).stepped (s.tsc.totalNs - e) why = p at *
  have moves := State.trackChange_leaves (held := false) (old := s.localCount) (t := t)
    (before.trans ((Aside.setDsc s d2).trans aside)) (by rw [ptsc, TimeScale.stepTo_tracker, tracker]) after
    (congrArg TimeScale.tracker ttsc) (congrArg TimeScale.e ttsc) (by decide)
  have count : p.localMinute.count = t.localCount := by
    rw [State.localMinute_eq, LocalMinute.count_ofCount]
    refine (localCount_congr (s := p) (t := t) (by rw [ts, ptsc]) ?_ (tcfg.trans pcfg.symm)).symm
    rw [leap, ptsc]
    simp only [TimeScale.stepTo]
  rw [count] at moves
  obtain ⟨-, -, -, records, -⟩ := after
  refine ⟨moves, ?_⟩
  have whole := (record.congr (s' := s) rfl rfl).trans (changes.trans records)
  exact whole.mono (by omega) (by intro d hd; exact List.mem_append_left _ hd)

/-- A sample outside FREE steps station time (R47, R53). -/
def State.sampleSteps (s : State) (e : Int) : Prop :=
  (s.dsc.state = .acquire ∨ s.dsc.state = .holdover ∧ s.cfg.stepLimit ≤ e.natAbs) ∧ s.cfg.stepLimit ≤ e.natAbs
    ∧ (s.dsc.oneShot = true ∨ s.cfg.stepAllow = true)

/-- What a sample outside FREE leaves: the discipline, and a step with its move and its record (R51, R53). -/
theorem State.discSample_leaves {s₀ : State} (hs : s.dsc.state ≠ .free) (he : epoch = s.tsc.epoch) (src : Source) (e : Int) (cls : Nat)
    (before : Aside 0 s₀ s) (tracker : s.tsc.tracker = s₀.tsc.tracker) :
    let t := s.discSample src e epoch cls
    SampleLeaves src e cls s t ∧ t.rrx = s.rrx.toldOf s.dsc.state t.dsc.state ∧ t.tsc.leap = s.tsc.leap
      ∧ (¬ s.sampleSteps e → Unchanged (.rrx :: .dsc :: Part.recording) s t)
      ∧ (s.sampleSteps e → MoveLeaves false s.localCount t.localCount s₀ t
          ∧ Appends (s.shu.schedule.length + 12)
              [.step (max (-(2 ^ 47 - 1)) (min (((t.tsc.s * 1000000000 + t.tsc.n : Nat)
                  - (s.tsc.s * 1000000000 + s.tsc.n : Nat) : Int).tdiv 1000) (2 ^ 47 - 1)))
                (if s.dsc.oneShot then .forcedAcquire else .acquire)] s t) := by
  intro t
  obtain ⟨lock, acq, ht, hacq, hlock⟩ := State.discSample_processed hs he src e cls
  have steps := State.stepsAt_iff (p := s.setDsc { s.dsc with lock := lock }) (e := e) (acq := acq) (first := false)
  have asked : (s.setDsc { s.dsc with lock := lock }).stepsAt e acq false = true ↔ s.sampleSteps e := by
    rw [steps, hacq, State.sampleSteps, or_iff_right Bool.false_ne_true]
    rfl
  have leaves : SampleLeaves src e cls s ((s.setDsc { s.dsc with lock := lock }).processSample src e cls acq false) :=
    SampleLeaves.of_processed rfl (fun _ => rfl) (if_neg hs).symm (hacq.trans (or_iff_right hs).symm)
      ⟨fun h => absurd h Bool.false_ne_true, fun h => absurd h hs⟩
      (fun h => (hlock h).trans (if_congr (or_iff_right hs).symm rfl rfl)) rfl ⟨rfl, rfl, rfl, rfl⟩
  obtain ⟨d2, -, -, -, ttsc, trrx, -⟩ := (s.setDsc { s.dsc with lock := lock }).processSample_leaves src e cls acq false
  obtain ⟨-, -, -, leap⟩ := ((s.setDsc { s.dsc with lock := lock }).setDsc d2).moved_clock e acq false
  rw [← ttsc] at leap
  refine ⟨?_, ?_, ?_, fun h => ?_, fun h => ?_⟩
  · rw [show t = _ from ht]; exact leaves
  · rw [show t = _ from ht]; exact trrx
  · rw [show t = _ from ht]; exact leap
  · rw [show t = _ from ht]
    exact (setDsc_unchanged s (by decide) _).trans
      (State.processSample_steered (Bool.eq_false_iff.2 (mt asked.1 h)) src cls)
  · rw [show t = _ from ht]
    exact State.processSample_stepped (asked.2 h) src cls (before.trans (.setDsc s _)) tracker

end Sys2Proof.Machine

/-! PROOFS. An accepted mark taken by a source (R30 to R35), and what its sample leaves of the receiver (R34, R56). -/

namespace Sys2Proof.Machine

variable {s t m : State} {x y : Source}

/-! ### A mark taken by a source (R30 to R33) -/

/-- The value that a mark with this sample is judged by (R35). -/
def SourceData.judgedValue (d : SourceData) (e : Int) : Int := match d.injection with | some i => i.value | none => e

/-- The state of a source after a mark (R31 to R33), with supervision on or off and the uncertainty `u`. -/
def SourceData.stateAfter (d : SourceData) (cfg : Settings) (judged : Prop) [Decidable judged] (u : Nat) (j : Int) : SourceState :=
  match d.state with
  | .absent => .qualifying
  | .qualifying => if 3 ≤ d.qualify then .usable else .qualifying
  | .usable => if judged ∧ cfg.phaseLimit < j.natAbs ∧ cfg.faultCount ≤ d.out then .faulted else .usable
  | .faulted =>
      if judged ∧ j.natAbs < max (cfg.phaseLimit - cfg.phaseHyst) u ∧ cfg.faultCount ≤ d.release then .usable else .faulted

/-- The counts of a source after a mark (R31 to R33). -/
def SourceData.CountsAfter (d : SourceData) (cfg : Settings) (judged : Prop) (u : Nat) (j : Int) (d' : SourceData) : Prop :=
  (judged → d.state = .usable → d'.state = .usable →
      d'.out = (if cfg.phaseLimit < j.natAbs then d.out + 1 else 0) ∧ d'.release = d.release)
    ∧ (judged → d.state = .faulted → d'.state = .faulted →
      d'.release = (if j.natAbs < max (cfg.phaseLimit - cfg.phaseHyst) u then d.release + 1 else 0) ∧ d'.out = d.out)
    ∧ (¬ judged → d'.state = d.state → d'.out = d.out ∧ d'.release = d.release)
    ∧ (d'.state = .qualifying → d'.out = d.out ∧ d'.release = d.release)
    ∧ (d'.state ≠ d.state → d'.state = .usable ∨ d'.state = .faulted → d'.out = 0 ∧ d'.release = 0)

theorem isOut_iff {limit : Nat} {j : Int} : isOut limit (some j) = true ↔ limit < j.natAbs := decide_eq_true_iff

theorem isGood_iff {limit hyst u : Nat} {j : Int} : isGood limit hyst u (some j) = true ↔ j.natAbs < max (limit - hyst) u :=
  decide_eq_true_iff

/-- A source that a mark neither moves nor judges. -/
theorem SourceData.CountsAfter.of_same {d d' : SourceData} {cfg : Settings} {judged : Prop} {u : Nat} {j : Int} (h : ¬ judged)
    (state : d'.state = d.state) (out : d'.out = d.out) (release : d'.release = d.release) : d.CountsAfter cfg judged u j d' :=
  ⟨fun h' => absurd h' h, fun h' => absurd h' h, fun _ _ => ⟨out, release⟩, fun _ => ⟨out, release⟩, fun h' => absurd state h'⟩

/-- What a mark leaves in a source; one without a sample is never supervised (R28, R31 to R33, R35). -/
theorem SourceData.take_mark (d : SourceData) (cfg : Settings) (sup : Bool) (u : Nat) {value : Option Int} (epoch cls : Nat) {e : Int}
    (hv : value = some e ∨ sup = false) :
    let d' := d.take cfg sup u (.mark value epoch cls)
    d'.state = d.stateAfter cfg (sup = true) u (d.judgedValue e)
      ∧ d.CountsAfter cfg (sup = true) u (d.judgedValue e) d'
      ∧ (d.state = .absent → d'.qualify = 1) ∧ (d.state = .qualifying → d.qualify < 3 → d'.qualify = d.qualify + 1)
      ∧ ∃ st q o p, d' = { d with state := st, qualify := q, out := o, release := p, lastSample := value.or d.lastSample
                                  injection := d.injection.bind Injection.consume } := by
  intro d'
  have record : d.record (.mark value epoch cls) = { d with lastSample := value.or d.lastSample
                                                            injection := d.injection.bind Injection.consume } := rfl
  generalize hd : d.record (.mark value epoch cls) = r at record
  have state : r.state = d.state := by rw [record]
  have qualify : r.qualify = d.qualify := by rw [record]
  have out : r.out = d.out := by rw [record]
  have release : r.release = d.release := by rw [record]
  have judgedAs (he : value = some e) : d.judged (.mark value epoch cls) = some (some (d.judgedValue e)) := by
    rw [he, SourceData.judged, SourceData.judgedValue]
    cases d.injection <;> rfl
  have qualified (h : d.state = .absent ∨ d.state = .qualifying) : d' = r.qualified (.mark value epoch cls) :=
    (d.take_qualified h cfg sup u _).trans (congrArg (fun v => SourceData.qualified v (.mark value epoch cls)) hd)
  have untaken (h : d.state = .usable ∨ d.state = .faulted) (hs : sup = false) : d' = r :=
    (d.take_unjudged h (.inl hs) cfg u).trans hd
  have supervised (h : d.state = .usable ∨ d.state = .faulted) (hs : sup = true) :
      d' = r.supervised cfg u (some (d.judgedValue e)) := by
    have he : value = some e := hv.resolve_right (by rw [hs]; decide)
    have := d.take_judged h (judgedAs he) cfg u
    rw [hd] at this
    rw [← this, ← hs]
  generalize d.judgedValue e = j at *
  rw [SourceData.stateAfter]
  cases hst : d.state with
  | absent =>
    have e' : d' = { r with state := .qualifying, qualify := 1 } := by
      rw [qualified (.inl hst), SourceData.qualified, state, hst]
    rw [e', record]
    refine ⟨rfl, ⟨fun _ h => ?_, fun _ h => ?_, fun _ h => ?_, fun _ => ⟨rfl, rfl⟩, fun _ h => ?_⟩, fun _ => rfl, fun h => (nomatch h),
      _, _, _, _, rfl⟩
    · rw [hst] at h; cases h
    · rw [hst] at h; cases h
    · rw [hst] at h; cases h
    · rcases h with h | h <;> cases h
  | qualifying =>
    have e' : d' = if 4 ≤ d.qualify + 1 then { r with state := .usable, qualify := 4, out := 0, release := 0 }
        else { r with qualify := d.qualify + 1 } := by
      rw [qualified (.inr hst), SourceData.qualified, state, hst, qualify]
    by_cases full : 3 ≤ d.qualify
    · rw [if_pos (by omega)] at e'
      rw [e', record]
      refine ⟨(if_pos full).symm, ⟨fun _ h => ?_, fun _ h => ?_, fun _ h => ?_, fun h => (nomatch h), fun _ _ => ⟨rfl, rfl⟩⟩,
        fun h => (nomatch h), fun _ few => absurd full (by omega), _, _, _, _, rfl⟩
      · rw [hst] at h; cases h
      · rw [hst] at h; cases h
      · rw [hst] at h; cases h
    · rw [if_neg (by omega)] at e'
      rw [e', record]
      refine ⟨hst.trans (if_neg full).symm, ⟨fun _ h => ?_, fun _ h => ?_, fun _ _ => ⟨rfl, rfl⟩, fun _ => ⟨rfl, rfl⟩,
        fun h => absurd rfl h⟩, fun h => (nomatch h), fun _ _ => rfl, _, _, _, _, rfl⟩
      · rw [hst] at h; cases h
      · rw [hst] at h; cases h
  | usable =>
    cases hs : sup with
    | false =>
      rw [untaken (.inl hst) hs, state, hst]
      exact ⟨(if_neg fun h => Bool.false_ne_true h.1).symm, .of_same Bool.false_ne_true state out release, fun h => (nomatch h),
        fun h => (nomatch h), d.state, d.qualify, d.out, d.release, record⟩
    | true =>
      have e' := supervised (.inl hst) hs
      rw [SourceData.supervised_usable (state.trans hst), out] at e'
      by_cases beyond : cfg.phaseLimit < j.natAbs
      · rw [if_pos (isOut_iff.2 beyond)] at e'
        by_cases many : cfg.faultCount ≤ d.out
        · rw [if_pos (by omega)] at e'
          rw [e', record]
          refine ⟨(if_pos ⟨rfl, beyond, many⟩).symm, ⟨fun _ _ h => (nomatch h), fun _ h => ?_, fun h => absurd rfl h,
            fun h => (nomatch h), fun _ _ => ⟨rfl, rfl⟩⟩, fun h => (nomatch h), fun h => (nomatch h), _, _, _, _, rfl⟩
          rw [hst] at h; cases h
        · rw [if_neg (by omega)] at e'
          rw [e', record]
          refine ⟨hst.trans (if_neg fun h => many h.2.2).symm, ⟨fun _ _ _ => ⟨(if_pos beyond).symm, rfl⟩, fun _ h => ?_,
            fun h => absurd rfl h, fun h => ?_, fun h => absurd rfl h⟩, fun h => (nomatch h), fun h => (nomatch h), _, _, _, _, rfl⟩
          · rw [hst] at h; cases h
          · cases hst.symm.trans h
      · rw [if_neg (mt isOut_iff.1 beyond)] at e'
        rw [e', record]
        refine ⟨hst.trans (if_neg fun h => beyond h.2.1).symm, ⟨fun _ _ _ => ⟨(if_neg beyond).symm, rfl⟩, fun _ h => ?_,
          fun h => absurd rfl h, fun h => ?_, fun h => absurd rfl h⟩, fun h => (nomatch h), fun h => (nomatch h), _, _, _, _, rfl⟩
        · rw [hst] at h; cases h
        · cases hst.symm.trans h
  | faulted =>
    cases hs : sup with
    | false =>
      rw [untaken (.inr hst) hs, state, hst]
      exact ⟨(if_neg fun h => Bool.false_ne_true h.1).symm, .of_same Bool.false_ne_true state out release, fun h => (nomatch h),
        fun h => (nomatch h), d.state, d.qualify, d.out, d.release, record⟩
    | true =>
      have e' := supervised (.inr hst) hs
      rw [SourceData.supervised_faulted (state.trans hst), release] at e'
      by_cases good : j.natAbs < max (cfg.phaseLimit - cfg.phaseHyst) u
      · rw [if_pos (isGood_iff.2 good)] at e'
        by_cases many : cfg.faultCount ≤ d.release
        · rw [if_pos (by omega)] at e'
          rw [e', record]
          refine ⟨(if_pos ⟨rfl, good, many⟩).symm, ⟨fun _ h => ?_, fun _ _ h => (nomatch h), fun h => absurd rfl h,
            fun h => (nomatch h), fun _ _ => ⟨rfl, rfl⟩⟩, fun h => (nomatch h), fun h => (nomatch h), _, _, _, _, rfl⟩
          rw [hst] at h; cases h
        · rw [if_neg (by omega)] at e'
          rw [e', record]
          refine ⟨hst.trans (if_neg fun h => many h.2.2).symm, ⟨fun _ h => ?_, fun _ _ _ => ⟨(if_pos good).symm, rfl⟩,
            fun h => absurd rfl h, fun h => ?_, fun h => absurd rfl h⟩, fun h => (nomatch h), fun h => (nomatch h), _, _, _, _, rfl⟩
          · rw [hst] at h; cases h
          · cases hst.symm.trans h
      · rw [if_neg (mt isGood_iff.1 good)] at e'
        rw [e', record]
        refine ⟨hst.trans (if_neg fun h => good h.2.1).symm, ⟨fun _ h => ?_, fun _ _ _ => ⟨(if_neg good).symm, rfl⟩,
          fun h => absurd rfl h, fun h => ?_, fun h => absurd rfl h⟩, fun h => (nomatch h), fun h => (nomatch h), _, _, _, _, rfl⟩
        · rw [hst] at h; cases h
        · cases hst.symm.trans h

/-! ### The receiver told (R34, R56) -/

/-- The receiver with a selection and a revert timer. -/
def Receiver.selected (r : Receiver) (sel : Option Source) (rev : Option RevertTimer) : Receiver :=
  { r with selection := sel, revert := rev }

theorem Receiver.selected_src (r : Receiver) (sel : Option Source) (rev : Option RevertTimer) (x : Source) :
    (r.selected sel rev).src x = r.src x := by
  cases x <;> rfl

theorem Receiver.selected_self (r : Receiver) : r.selected r.selection r.revert = r := rfl

/-- Leaving FREE clears the counts, whatever change follows it. -/
theorem Receiver.toldOf_left {b c : DiscState} (hb : b ≠ .free) (hc : c ≠ .free) (r : Receiver) (sel : Option Source)
    (rev : Option RevertTimer) : ((r.toldOf .free b).selected sel rev).toldOf b c = (r.selected sel rev).toldOf .free c := by
  have unsupervised {d : DiscState} (h : d ≠ .free) :
      ¬ (DiscState.free = d ∨ (DiscState.free.supervised = true ∧ d.supervised = true)) :=
    fun h' => h'.elim (fun e => h e.symm) fun h' => (by decide : DiscState.free.supervised ≠ true) h'.1
  rw [(r.toldOf_cases .free b).2 (unsupervised hb), ((r.selected sel rev).toldOf_cases .free c).2 (unsupervised hc)]
  by_cases same : b = c ∨ (b.supervised = true ∧ c.supervised = true)
  · rw [(Receiver.toldOf_cases _ b c).1 same]; rfl
  · rw [(Receiver.toldOf_cases _ b c).2 same]; rfl

/-- The first sample of FREE (R52). -/
theorem State.discSample_free (hs : s.dsc.state = .free) {epoch : Nat} (he : epoch = s.tsc.epoch) (src : Source) (e : Int) (cls : Nat) :
    s.discSample src e epoch cls
      = ((s.setDsc { s.dsc with lock := 0, prev := none }).processSample src e cls true true).evalSelection false := by
  rw [State.discSample, if_neg (not_not_intro he)]
  split
  · rfl
  · rename_i h; cases hs.symm.trans h
  · rename_i h; cases hs.symm.trans h
  · rename_i h; cases hs.symm.trans h

/-- A sample may change the selection, and tells of the change of state from before to after (R34, R52, R56). -/
theorem State.discSample_told (s : State) (src : Source) (e : Int) (epoch cls : Nat) :
    let t := s.discSample src e epoch cls
    ∃ sel rev, t.rrx = (s.rrx.selected sel rev).toldOf s.dsc.state t.dsc.state := by
  intro t
  by_cases he : epoch = s.tsc.epoch
  · by_cases hs : s.dsc.state = .free
    · have ht : t = _ := State.discSample_free hs he src e cls
      generalize hp : s.setDsc { s.dsc with lock := 0, prev := none } = p at ht
      have prrx : p.rrx = s.rrx := by rw [← hp]; rfl
      have pstate : p.dsc.state = .free := by rw [← hp]; exact hs
      obtain ⟨d2, -, -, qdsc, -, qrrx, -⟩ := p.processSample_leaves src e cls true true
      obtain ⟨-, -, out, -⟩ := p.dsc.processed_always p.cfg src e cls true (p.stepsAt e true true)
      have qout : (p.processSample src e cls true true).dsc.state ≠ .free := by rw [qdsc]; exact out
      generalize p.processSample src e cls true true = q at *
      obtain ⟨⟨rev, trrx⟩, -, -, -, -, lost, kept⟩ := q.evalSelection_leaves false
      rw [← ht] at trrx lost kept
      have tout : t.dsc.state ≠ .free := by
        by_cases gone : q.selectionNow false = none ∧ q.selectionNow false ≠ q.rrx.selection
            ∧ (q.dsc.state = .acquire ∨ q.dsc.state = .locked)
        · rw [(lost gone).1]; decide
        · rw [kept gone]; exact qout
      rw [qrrx, pstate, prrx] at trrx
      exact ⟨_, rev, trrx.trans (by rw [hs]; exact Receiver.toldOf_left qout tout s.rrx _ rev)⟩
    · obtain ⟨-, trrx, -⟩ := State.discSample_leaves hs he src e cls (Aside.refl s) rfl
      exact ⟨_, _, trrx⟩
  · have ht : t = s.discMissing := if_pos he
    rw [ht]
    refine ⟨s.rrx.selection, s.rrx.revert, ?_⟩
    have state : s.discMissing.dsc.state = s.dsc.state := by
      rw [State.discMissing]; split <;> rfl
    rw [state, Receiver.toldOf_self, Receiver.selected_self, State.discMissing]
    split <;> rfl

/-- A mark taken: the source takes it, and the receiver is told of the change of state (R30, R34). -/
theorem State.takeRefEvent_told (s : State) (x : Source) (value : Option Int) (epoch cls : Nat) :
    let d := (s.rrx.src x).take s.cfg s.dsc.state.supervised s.dsc.u (.mark value epoch cls)
    let t := s.takeRefEvent x (.mark value epoch cls)
    ∃ sel rev, t.rrx = ((s.rrx.setSrc x d).selected sel rev).toldOf s.dsc.state t.dsc.state := by
  intro d t
  obtain ⟨⟨sel, rev, mrrx⟩, -, -, -, held⟩ := (s.setSrc x d).sourceMoved_leaves x (s.rrx.src x).state
  have ht : t = ((s.setSrc x d).sourceMoved x (s.rrx.src x).state).handToDsc x (.mark value epoch cls) := rfl
  generalize (s.setSrc x d).sourceMoved x (s.rrx.src x).state = m at *
  change m.rrx = ((s.rrx.setSrc x d).selected sel rev).toldOf s.dsc.state m.dsc.state at mrrx
  change m.dsc.state ≠ s.dsc.state → _ at held
  rw [State.handToDsc.eq_def] at ht
  by_cases selected : m.rrx.selection = some x
  · have same : m.dsc.state = s.dsc.state := by
      by_contra h
      obtain ⟨-, none', -⟩ := held h
      rw [selected] at none'
      cases none'
    rw [same, Receiver.toldOf_self] at mrrx
    rw [if_pos selected] at ht
    cases value with
    | none => exact ⟨sel, rev, by rw [show t = m from ht, same, Receiver.toldOf_self]; exact mrrx⟩
    | some e =>
      obtain ⟨sel', rev', told⟩ := m.discSample_told x e epoch cls
      change t = m.discSample x e epoch cls at ht
      rw [same, mrrx, ← ht] at told
      exact ⟨sel', rev', told⟩
  · rw [if_neg selected] at ht
    exact ⟨sel, rev, by rw [ht]; exact mrrx⟩

/-- The counts that a mark leaves, from the source as the mark left it and the change of state told (R31 to R34). -/
theorem CountsLeave.of_told {r : Receiver} {j : Int} {d d' : SourceData}
    (told : t.rrx = r.toldOf s.dsc.state t.dsc.state) (hr : r.src x = d') (others : ∀ y, y ≠ x → r.src y = s.rrx.src y)
    (hd : d.state = (s.rrx.src x).state ∧ d.out = (s.rrx.src x).out ∧ d.release = (s.rrx.src x).release)
    (counts : d.CountsAfter s.cfg (s.dsc.state.supervised = true) s.dsc.u j d') : CountsLeave x j s t := by
  obtain ⟨state, out, release⟩ := hd
  obtain ⟨h1, h2, h3, h4, h5⟩ := counts
  rw [state, out, release] at h1 h2 h3
  rw [out, release] at h4
  rw [state] at h5
  simp only [DiscState.supervised_iff] at h1 h2 h3
  have src (y : Source) := r.toldOf_src s.dsc.state t.dsc.state y
  simp only [← told, DiscState.supervised_iff] at src
  unfold CountsLeave
  extract_lets a b other judged judges keeps
  have hother : other ≠ x := by simp only [other]; cases x <;> decide
  have bstate : b.state = d'.state := by
    simp only [b, src x, hr]; split <;> rfl
  by_cases hk : keeps
  · have stays : s.dsc.state = t.dsc.state ∨ (judged ∧ judges) := hk.symm.imp_left Eq.symm
    have hb : b = d' := by simp only [b]; rw [src x, if_pos stays, hr]
    have ho : t.rrx.src other = s.rrx.src other := by rw [src other, if_pos stays, others _ hother]
    rw [hb, ho]
    exact ⟨fun _ => h1, fun _ => h2, fun _ => h3, fun _ => h4, h5, fun _ => ⟨rfl, rfl⟩, fun h => absurd hk h⟩
  · have moves : ¬ (s.dsc.state = t.dsc.state ∨ (judged ∧ judges)) := fun h => hk (h.symm.imp_right Eq.symm)
    have hb : b.out = 0 ∧ b.release = 0 := by simp only [b]; rw [src x, if_neg moves]; exact ⟨rfl, rfl⟩
    have ho : (t.rrx.src other).out = 0 ∧ (t.rrx.src other).release = 0 := by
      rw [src other, if_neg moves]; exact ⟨rfl, rfl⟩
    exact ⟨fun h => absurd h hk, fun h => absurd h hk, fun h => absurd h hk, fun h => absurd h hk, fun _ _ => hb,
      fun h => absurd h hk, fun _ => ⟨hb.1, hb.2, ho.1, ho.2⟩⟩

end Sys2Proof.Machine

/-! PROOFS. O47 and O48: a pulse of REF-B. -/

namespace Sys2Proof.Machine

variable {s t m : State} {x y : Source}

/-! ### A mark taken by the receiver (R30) -/

/-- What a mark leaves of the rest of the receiver: the frame, the candidate and the counters as they were. -/
def Receiver.SameFrame (r r' : Receiver) : Prop :=
  r'.state = r.state ∧ r'.begun = r.begun ∧ r'.prevChar = r.prevChar ∧ r'.candidate = r.candidate ∧ r'.discards = r.discards
    ∧ r'.lastSeq = r.lastSeq ∧ r'.lastFrame = r.lastFrame ∧ r'.srcClass = r.srcClass ∧ r'.countA = r.countA ∧ r'.countB = r.countB

theorem Receiver.setSrc_sameFrame (r : Receiver) (x : Source) (d : SourceData) (sel : Option Source) (rev : Option RevertTimer)
    (a b : DiscState) : r.SameFrame (((r.setSrc x d).selected sel rev).toldOf a b) := by
  obtain ⟨oa, ra, ob, rb, e⟩ := ((r.setSrc x d).selected sel rev).toldOf_eq a b
  rw [e]
  cases x <;> exact ⟨rfl, rfl, rfl, rfl, rfl, rfl, rfl, rfl, rfl, rfl⟩

/-- A mark taken by the receiver in a state `m` that agrees with `s` in what is judged (R30 to R35). -/
theorem State.takeRefEvent_mark (dsc : m.dsc = s.dsc) (cfg : m.cfg = s.cfg)
    (hd : (m.rrx.src x).state = (s.rrx.src x).state ∧ (m.rrx.src x).out = (s.rrx.src x).out
      ∧ (m.rrx.src x).release = (s.rrx.src x).release) (ho : ∀ y, y ≠ x → m.rrx.src y = s.rrx.src y)
    {value : Option Int} {e : Int} (hv : value = some e ∨ s.dsc.state = .free) (epoch cls : Nat) :
    let d := m.rrx.src x
    let t := m.takeRefEvent x (.mark value epoch cls)
    (t.rrx.src x).lastMark = d.lastMark ∧ (t.rrx.src x).nextMissing = d.nextMissing ∧ (t.rrx.src x).absentAt = d.absentAt
      ∧ (t.rrx.src x).lastSample = value.or d.lastSample
      ∧ (t.rrx.src x).injection = d.injection.bind Injection.consume
      ∧ (t.rrx.src x).state = d.stateAfter s.cfg (s.dsc.state = .locked ∨ s.dsc.state = .holdover) s.dsc.u (d.judgedValue e)
      ∧ (d.state = .absent → (t.rrx.src x).qualify = 1)
      ∧ (d.state = .qualifying → d.qualify < 3 → (t.rrx.src x).qualify = d.qualify + 1)
      ∧ CountsLeave x (d.judgedValue e) s t ∧ m.rrx.SameFrame t.rrx := by
  intro d t
  obtain ⟨sel, rev, told⟩ := m.takeRefEvent_told x value epoch cls
  have unsupervised (h : s.dsc.state = .free) : s.dsc.state.supervised = false := by rw [h]; rfl
  obtain ⟨state, counts, first, next, st, q, o, p, whole⟩ := d.take_mark s.cfg s.dsc.state.supervised s.dsc.u epoch cls
    (hv.imp_right unsupervised)
  rw [dsc, cfg] at told
  change t.rrx = ((m.rrx.setSrc x (d.take s.cfg s.dsc.state.supervised s.dsc.u (.mark value epoch cls))).selected sel rev).toldOf
    s.dsc.state t.dsc.state at told
  generalize d.take s.cfg s.dsc.state.supervised s.dsc.u (.mark value epoch cls) = d' at *
  have src : ((m.rrx.setSrc x d').selected sel rev).src x = d' := by rw [Receiver.selected_src, Receiver.src_setSrc]
  obtain ⟨o', p', hx⟩ := Receiver.toldOf_src_eq ((m.rrx.setSrc x d').selected sel rev) s.dsc.state t.dsc.state x
  rw [← told, src] at hx
  have judged : d.stateAfter s.cfg (s.dsc.state.supervised = true) s.dsc.u (d.judgedValue e)
      = d.stateAfter s.cfg (s.dsc.state = .locked ∨ s.dsc.state = .holdover) s.dsc.u (d.judgedValue e) := by
    simp only [SourceData.stateAfter, DiscState.supervised_iff]
  refine ⟨by rw [hx, whole], by rw [hx, whole], by rw [hx, whole], by rw [hx, whole], by rw [hx, whole],
    by rw [hx, ← judged]; exact state, fun h => by rw [hx]; exact first h, fun h few => by rw [hx]; exact next h few,
    CountsLeave.of_told told src (fun y hy => ?_) hd counts, ?_⟩
  · rw [Receiver.selected_src, Receiver.src_setSrc_other _ _ hy, ho y hy]
  · rw [told]; exact m.rrx.setSrc_sameFrame x d' sel rev _ _

/-! ### Pulses (R26, R28) -/

/-- The sample of a pulse, as R28 writes it. -/
theorem sampleOfPulse_eq (cfg : Settings) (n : Nat) : sampleOfPulse cfg n =
    (let v := ((n : Int) - cfg.delayB) % 1000000000
     if v < 500000000 then v else v - 1000000000) := rfl

theorem Receiver.spuriousPulse_iff (r : Receiver) (e : Nat) :
    r.spuriousPulse e = true ↔ ∃ l : Latch, r.srcB.lastMark = some l ∧ e < l.e + 900000 := by
  rw [Receiver.spuriousPulse]
  cases r.srcB.lastMark with
  | none => simp
  | some l => exact ⟨fun h => ⟨l, rfl, of_decide_eq_true h⟩, fun ⟨l', e', h⟩ => by cases e'; exact decide_eq_true h⟩

/-- An accepted pulse on its way to REF-B (R26). -/
theorem exec_refbPulse (h : ¬ ∃ l : Latch, s.rrx.srcB.lastMark = some l ∧ s.tsc.e < l.e + 900000) :
    exec .refbPulse s = .next ((s.setRrx (s.rrx.acceptedPulse s.latch)).takeRefEvent .b
      (.mark s.pulseValue s.tsc.epoch s.rrx.srcClass)) :=
  if_neg (mt (Receiver.spuriousPulse_iff _ _).1 h)

/-- Settles O47: a spurious pulse is counted, an accepted one is a mark of REF-B. -/
theorem pulsesAreAcceptedOrSpurious : Obligations.PulsesAreAcceptedOrSpurious := by
  intro s b k tooSoon v e j judged
  refine ⟨fun h => if_pos ((Receiver.spuriousPulse_iff _ _).2 h), fun h => ?_⟩
  have value : s.pulseValue = some e ∨ s.dsc.state = .free := by
    rw [State.pulseValue]
    split
    next free => exact .inr free
    next => exact .inl rfl
  have sample (o : Option Int) : s.pulseValue.or o = if s.dsc.state = .free then o else some e := by
    rw [State.pulseValue]
    split <;> rfl
  obtain ⟨mark, next, absent, last, -, state, first, more, counts, -, -, -, -, -, -, -, -, -, countB⟩ :=
    State.takeRefEvent_mark (s := s) (m := s.setRrx (s.rrx.acceptedPulse s.latch)) (x := .b) rfl rfl ⟨rfl, rfl, rfl⟩
      (fun y hy => by cases y with | a => rfl | b => exact absurd rfl hy) value s.tsc.epoch s.rrx.srcClass
  rw [sample] at last
  exact ⟨_, exec_refbPulse h, mark, next, absent, countB, last, state, first, more, counts,
    (setRrx_unchanged s (by decide) _).trans (takeRefEvent_unchanged _ (List.Subset.refl _) _ _)⟩

/-! ### A sample of REF-B (R43 to R53) -/

/-- A mark of the selected source that leaves the source's state is a sample of the discipline (R30 step 4). -/
theorem State.takeRefEvent_sample (hs : m.rrx.selection = some x) {value : Option Int} {e : Int} (hv : value = some e) (epoch cls : Nat)
    (still : ((m.rrx.src x).take m.cfg m.dsc.state.supervised m.dsc.u (.mark value epoch cls)).state = (m.rrx.src x).state) :
    m.takeRefEvent x (.mark value epoch cls)
      = (m.setSrc x ((m.rrx.src x).take m.cfg m.dsc.state.supervised m.dsc.u (.mark value epoch cls))).discSample x e epoch cls := by
  rw [State.takeRefEvent]
  generalize (m.rrx.src x).take m.cfg m.dsc.state.supervised m.dsc.u (.mark value epoch cls) = d at *
  have src : ((m.setSrc x d).rrx.src x).state = (m.rrx.src x).state := by
    rw [show (m.setSrc x d).rrx.src x = d from m.rrx.src_setSrc x d]; exact still
  have sel : (m.setSrc x d).rrx.selection = some x := (m.rrx.setSrc_selection x d).trans hs
  rw [((m.setSrc x d).sourceMoved_eq x _).1 src, hv, State.handToDsc.eq_def, if_pos sel]

/-- A USABLE source that is judged by nothing out of its limit stays USABLE (R32). -/
theorem SourceData.stateAfter_usable {d : SourceData} {cfg : Settings} {judged : Prop} [Decidable judged] {u : Nat} {j : Int}
    (h : d.state = .usable) (hj : judged → j.natAbs ≤ cfg.phaseLimit) : d.stateAfter cfg judged u j = .usable := by
  rw [SourceData.stateAfter, h]
  exact if_neg fun h' => absurd h'.2.1 (Nat.not_lt.2 (hj h'.1))

/-- The class of a sample counts for REF-A alone (R51 step 1). -/
theorem SampleLeaves.of_refB {e : Int} {cls : Nat} (h : SampleLeaves .b e cls s t) : SampleLeaves .b e 0 s t := h

/-- Settles O48: a pulse that leaves REF-B USABLE is handed on as a sample. -/
theorem samplesSteerThePart : Obligations.SamplesSteerThePart := by
  intro s hs sel usable spaced v e inside acquiring steps
  have accepted : ¬ ∃ l : Latch, s.rrx.srcB.lastMark = some l ∧ s.tsc.e < l.e + 900000 :=
    fun ⟨l, hl, h⟩ => absurd (spaced l hl) (Nat.not_le.2 h)
  have value : s.pulseValue = some e := if_neg hs
  have judged (h : s.dsc.state.supervised = true) : (s.rrx.srcB.judgedValue e).natAbs ≤ s.cfg.phaseLimit := by
    obtain ⟨none', small⟩ := inside fun ha => by rw [ha] at h; cases h
    rw [SourceData.judgedValue, none']
    exact small
  have row := exec_refbPulse accepted
  generalize hm : s.setRrx (s.rrx.acceptedPulse s.latch) = m at row
  have mdsc : m.dsc = s.dsc := by rw [← hm]; rfl
  have mcfg : m.cfg = s.cfg := by rw [← hm]; rfl
  have msrc : m.rrx.src .b = s.rrx.srcB.marked s.latch := by rw [← hm]; rfl
  have msel : m.rrx.selection = some .b := by rw [← hm]; exact sel
  obtain ⟨state, -⟩ := (m.rrx.src .b).take_mark m.cfg m.dsc.state.supervised m.dsc.u s.tsc.epoch s.rrx.srcClass (.inl value)
  have still := state.trans (SourceData.stateAfter_usable (by rw [msrc]; exact usable) (by rw [mdsc, mcfg, msrc]; exact judged))
  rw [State.takeRefEvent_sample msel value s.tsc.epoch s.rrx.srcClass (still.trans (by rw [msrc]; exact usable.symm))] at row
  generalize (m.rrx.src .b).take m.cfg m.dsc.state.supervised m.dsc.u (.mark s.pulseValue s.tsc.epoch s.rrx.srcClass) = d at row
  have hq : m.setSrc .b d = s.setRrx (m.rrx.setSrc .b d) := by rw [← hm]; rfl
  rw [hq] at row
  generalize m.rrx.setSrc .b d = r at row
  obtain ⟨leaves, -, leap, steered, stepped⟩ :=
    State.discSample_leaves (s := s.setRrx r) hs rfl .b e s.rrx.srcClass (Aside.setRrx s r) rfl
  refine ⟨_, row, leaves.of_refB, leap, fun h => ?_, fun h => ?_⟩
  · have kept := (setRrx_unchanged s (L := .rrx :: .dsc :: Part.recording) (by decide) r).trans (steered h)
    exact ⟨kept.tsc_eq (by decide) (by decide) (by decide) (by decide), kept⟩
  · obtain ⟨moves, record⟩ := stepped h
    exact ⟨moves, fun room => record.found (s := s) (List.mem_singleton_self _) room (Nat.add_le_add_left (by decide) _),
      (setRrx_unchanged s (by decide) r).trans (discSample_unchanged _ (List.Subset.refl _) _ _ _ _)⟩

end Sys2Proof.Machine

/-! PROOFS. The characters of a REF-A frame brought to its judgement (R19 to R22). -/

namespace Sys2Proof.Machine

variable {s t : State} {mark : Latch} {m : StationMessage} {check : BitVec 16}

/-! ### The bytes of a message (12.2) -/

/-- A 40-bit value is read back from its five bytes (12.2). -/
theorem ofBytes_beBytes_five (v : BitVec 40) : BitVec.ofNat 40 (ofBytes (beBytes 5 v.toNat)) = v := by
  have hv := v.isLt
  apply BitVec.eq_of_toNat_eq
  simp only [ofBytes, beBytes, List.foldl_cons, List.foldl_nil, BitVec.toNat_ofNat]
  omega

/-- A message and its check are read back from their bytes (12.2). -/
theorem StationMessage.ofBytes_bytes (m : StationMessage) (check : BitVec 16) :
    StationMessage.ofBytes (m.bytes check) = some (m, check) := by
  have read : StationMessage.ofBytes (m.bytes check)
      = some ({ sourceId := m.sourceId, status := m.status, civil := BitVec.ofNat 40 (Machine.ofBytes (beBytes 5 m.civil.toNat))
                leap := m.leap, sequence := m.sequence }, BitVec.ofNat 16 (Machine.ofBytes (beBytes 2 check.toNat))) := rfl
  rw [read, ofBytes_beBytes_five, ofBytes_beBytes]

theorem StationMessage.characters_length (m : StationMessage) (check : BitVec 16) : (m.characters check).length = 13 := rfl

/-! ### A frame judged (R22) -/

/-- The receiver with the character in hand forgotten. -/
def State.ended (s : State) : State := s.setRrx { s.rrx with begun := none }

/-- The judgement of a frame reads neither the candidate nor the previous character, and leaves none (R22, R25). -/
theorem State.takeFrame_forgets (s : State) (p : Option (Byte × Latch)) (c : Option Candidate) (mark : Latch) (m : StationMessage)
    (check : BitVec 16) :
    (s.setRrx { s.rrx with begun := none, prevChar := p, candidate := c }).takeFrame mark m check = s.ended.takeFrame mark m check := by
  have judged : (s.setRrx { s.rrx with begun := none, prevChar := p, candidate := c }).judgeFrame mark m check
      = s.ended.judgeFrame mark m check := rfl
  rw [State.takeFrame, State.takeFrame, judged]
  cases s.ended.judgeFrame mark m check with
  | none => rfl
  | some why =>
    have forgotten (r r' : Receiver) (h : ∃ p c, r' = { r with prevChar := p, candidate := c }) : r'.discarded why = r.discarded why := by
      obtain ⟨p, c, rfl⟩ := h
      rfl
    exact congrArg (fun r => (s.setRrx r).takeDeferred mark.e) (forgotten _ _ ⟨p, c, rfl⟩)

/-- The last character of a candidate in hand completes it (R20, R22). -/
theorem State.completeChar_last {bytes : List Byte} {v : Byte} (hb : s.rrx.begun.isSome = true)
    (hc : s.rrx.candidate = some { mark := mark, bytes := bytes }) (inTime : s.tsc.e ≤ mark.e + 50000)
    (sent : bytes ++ [v] = m.characters check) : s.completeChar v = s.ended.takeFrame mark m check := by
  obtain ⟨l, hl⟩ := Option.isSome_iff_exists.1 hb
  have length : bytes.length + 1 = 13 := by
    have := congrArg List.length sent
    rwa [List.length_append, List.length_singleton, StationMessage.characters_length] at this
  have read : StationMessage.ofBytes ((bytes ++ [v]).drop 2) = some (m, check) := by
    rw [sent]
    exact StationMessage.ofBytes_bytes m check
  rw [(completeChar_cases v s).2.2 l _ hl hc,
    ((s.charTaken v l).appendChar_cases { mark := mark, bytes := bytes } v).2.2 inTime (le_of_eq length.symm) m check read]
  exact s.takeFrame_forgets (some (v, l)) s.rrx.candidate mark m check

/-! ### A whole frame (R20, entry 8) -/

/-- A character that begins and completes in the same instant, with none in hand. -/
theorem State.takeChar_eq (hb : s.rrx.begun = none) (v : Byte) :
    (s.rrx.candidate = none → s.takeChar v = (s.charTaken v s.latch).searchPair s.rrx.prevChar v)
      ∧ ∀ c, s.rrx.candidate = some c → s.takeChar v = (s.charTaken v s.latch).appendChar c v := by
  have begun : s.beginChar.rrx.begun = some s.latch := by
    show some (s.rrx.begun.getD s.latch) = _
    rw [hb]; rfl
  obtain ⟨-, search, append⟩ := completeChar_cases v s.beginChar
  exact ⟨fun hc => search _ begun hc, fun c hc => append _ c begun hc⟩

/-- The characters that do not yet complete the candidate in hand are kept (R20). -/
theorem State.takeChars_kept {c : Candidate} : ∀ (vs : List Byte) (s : State) (bytes : List Byte), s.rrx.begun = none →
    s.rrx.candidate = some { c with bytes := bytes } → s.tsc.e ≤ c.mark.e + 50000 → bytes.length + vs.length < 13 →
    ∃ p, forAll vs State.takeChar s
      = s.setRrx { s.rrx with begun := none, prevChar := p, candidate := some { c with bytes := bytes ++ vs } }
  | [], s, bytes, hb, hc, _, _ => by
    refine ⟨s.rrx.prevChar, ?_⟩
    rw [List.append_nil, ← hc, ← hb]
    rfl
  | v :: vs, s, bytes, hb, hc, ht, hl => by
    rw [List.length_cons] at hl
    have kept := ((State.takeChar_eq hb v).2 _ hc).trans
      (((s.charTaken v s.latch).appendChar_cases { c with bytes := bytes } v).2.1 ht
        (show bytes.length + 1 < 13 by omega))
    rw [forAll_cons, kept]
    obtain ⟨p, e⟩ := State.takeChars_kept vs ((s.charTaken v s.latch).setRrx { (s.charTaken v s.latch).rrx with
      candidate := some { c with bytes := bytes ++ [v] } }) (bytes ++ [v]) rfl rfl ht
      (by rw [List.length_append, List.length_singleton]; omega)
    refine ⟨p, e.trans ?_⟩
    rw [List.append_assoc, List.singleton_append]
    rfl

theorem forAll_append {α : Type} (xs ys : List α) (f : α → State → State) (s : State) :
    forAll (xs ++ ys) f s = forAll ys f (forAll xs f s) := by
  induction xs generalizing s with
  | nil => rfl
  | cons x xs ih => rw [List.cons_append, forAll_cons, forAll_cons, ih]

/-- The sync pair with no candidate in hand opens one on the latch of its first character (R20). -/
theorem State.takeSyncPair (hb : s.rrx.begun = none) (hc : s.rrx.candidate = none) :
    forAll [0xC3, 0x3C] State.takeChar s = ((s.charTaken 0xC3 s.latch).charTaken 0x3C s.latch).openCandidate s.latch := by
  have first : s.takeChar 0xC3 = s.charTaken 0xC3 s.latch :=
    ((State.takeChar_eq hb 0xC3).1 hc).trans ((searchPair_cases _ _ _).1 (.inl (by decide)))
  have second : (s.charTaken 0xC3 s.latch).takeChar 0x3C
      = ((s.charTaken 0xC3 s.latch).charTaken 0x3C s.latch).openCandidate s.latch :=
    ((State.takeChar_eq (s := s.charTaken 0xC3 s.latch) rfl 0x3C).1 hc).trans ((searchPair_cases _ _ _).2 s.latch rfl rfl)
  rw [forAll_cons, first, forAll_cons, second]
  rfl

/-- A command that completes a candidate brings its frame to the judgement (R20 to R22). -/
theorem FrameArrives.exec {c : Instr} (h : FrameArrives mark m check c s) :
    Machine.exec c s = .next (s.ended.takeFrame mark m check) := by
  rcases h with ⟨rfl, hc, hb, rfl, window⟩ | ⟨bytes, v, stopHigh, rfl, hb, ht, hc, sent⟩
  · refine congrArg Host.Outcome.next ?_
    let s2 := (s.charTaken 0xC3 s.latch).charTaken 0x3C s.latch
    have opened : s2.openCandidate s.latch
        = s2.setRrx { s2.rrx with candidate := some { mark := s.latch, bytes := [0xC3, 0x3C] } } := by
      rcases s2.openCandidate_cases s.latch with ⟨-, -, e⟩ | ⟨closed, -⟩
      · exact e
      · have inside : s2.rrx.inWindow s.latch.e = true := (Receiver.inWindow_iff s s.latch).2 window
        rcases closed with closed | late
        · exact absurd (inside.symm.trans closed) (by decide)
        · exact absurd late (Nat.not_le.2 (Nat.lt_add_of_pos_right (by decide)))
    obtain ⟨init, v, sent⟩ : ∃ init v, m.bytes check = init ++ [v] :=
      ⟨_, _, (List.dropLast_append_getLast (l := m.bytes check) (List.cons_ne_nil _ _)).symm⟩
    have length : init.length + 1 = 11 := by
      have : (m.bytes check).length = 11 := rfl
      rwa [sent, List.length_append, List.length_singleton] at this
    have characters : m.characters check = [0xC3, 0x3C] ++ (init ++ [v]) := by rw [← sent]; rfl
    obtain ⟨p, kept⟩ := State.takeChars_kept (c := { mark := s.latch, bytes := [] }) init
      (s2.setRrx { s2.rrx with candidate := some { mark := s.latch, bytes := [0xC3, 0x3C] } }) [0xC3, 0x3C] rfl rfl
      (Nat.le_add_right _ _) (show 2 + init.length < 13 by omega)
    rw [characters, forAll_append, State.takeSyncPair hb hc, opened, forAll_append]
    generalize forAll init State.takeChar _ = k at kept ⊢
    have last := State.completeChar_last (s := k.beginChar) (v := v) (mark := s.latch) (bytes := [0xC3, 0x3C] ++ init) rfl
      (by rw [kept]; rfl) (by rw [kept]; exact Nat.le_add_right _ _) (by rw [characters, List.append_assoc])
    have same : k.beginChar.ended.takeFrame s.latch m check = s.ended.takeFrame s.latch m check := by
      rw [kept]
      exact s.takeFrame_forgets p (some { mark := s.latch, bytes := [0xC3, 0x3C] ++ init }) s.latch m check
    exact last.trans same
  · exact congrArg Host.Outcome.next (State.completeChar_last hb hc ht sent)

end Sys2Proof.Machine

/-! PROOFS. O46: the discards of REF-A, and the instants that a candidate deferred (R20 to R24, R29). -/

namespace Sys2Proof.Machine

variable {s t u v left : State} {mark : Nat} {why : Discard}

/-! ### Deferred instants (R29) -/

theorem deferred_iff {at' : Option Nat} : deferred s.tsc.e mark at' = true ↔ Deferred mark s at' := by
  cases at' with
  | none => exact ⟨fun h => (nomatch h), fun ⟨_, h, _⟩ => (nomatch h)⟩
  | some x =>
    have e : deferred s.tsc.e mark (some x) = (decide (x ≤ s.tsc.e) && decide (mark < x)) := rfl
    rw [e, Bool.and_eq_true, decide_eq_true_iff, decide_eq_true_iff]
    exact ⟨fun ⟨h, h'⟩ => ⟨x, rfl, h, h'⟩, fun ⟨_, hx, h, h'⟩ => by cases hx; exact ⟨h, h'⟩⟩

/-- A source's instant that has come is taken at once when no candidate is in hand. -/
theorem await_reached {ev : TimedEvent} {at' : Nat} {x : Source} (hi : ev.instant s = s.rrx.undeferred x (some at'))
    (hc : s.rrx.candidate = none) (now : at' ≤ s.tsc.e) : s.await ev (some at') = ev.happen s := by
  have free : s.rrx.defers x at' = false := by
    rw [Receiver.defers, hc]
    exact Bool.and_false _
  have instant : ev.instant s = some at' := by
    rw [hi, Receiver.undeferred, Option.filter_some, free]
    rfl
  show (if ev.instant (s.runToE at') = some at' then ev.happen (s.runToE at') else s.runToE at') = _
  rw [State.runToE_of_le now, if_pos instant]

/-- A deferred missing-sample instant is a MISSING_SAMPLE of this instant. -/
theorem exec_missing_deferred (hc : s.rrx.candidate = none) (h : Deferred mark s s.rrx.srcA.nextMissing) :
    exec (.missingSample .a) s = .next (s.takeMissing .a) := by
  obtain ⟨x, hx, now, -⟩ := h
  exact congrArg Host.Outcome.next ((congrArg (s.await (.missing .a)) hx).trans
    (await_reached (x := .a) (congrArg (s.rrx.undeferred .a) hx) hc now))

/-- A deferred 8-second instant is a SOURCE_ABSENT of this instant. -/
theorem exec_absent_deferred (hc : s.rrx.candidate = none) (h : Deferred mark s s.rrx.srcA.absentAt) :
    exec (.sourceAbsent .a) s = .next (s.takeAbsent .a) := by
  obtain ⟨x, hx, now, -⟩ := h
  exact congrArg Host.Outcome.next ((congrArg (s.await (.absent .a)) hx).trans
    (await_reached (x := .a) (congrArg (s.rrx.undeferred .a) hx) hc now))

/-- A missing sample leaves the candidate as it is. -/
theorem State.takeMissing_candidate (s : State) : (s.takeMissing .a).rrx.candidate = s.rrx.candidate := by
  have taken (m : State) : (m.takeRefEvent .a .missing).rrx.candidate = m.rrx.candidate := by
    let d := (m.rrx.src .a).take m.cfg m.dsc.state.supervised m.dsc.u .missing
    obtain ⟨⟨sel, rev, told⟩, -⟩ := (m.setSrc .a d).sourceMoved_leaves .a (m.rrx.src .a).state
    obtain ⟨same, -⟩ := ((m.setSrc .a d).sourceMoved .a (m.rrx.src .a).state).handToDsc_missing .a
    have rrx : (m.takeRefEvent .a .missing).rrx = _ := same.trans told
    obtain ⟨-, -, -, candidate, -⟩ := m.rrx.setSrc_sameFrame .a d sel rev (m.setSrc .a d).dsc.state
      ((m.setSrc .a d).sourceMoved .a (m.rrx.src .a).state).dsc.state
    rw [rrx]
    exact candidate
  rw [State.takeMissing]
  split
  · rfl
  · exact taken _

/-- The deferred missing samples are as many MISSING_SAMPLE commands (R29). -/
theorem State.takeDeferredMissing_leaves (mark : Nat) : ∀ (fuel : Nat) (v : State), v.rrx.candidate = none →
    ∃ k, k ≤ fuel ∧ (v.takeDeferredMissing mark fuel).rrx.candidate = none
      ∧ ExecAll (List.replicate k (.missingSample .a)) v (v.takeDeferredMissing mark fuel)
      ∧ (∀ j w, j < k → ExecAll (List.replicate j (.missingSample .a)) v w → Deferred mark w w.rrx.srcA.nextMissing)
      ∧ (k < fuel → ¬ Deferred mark (v.takeDeferredMissing mark fuel)
          (v.takeDeferredMissing mark fuel).rrx.srcA.nextMissing)
  | 0, v, hc => ⟨0, Nat.le_refl 0, hc, rfl, fun _ _ h => absurd h (Nat.not_lt_zero _), fun h => absurd h (Nat.lt_irrefl 0)⟩
  | fuel + 1, v, hc => by
    rw [State.takeDeferredMissing]
    by_cases h : Deferred mark v v.rrx.srcA.nextMissing
    · rw [if_pos (deferred_iff.2 h)]
      have first := exec_missing_deferred hc h
      obtain ⟨k, hk, candidate, run, each, rest⟩ :=
        State.takeDeferredMissing_leaves mark fuel (v.takeMissing .a) (v.takeMissing_candidate.trans hc)
      refine ⟨k + 1, Nat.succ_le_succ hk, candidate, ⟨_, first, run⟩, fun j w hj hw => ?_, fun h' => rest (Nat.lt_of_succ_lt_succ h')⟩
      cases j with
      | zero => rw [show w = v from hw]; exact h
      | succ j =>
        obtain ⟨m, hm, hw⟩ := hw
        cases first.symm.trans hm
        exact each j w (Nat.lt_of_succ_lt_succ hj) hw
    · rw [if_neg (mt deferred_iff.1 h)]
      exact ⟨0, Nat.zero_le _, hc, rfl, fun _ _ h' => absurd h' (Nat.not_lt_zero _), fun _ => h⟩

/-- With no instant deferred a discard takes none (R29). -/
theorem State.takeDeferred_none (hm : ¬ Deferred mark left left.rrx.srcA.nextMissing) (ha : ¬ Deferred mark left left.rrx.srcA.absentAt) :
    left.takeDeferred mark = left := by
  have missing : left.takeDeferredMissing mark 7 = left := if_neg (mt deferred_iff.1 hm)
  rw [State.takeDeferred, missing]
  exact if_neg (mt deferred_iff.1 ha)

/-- A command that discards the candidate takes what it deferred (R29). -/
theorem DiscardLeaves.of_takeDeferred {c : Instr} (hc : left.rrx.candidate = none) (h : exec c s = .next (left.takeDeferred mark)) :
    DiscardLeaves c mark s left := by
  refine ⟨fun hm ha => h.trans (congrArg _ (State.takeDeferred_none hm ha)), ?_⟩
  obtain ⟨k, hk, candidate, run, each, rest⟩ := State.takeDeferredMissing_leaves mark 7 left hc
  rw [State.takeDeferred] at h
  generalize left.takeDeferredMissing mark 7 = u at *
  refine ⟨k, u, _, h, hk, run, each, rest, fun ha => ?_, fun ha => if_neg (mt deferred_iff.1 ha)⟩
  rw [if_pos (deferred_iff.2 ha)]
  exact exec_absent_deferred candidate ha

/-! ### The receiver after a discard (R20, R22 to R24) -/

/-- The receiver after a discard but for a break: counted, the candidate forgotten, and in SYNC the third one back to HUNT. -/
theorem Receiver.discarded_eq (r : Receiver) (h : why ≠ .brk) :
    let third := r.state = .sync ∧ 2 ≤ r.discards
    r.discarded why = { r with
      countA := r.countA.discard why, candidate := none, prevChar := none
      state := if third then .hunt else r.state
      discards := if r.state = .hunt then r.discards else if third then 0 else r.discards + 1 } := by
  intro third
  rw [Receiver.discarded, if_neg h]
  cases r with | mk state begun prevChar candidate lastSeq lastFrame srcClass discards srcA srcB selection revert countA countB =>
  cases state with
  | hunt => rfl
  | sync =>
    by_cases many : 3 ≤ discards + 1
    · have yes : third := ⟨rfl, Nat.le_of_succ_le_succ many⟩
      rw [if_pos yes, if_pos yes]
      exact if_pos many
    · have no : ¬ third := fun h => many (Nat.succ_le_succ h.2)
      rw [if_neg no, if_neg no]
      exact if_neg many

theorem Receiver.discarded_brk (r : Receiver) : r.discarded .brk = { r with
    countA := r.countA.discard .brk, begun := none, candidate := none, prevChar := none, state := .hunt, discards := 0 } := rfl

theorem Receiver.discarded_candidate (r : Receiver) (why : Discard) : (r.discarded why).candidate = none := by
  by_cases h : why = .brk
  · rw [h, Receiver.discarded_brk]
  · rw [r.discarded_eq h]

/-- The judgement of a complete frame, in its order (R22). -/
theorem State.judgeFrame_cases (s : State) (mark : Latch) (m : StationMessage) (check : BitVec 16) :
    let good := check = crc16 m.covered
    let known := m.sourceId ≠ 0 ∧
      (s.cfg.refaId = 255 ∨ s.cfg.refaId ≠ 255 ∧ s.cfg.refaMatchHigh = false ∧ m.sourceId.toNat = s.cfg.refaId
        ∨ s.cfg.refaId ≠ 255 ∧ s.cfg.refaMatchHigh = true ∧ m.sourceId.toNat / 16 = s.cfg.refaId / 16)
    let fresh := s.rrx.lastSeq ≠ some m.sequence
    (¬ good → s.judgeFrame mark m check = some .check) ∧ (good → ¬ known → s.judgeFrame mark m check = some .ident)
      ∧ (good → known → ¬ fresh → s.judgeFrame mark m check = some .repeated)
      ∧ (good → known → fresh → s.tsc.epoch ≠ mark.epoch → s.judgeFrame mark m check = some .stale)
      ∧ (good → known → fresh → s.tsc.epoch = mark.epoch → s.judgeFrame mark m check = none) := by
  intro good known fresh
  have ident : (m.sourceId = 0 ∨ idMatches s.cfg m.sourceId = false) ↔ ¬ known := by
    have matched : idMatches s.cfg m.sourceId = true ↔
        (s.cfg.refaId = 255 ∨ s.cfg.refaId ≠ 255 ∧ s.cfg.refaMatchHigh = false ∧ m.sourceId.toNat = s.cfg.refaId
          ∨ s.cfg.refaId ≠ 255 ∧ s.cfg.refaMatchHigh = true ∧ m.sourceId.toNat / 16 = s.cfg.refaId / 16) := by
      rw [idMatches]
      by_cases any : s.cfg.refaId = 255
      · simp [any]
      · cases high : s.cfg.refaMatchHigh <;> simp [any]
    rw [not_and_or, not_not, ← matched, Bool.not_eq_true]
  rw [State.judgeFrame]
  refine ⟨fun h => if_pos h, fun h hk => ?_, fun h hk hf => ?_, fun h hk hf he => ?_, fun h hk hf he => ?_⟩
  · rw [if_neg (not_not_intro h), if_pos (ident.2 hk)]
  · rw [if_neg (not_not_intro h), if_neg (mt ident.1 (not_not_intro hk)), if_pos (not_not.1 hf)]
  · rw [if_neg (not_not_intro h), if_neg (mt ident.1 (not_not_intro hk)), if_neg hf, if_pos he]
  · rw [if_neg (not_not_intro h), if_neg (mt ident.1 (not_not_intro hk)), if_neg hf, if_neg (not_not_intro he)]

/-- A discarded frame (R22). -/
theorem DiscardLeaves.of_frame {mark : Latch} {m : StationMessage} {check : BitVec 16} {c : Instr} (h : FrameArrives mark m check c s)
    (hw : s.judgeFrame mark m check = some why) : DiscardLeaves c mark.e s (s.ended.setRrx (s.ended.rrx.discarded why)) := by
  have judged : s.ended.judgeFrame mark m check = some why := hw
  refine DiscardLeaves.of_takeDeferred ?_ (h.exec.trans ?_)
  · exact s.ended.rrx.discarded_candidate why
  · rw [State.takeFrame, judged]
    rfl

/-- A sync pair whose mark the window or its age refuses is MISTIMED (R2, R21). -/
theorem State.openCandidate_late {mark : Latch} (h : s.rrx.state = .sync ∧ ¬ s.expects mark ∨ mark.e + 50000 ≤ s.tsc.e) :
    s.openCandidate mark = s.discard .mistimed mark.e := by
  rcases s.openCandidate_cases mark with ⟨window, inTime, -⟩ | ⟨-, e⟩
  · rcases h with ⟨sync, out⟩ | late
    · exact absurd ((Receiver.inWindow_iff s mark).1 window sync) out
    · exact absurd inTime (Nat.not_lt.2 late)
  · exact e

/-- A discard reads neither the candidate, nor the previous character (R20, R22). -/
theorem State.discard_forgets (s : State) (why : Discard) (mark : Nat) (p : Option (Byte × Latch)) (c : Option Candidate) :
    (s.setRrx { s.rrx with begun := none, prevChar := p, candidate := c }).discard why mark
      = (s.ended.setRrx (s.ended.rrx.discarded why)).takeDeferred mark := rfl

/-- Settles O46: every discard is one of `discarded_eq`, and takes what the candidate deferred. -/
theorem discardedCandidatesAreCounted : Obligations.DiscardedCandidatesAreCounted := by
  unfold Obligations.DiscardedCandidatesAreCounted
  intro left broken ended
  have leftIs (s : State) (why : Discard) (h : why ≠ .brk) :
      s.setRrx (s.rrx.discarded why) = left s (s.rrx.countA.discard why) := congrArg s.setRrx (s.rrx.discarded_eq h)
  have gone (s : State) (why : Discard) : (s.setRrx (s.rrx.discarded why)).rrx.candidate = none := s.rrx.discarded_candidate why
  have late (s : State) : s.ended.setRrx (s.ended.rrx.discarded .mistimed)
      = left (ended s) { s.rrx.countA with mistimed := min (s.rrx.countA.mistimed + 1) 65535 } := leftIs s.ended .mistimed (by decide)
  refine ⟨fun mark m check c s h => ?_, fun mark s h hc => ⟨fun stopHigh hb hp => ?_, fun m check hb hm => ?_⟩, fun s c hc hq => ?_,
    fun s hc => ?_, fun v stopHigh s c hc hb past => ?_, fun s c hc => ?_, fun s hc => ?_⟩
  · intro k good known fresh discards
    obtain ⟨check', ident, repeated, stale, -⟩ := s.judgeFrame_cases mark m check
    have out (why : Discard) (hw : why ≠ .brk) (hj : s.judgeFrame mark m check = some why) :
        discards (s.rrx.countA.discard why) := by
      have leaves := DiscardLeaves.of_frame h hj
      rw [leftIs s.ended why hw] at leaves
      exact leaves
    exact ⟨fun h1 => out .check (by decide) (check' h1), fun h1 h2 => out .ident (by decide) (ident h1 h2),
      fun h1 h2 h3 => out .repeated (by decide) (repeated h1 h2 h3),
      fun h1 h2 h3 h4 => out .stale (by decide) (stale h1 h2 h3 h4)⟩
  · obtain ⟨l, hl⟩ := Option.isSome_iff_exists.1 hb
    rw [← late s]
    refine DiscardLeaves.of_takeDeferred (gone s.ended .mistimed) (congrArg Host.Outcome.next ?_)
    have search := ((completeChar_cases 0x3C s).2.1 l hl hc).trans ((searchPair_cases s.rrx.prevChar 0x3C _).2 mark rfl hp)
    refine search.trans ((State.openCandidate_late (s := s.charTaken 0x3C l) h).trans ?_)
    exact s.discard_forgets .mistimed mark.e (some (0x3C, l)) s.rrx.candidate
  · have none' : s.ended.setRrx (s.ended.rrx.discarded .mistimed) = (s.ended.setRrx (s.ended.rrx.discarded .mistimed)).takeDeferred mark.e := by
      have now (at' : Option Nat) : ¬ Deferred mark.e (s.ended.setRrx (s.ended.rrx.discarded .mistimed)) at' := by
        rintro ⟨x, -, reached, after⟩
        rw [hm] at after
        exact absurd reached (Nat.not_le.2 after)
      exact (State.takeDeferred_none (now _) (now _)).symm
    have pair : forAll [0xC3, 0x3C] State.takeChar s = s.ended.setRrx (s.ended.rrx.discarded .mistimed) := by
      have hm' : mark = s.latch := hm
      rw [State.takeSyncPair hb hc, ← hm', none']
      exact (State.openCandidate_late (s := (s.charTaken 0xC3 mark).charTaken 0x3C mark) h).trans
        (s.discard_forgets .mistimed mark.e (some (0x3C, mark)) s.rrx.candidate)
    rw [← late s, ← pair]
    have whole : forAll (m.characters check) State.takeChar s
        = forAll (m.bytes check) State.takeChar (forAll [0xC3, 0x3C] State.takeChar s) := forAll_append [0xC3, 0x3C] (m.bytes check) _ s
    exact ⟨_, congrArg Host.Outcome.next whole, execAll_characterMoments (m.bytes check) _⟩
  · intro l
    have instant : TimedEvent.instant s .candidateTimeout = some (c.mark.e + 50000) := by
      show s.rrx.candidate.map _ = _
      rw [hc]; rfl
    have outcome : l.setRrx (l.rrx.discarded .mistimed)
        = left l { s.rrx.countA with mistimed := min (s.rrx.countA.mistimed + 1) 65535 } := leftIs l .mistimed (by decide)
    rw [← outcome]
    refine DiscardLeaves.of_takeDeferred (gone l .mistimed) (congrArg Host.Outcome.next ?_)
    have waits : s.await .candidateTimeout (TimedEvent.instant s .candidateTimeout) = l.candidateLate :=
      await_instant instant hq
    refine waits.trans ?_
    have hl : l.rrx.candidate = some c := hc
    rw [State.candidateLate, hl]
    rfl
  · have instant : TimedEvent.instant s .candidateTimeout = none := by
      show s.rrx.candidate.map _ = _
      rw [hc]; rfl
    exact congrArg Host.Outcome.next (await_of_none instant)
  · obtain ⟨l, hl⟩ := Option.isSome_iff_exists.1 hb
    rw [← late s]
    refine DiscardLeaves.of_takeDeferred (gone s.ended .mistimed) (congrArg Host.Outcome.next ?_)
    have append := ((completeChar_cases v s).2.2 l c hl hc).trans (((s.charTaken v l).appendChar_cases c v).1 past)
    exact append.trans (s.discard_forgets .mistimed c.mark.e (some (v, l)) s.rrx.candidate)
  · refine DiscardLeaves.of_takeDeferred (left := broken s) rfl ?_
    show execRefaBreak s = _
    rw [execRefaBreak, hc]
    rfl
  · show execRefaBreak s = _
    rw [execRefaBreak, hc]
    rfl

end Sys2Proof.Machine

/-! PROOFS. O5: the power-on reset, block by block (R17, R41, R61, R71, R91, R112, R130, R168, R172, R181, R196). -/

namespace Sys2Proof.Machine

variable {s t m : State}

/-! ### Flags that a change does not touch (R193) -/

/-- Every flag but those of these notices stands as it was. -/
def FlagsStand (vs : List Notice) (s t : State) : Prop :=
  ∀ v : Notice, v ∉ vs → t.ntc.flags.getLsbD v.index = s.ntc.flags.getLsbD v.index

theorem FlagsStand.trans {vs : List Notice} (h : FlagsStand vs s m) (h' : FlagsStand vs m t) : FlagsStand vs s t :=
  fun v hv => (h' v hv).trans (h v hv)

theorem FlagsStand.of_eq {vs : List Notice} (h : t.ntc = s.ntc) : FlagsStand vs s t := fun v _ => by rw [h]

theorem FlagsStand.hand {vs : List Notice} (s : State) {w : Notice} (hw : w ∈ vs) (b : Bool) : FlagsStand vs s (s.hand w b) := by
  intro v hv
  have other : decide (v = w) = false := decide_eq_false fun h => hv (h ▸ hw)
  exact (NoticeUnit.hand_flag _ w v b _).trans (by rw [other, Bool.and_false, Bool.or_false])

theorem FlagsStand.place {vs : List Notice} (hl : .queueLevel ∈ vs) (hq : .queueLoss ∈ vs) (s : State) (p : Placement) :
    FlagsStand vs s (s.place p) := by
  intro v hv
  have level : decide (v = .queueLevel) = false := decide_eq_false fun h => hv (h ▸ hl)
  have loss : decide (v = .queueLoss) = false := decide_eq_false fun h => hv (h ▸ hq)
  obtain ⟨b, e | e⟩ := s.place_ntc p
  · rw [e, NoticeUnit.hand_flag, level, Bool.and_false, Bool.or_false]
  · rw [e, NoticeUnit.hand_flag, level, Bool.and_false, Bool.or_false, NoticeUnit.raise_flag, loss, Bool.or_false]

theorem FlagsStand.evalMaintenance {vs : List Notice} (hl : .queueLevel ∈ vs) (hq : .queueLoss ∈ vs) (hm : .maintDue ∈ vs) (s : State)
    (u : Nat) : FlagsStand vs s (s.evalMaintenance u) := by
  have set (x : Tally) : FlagsStand vs s (s.setTally u x) := .of_eq rfl
  simp only [State.evalMaintenance]
  split_ifs
  · exact (set _).trans (.place hl hq _ _)
  · exact set _
  · exact ((set _).trans (.place hl hq _ _)).trans (.hand _ hm _)
  · exact (set _).trans (.hand _ hm _)

theorem FlagsStand.evalAll {vs : List Notice} (hl : .queueLevel ∈ vs) (hq : .queueLoss ∈ vs) (hm : .maintDue ∈ vs) (s : State) :
    FlagsStand vs s s.evalAll :=
  forAll_keeps (FlagsStand vs s) _ _ (fun u _ t h => h.trans (.evalMaintenance hl hq hm t u)) s (.of_eq rfl)

/-! ### Every unit evaluated (R135) -/

theorem State.evalAll_unit (s : State) {u : Nat} (hu : 1 ≤ u ∧ u ≤ 8) :
    s.evalAll.unit u = (s.unit u).evaluated (s.unitCfg u) s.tsc.e := by
  obtain ⟨hit, -, -⟩ := forAll_units (s := s) (us := numbers 8) (by decide) (f := State.evalMaintenance)
    (P := Unchanged (.tlu :: Part.recording) s) (Q := fun v x => x = (s.unit v).evaluated (s.unitCfg v) s.tsc.e)
    (fun v _ t ht => ht.trans (evalMaintenance_unchanged t (by decide) (by decide) _))
    (fun v hv t w hw => (t.evalMaintenance_unit_eq v w ((mem_numbers 8 v).1 hv)).trans (if_neg hw))
    (fun v hv t ht same => by
      rw [t.evalMaintenance_unit_eq v v ((mem_numbers 8 v).1 hv), if_pos rfl, same, ht.unitCfg_eq (by decide) v,
        ht.tsc_eq (by decide) (by decide) (by decide) (by decide)])
    (Unchanged.refl _ _)
  exact hit u ((mem_numbers 8 u).2 hu)

/-- The flag of an evaluated unit is right where its settings and its clock are (R134). -/
theorem GenUnit.evaluated_due {g : GenUnit} {u : Nat} (hu : t.unit u = g.evaluated (t.unitCfg u) t.tsc.e) :
    (t.unit u).tally.due = true ↔ (t.unit u).tally.limit ≤ t.eoh u := by
  have eoh : t.eoh u = g.eoh (t.unitCfg u) t.tsc.e := by
    rw [State.eoh, hu, GenUnit.eoh_evaluated]
  rw [eoh, hu]
  exact decide_eq_true_iff

theorem Appends.evalAll (s : State) : Appends 8 [] s s.evalAll :=
  (Appends.overAll (State.evalMaintenance) (fun _ => []) Appends.evalMaintenance (numbers 8) s).mono (by decide) (List.nil_subset _)

theorem ShiftBooked.evalAll (s : State) : ShiftBooked s s.evalAll :=
  forAll_keeps (ShiftBooked s) _ _ (fun u _ t h => h.trans (.evalMaintenance u t)) s (.of_eq rfl)

/-! ### The end of the load (R141, R172 steps 3 and 4, R179) -/

/-- What follows the shift at a power-on: the RESTART record, the evaluations, the judgement and HOLDUP. -/
def State.started (s : State) (judged : StoreState) (holdup : Bool) : State :=
  (((s.place { detail := .restart true judged }).bootEvaluate).raiseIfCorrupt).sampleHoldup holdup

theorem State.raiseIfCorrupt_leaves (s : State) :
    s.raiseIfCorrupt.shu = s.shu ∧ s.raiseIfCorrupt.tlu = s.tlu ∧ s.raiseIfCorrupt.evq = s.evq ∧ s.raiseIfCorrupt.stc = s.stc
      ∧ Unchanged [.ntc] s s.raiseIfCorrupt
      ∧ ∀ v : Notice, s.raiseIfCorrupt.ntc.flags.getLsbD v.index
          = (s.ntc.flags.getLsbD v.index || decide (s.stc.state = .corrupt ∧ v = .storeFail)) := by
  rw [State.raiseIfCorrupt]
  split
  next h =>
    refine ⟨rfl, rfl, rfl, rfl, raise_unchanged s (by decide) _, fun v => (NoticeUnit.raise_flag _ .storeFail v _).trans ?_⟩
    simp only [h, true_and]
  next h =>
    refine ⟨rfl, rfl, rfl, rfl, Unchanged.refl _ _, fun v => ?_⟩
    simp only [h, false_and, decide_false, Bool.or_false]

theorem State.started_leaves (s : State) (judged : StoreState) (holdup : Bool) :
    let t := s.started judged holdup
    Unchanged (.tlu :: .stc :: Part.recording) s t ∧ ShiftBooked s t ∧ t.stc = { s.stc with holdup := holdup }
      ∧ (∀ u, 1 ≤ u → u ≤ 8 → t.unit u = (s.unit u).evaluated (s.unitCfg u) s.tsc.e)
      ∧ (s.evq.records = [] → s.evq.nextSeq = some 0 → t.evq.records.head? = some
          { seq := 0, detail := .restart true judged, injected := false, delivered := false, station := false, source := 0
            date := s.dateNow })
      ∧ (s.ntc.flags.getLsbD 8 = true → t.ntc.flags.getLsbD 8 = true)
      ∧ t.ntc.flags.getLsbD 7 = (s.ntc.flags.getLsbD 7 || decide (s.stc.state = .corrupt))
      ∧ t.ntc.conditions.getLsbD 12 = holdup := by
  intro t
  let p : Placement := { detail := .restart true judged }
  have placed : Unchanged Part.recording s (s.place p) := place_unchanged s (List.Subset.refl _) p
  have first := State.place_evq_of_room (s := s) (n := 0) p
  have flags7 : FlagsStand [.queueLevel, .queueLoss, .maintDue, .supplyLow] s (s.place p) := .place (by decide) (by decide) s p
  have flags8 : NoticesLeft [.queueLevel, .maintDue, .supplyLow] s (s.place p) := .place (by decide) s p
  have booked : ShiftBooked s (s.place p) := .place s p
  have unit (u : Nat) : (s.place p).unit u = s.unit u := by rw [State.unit, State.place_tlu]; rfl
  have stc := s.place_stc p
  have date : s.recordOf p = { seq := 0, detail := .restart true judged, injected := false, delivered := false, station := false
                               source := 0, date := s.dateNow } := rfl
  have ht : t = ((((s.place p).bootEvaluate).raiseIfCorrupt).sampleHoldup holdup) := rfl
  generalize s.place p = a at *
  have evaluated : Unchanged (.tlu :: Part.recording) a a.evalAll := evalAll_unchanged a (by decide) (by decide)
  have units (u : Nat) (hu : 1 ≤ u ∧ u ≤ 8) := a.evalAll_unit hu
  have flags7' : FlagsStand [.queueLevel, .queueLoss, .maintDue, .supplyLow] a a.evalAll := .evalAll (by decide) (by decide) (by decide) a
  have flags8' : NoticesLeft [.queueLevel, .maintDue, .supplyLow] a a.evalAll :=
    forAll_keeps (NoticesLeft [.queueLevel, .maintDue, .supplyLow] a) _ _
      (fun u _ x h => h.trans (.evalMaintenance (by decide) (by decide) x u)) a (.refl _ a)
  have records := Appends.evalAll a
  have booked' := ShiftBooked.evalAll a
  rw [State.bootEvaluate] at ht
  generalize a.evalAll = b at *
  have flags7'' : FlagsStand [.queueLevel, .queueLoss, .maintDue, .supplyLow] b (b.hand .maintDue b.someDue) := .hand b (by decide) _
  have flags8'' : NoticesLeft [.queueLevel, .maintDue, .supplyLow] b (b.hand .maintDue b.someDue) := .hand b (by decide) _
  have handed : Unchanged [.ntc] b (b.hand .maintDue b.someDue) := hand_unchanged b (by decide) _ _
  have same : (b.hand .maintDue b.someDue).shu = b.shu ∧ (b.hand .maintDue b.someDue).tlu = b.tlu
    ∧ (b.hand .maintDue b.someDue).evq = b.evq ∧ (b.hand .maintDue b.someDue).stc = b.stc := ⟨rfl, rfl, rfl, rfl⟩
  generalize b.hand .maintDue b.someDue = c at *
  obtain ⟨shu, tlu, evq, stcd, raised, flag⟩ := c.raiseIfCorrupt_leaves
  generalize c.raiseIfCorrupt = d at *
  have sampled : Unchanged [.stc, .ntc] d t := ht ▸ (setStc_unchanged d (by decide) _).trans (hand_unchanged _ (by decide) _ _)
  have last (v : Notice) : v ∉ [.queueLevel, .queueLoss, .maintDue, .supplyLow] →
      t.ntc.flags.getLsbD v.index = d.ntc.flags.getLsbD v.index := by
    rw [ht]
    exact FlagsStand.hand (vs := [.queueLevel, .queueLoss, .maintDue, .supplyLow]) (d.setHoldup holdup) (by decide) holdup v
  have corrupt : c.stc.state = s.stc.state := by
    rw [same.2.2.2, evaluated .stc (by decide), stc]
  refine ⟨?_, ?_, ?_, fun u h1 h8 => ?_, fun empty next => ?_, fun h => ?_, ?_, ?_⟩
  · exact ((((placed.mono (by decide)).trans (evaluated.mono (by decide))).trans (handed.mono (by decide))).trans
      (raised.mono (by decide))).trans (sampled.mono (by decide))
  · exact (booked.trans booked').trans (.of_eq ((congrArg State.shu ht).trans (shu.trans same.1)))
  · have held : t.stc = { d.stc with holdup := holdup } := by rw [ht]; rfl
    rw [held, stcd, same.2.2.2, evaluated .stc (by decide), stc]
  · have kept : t.unit u = b.unit u := by
      rw [State.unit, State.unit, ← same.2.1, ← tlu, ht]
      rfl
    rw [kept, units u ⟨h1, h8⟩, unit, placed.unitCfg_eq (by decide) u,
      placed.tsc_eq (by decide) (by decide) (by decide) (by decide)]
  · have here := first next (by rw [empty]; exact Nat.zero_le _)
    have one : a.evq.records = [s.recordOf p] := by rw [here, EventQueue.append, empty]; rfl
    have after : a.evq.nextSeq = some 1 := by rw [here]; rfl
    obtain ⟨added, e, -⟩ := records 1 after (by rw [one, List.length_singleton]; decide) (by decide)
    have kept : t.evq = b.evq := by rw [← same.2.2.1, ← evq, ht]; rfl
    rw [kept, e, one, ← date]
    rfl
  · have up := flags8''.1 .restarted (flags8'.1 .restarted (flags8.1 .restarted h))
    refine (last .restarted (by decide)).trans ((flag .restarted).trans ?_)
    rw [up, Bool.true_or]
  · refine (last .storeFail (by decide)).trans ((flag .storeFail).trans ?_)
    rw [flags7'' .storeFail (by decide), flags7' .storeFail (by decide), flags7 .storeFail (by decide), corrupt]
    simp only [and_true]
    rfl
  · rw [ht]
    exact (NoticeUnit.hand_condition _ .supplyLow .supplyLow _ _).trans (if_pos rfl)

/-! ### The units and the shift at power-on (R130, R168) -/

/-- A unit as the power-on reset leaves it before its evaluation (R130). -/
def State.booted (s : State) (u : Nat) : GenUnit :=
  { s.unit u with
    mode := s.deriveMode u, entry := 0, entryDate := s.dateNow, ecp := if s.deriveMode u = .none then none else some 0
    timer := if s.deriveMode u = .indet then .running ((s.unitCfg u).discrepDelay * 1000000) else .stopped }

theorem State.bootUnits_leaves (s : State) :
    (∃ x, forAll (numbers 8) State.bootUnit s = s.setTlu x)
      ∧ ∀ u, 1 ≤ u → u ≤ 8 → (forAll (numbers 8) State.bootUnit s).unit u = s.booted u := by
  obtain ⟨hit, -, kept⟩ := forAll_units (s := s) (us := numbers 8) (by decide) (f := State.bootUnit)
    (P := fun t => ∃ x, t = s.setTlu x) (Q := fun v x => x = s.booted v)
    (fun v _ t ⟨x, ht⟩ => by rw [ht]; exact ⟨_, rfl⟩)
    (fun v hv t w hw => (t.unit_setUnit v w _ ((mem_numbers 8 v).1 hv)).trans (if_neg hw))
    (fun v hv t ⟨x, ht⟩ same => by
      have derived : t.deriveMode v = s.deriveMode v := State.deriveMode_congr (by rw [ht]; rfl) (by rw [ht]; rfl) v
      have date : t.dateNow = s.dateNow := by rw [ht]; rfl
      have settings : t.unitCfg v = s.unitCfg v := by rw [ht]; rfl
      rw [State.bootUnit, t.unit_setUnit v v _ ((mem_numbers 8 v).1 hv), if_pos rfl, derived, date, same, settings]
      rfl)
    ⟨s.tlu, rfl⟩
  exact ⟨kept, fun u h1 h8 => hit u ((mem_numbers 8 u).2 ⟨h1, h8⟩)⟩

/-- The shift of a loaded image is closed as INTERRUPTED, and the next one opens with its crew (R150, R168). -/
theorem State.bootShift_leaves (s : State) (loaded : Bool) :
    (∃ x, s.bootShift loaded = s.setShu x ∧ x.schedule = s.shu.schedule ∧ x.state = s.shu.state ∧ x.expected = s.shu.expected
        ∧ x.release = s.shu.release ∧ x.accept = s.shu.accept ∧ x.window = s.shu.window ∧ x.openTrips = s.shu.openTrips
        ∧ x.overflow = s.shu.overflow ∧ x.current.crew = s.shu.current.crew)
      ∧ (loaded = false → s.bootShift loaded = s)
      ∧ (loaded = true → s.shu.current.number < 4294967295 →
          (s.bootShift loaded).shu.current.number = s.shu.current.number + 1
            ∧ (s.bootShift loaded).shu.history = ({ s.shu.current with kind := .interrupted, nextCrew := s.shu.current.crew, duration := 0 }
                :: s.shu.history).take 16) := by
  cases loaded with
  | false => exact ⟨⟨s.shu, rfl, rfl, rfl, rfl, rfl, rfl, rfl, rfl, rfl, rfl⟩, fun _ => rfl, fun h => (nomatch h)⟩
  | true =>
    simp only [State.bootShift, if_true]
    generalize hm : s.setShu _ = m
    have number : m.shu.current.number = s.shu.current.number := by rw [← hm]; rfl
    refine ⟨?_, fun h => (nomatch h), fun _ below => ?_⟩
    · rw [State.openShift]
      split
      · rw [← hm]; exact ⟨_, rfl, rfl, rfl, rfl, rfl, rfl, rfl, rfl, rfl, rfl⟩
      · rw [← hm]; exact ⟨_, rfl, rfl, rfl, rfl, rfl, rfl, rfl, rfl, rfl, rfl⟩
    · obtain ⟨shu, -⟩ := m.openShift_leaves s.shu.current.crew
      have before : ¬ max32 ≤ m.shu.current.number := by rw [number]; exact Nat.not_le.2 below
      rw [shu, ShiftUnitState.nextNumber, if_neg before, if_neg before, number, ← hm]
      exact ⟨rfl, rfl⟩

/-! ### The judgement of the image (R170, R171) -/

/-- The judgement of a store, as R171 writes it. -/
theorem Store.judge_eq (store : Store) : store.judge = match store with
    | .erased => .blank
    | .broken => .corrupt
    | .holds x => if x.format = 0x32 ∧ x.check = crc16 (x.format :: Config.imageBytes x.image) then .valid else .corrupt := by
  cases store with
  | erased => rfl
  | broken => rfl
  | holds x =>
    rw [Store.judge]
    by_cases h : x.format = 0x32 ∧ x.check = crc16 (x.format :: Config.imageBytes x.image)
    · rw [if_neg (by rw [not_or, not_not, not_not]; exact h)]
      exact (if_pos h).symm
    · rw [if_pos (by rw [← not_and_or]; exact h)]
      exact (if_neg h).symm

theorem Store.load_cases (store : Store) :
    (∀ x, store.judge = .valid → store = .holds x → store.load = some x.image) ∧ (store.judge ≠ .valid → store.load = none) := by
  refine ⟨fun x h hs => ?_, fun h => ?_⟩
  · rw [hs] at h ⊢
    exact if_pos h
  · cases store with
    | erased => rfl
    | broken => rfl
    | holds x => exact if_neg h

theorem nth_map {α β : Type} [Inhabited α] [Inhabited β] {k : Nat} (f : α → β) (v : Vector α k) {i : Nat} (h : 1 ≤ i ∧ i ≤ k) :
    nth (v.map f) i = f (nth v i) := by
  rw [nth_eq_getElem _ _ h, nth_eq_getElem _ _ h, Vector.getElem_map]

/-- A line as the reset samples it (R91). -/
theorem State.line_of_sampled {pins : BitVec 32} (lqu : t.lqu = sampledLines pins t.cfg) {i : Nat} (h : 1 ≤ i ∧ i ≤ 32) :
    t.line i = sampledLine (pins.getLsbD (i - 1)) (t.lineCfg i) := by
  rw [State.line, lqu, sampledLines, nth_ofFn _ _ h, State.lineCfg, nth_eq_getElem t.cfg.lines _ h]
  rfl

/-- A sampled line of the part (R91). -/
theorem State.line_sampled_leaves {pinHigh : Bool} {i : Nat} (line : t.line i = sampledLine pinHigh (t.lineCfg i)) :
    (t.line i).pinHigh = pinHigh ∧ (t.line i).pending = none ∧ (t.line i).quiet = none ∧ (t.line i).recent = []
      ∧ (t.line i).bounce = 0
      ∧ ((t.lineCfg i).kind ≠ .unused → (t.line i).state = .steady ∧ (t.line i).filtered = t.lineLevel i
          ∧ (t.line i).effective = t.lineLevel i) := by
  rw [State.lineLevel, line]
  refine ⟨rfl, rfl, rfl, rfl, rfl, fun used => ?_⟩
  simp only [sampledLine, if_neg used, and_self]

/-- The tally that a unit has from a loaded image (R130, R172). -/
theorem State.powerOnValues_tally (s : State) (straps : BitVec 2) (pins : BitVec 32) {store : Store} {img : Image}
    (load : store.load = some img) {u : Nat} (h : 1 ≤ u ∧ u ≤ 8) :
    ((s.powerOnValues straps pins store).booted u).tally = nth img.tallies u := by
  show (nth (TallyUnit.powerOn store.load).units u).tally = _
  rw [load, TallyUnit.powerOn, nth_map _ _ h]
  rfl

theorem State.unit_setShu (s : State) (x : ShiftUnitState) (u : Nat) : (s.setShu x).unit u = s.unit u := rfl

/-- Settles O5: the values of power-on, and what the units, the shift and the end of the load make of them. -/
theorem powerOnRestartsThePart : Obligations.PowerOnRestartsThePart := by
  intro straps pins holdup s store judged valid
  have hj : store.judge = judged := Store.judge_eq store
  have row : exec (.powerOnReset straps pins holdup) s = .next
      (((forAll (numbers 8) State.bootUnit (s.powerOnValues straps pins store)).bootShift store.load.isSome).started store.judge holdup) := rfl
  obtain ⟨loads, sets⟩ := store.load_cases
  rw [hj] at loads sets row
  obtain ⟨⟨tlu, booted⟩, units⟩ := (s.powerOnValues straps pins store).bootUnits_leaves
  rw [booted] at row units
  obtain ⟨⟨x, boot, schedule, state, expected, release, accept, window, openTrips, overflow, crew⟩, stays, opens⟩ :=
    ((s.powerOnValues straps pins store).setTlu tlu).bootShift_leaves store.load.isSome
  rw [boot] at row stays opens
  obtain ⟨kept, ⟨bookedUnits, loss, shu⟩, stc, unit, head, flag8, flag7, cond12⟩ :=
    (((s.powerOnValues straps pins store).setTlu tlu).setShu x).started_leaves judged holdup
  have date : (((s.powerOnValues straps pins store).setTlu tlu).setShu x).dateNow = { epoch := 0, cls := 7, s := 0, us := 0 } := by
    show dateOf { s := 0, n := 0, epoch := 0, e := 0, cls := 7 } = _
    rfl
  rw [date] at head
  change x.schedule = (ShiftUnitState.powerOn store.load).schedule at schedule
  change x.openTrips = (ShiftUnitState.powerOn store.load).openTrips at openTrips
  change x.overflow = (ShiftUnitState.powerOn store.load).overflow at overflow
  change x.current.crew = (ShiftUnitState.powerOn store.load).current.crew at crew
  generalize (((s.powerOnValues straps pins store).setTlu tlu).setShu x).started judged holdup = t at *
  have tsc : t.tsc = TimeScale.powerOn store.load := kept.tsc_eq (by decide) (by decide) (by decide) (by decide)
  have dsc : t.dsc = Discipline.powerOn store.load (loadedSettings store.load).slewLimit := kept .dsc (by decide)
  have rrx : t.rrx = Receiver.reset := kept .rrx (by decide)
  have ftx : t.ftx = { enable := (loadedSettings store.load).feedEnable, sequence := 0, transmission := none } := kept .ftx (by decide)
  have lqu : t.lqu = sampledLines pins (loadedSettings store.load) := kept .lqu (by decide)
  have lkc : t.lkc = LinkController.powerOn straps := kept .lkc (by decide)
  have cfg : t.cfg = loadedSettings store.load := kept .cfg (by decide)
  rw [← cfg] at ftx lqu
  refine ⟨t, row, ?_, rrx, ?_, ftx, fun i h1 h32 => ?_, fun u h1 h8 => ?_, head rfl rfl, ?_, lkc, ?_, ?_, ?_, ?_⟩
  · rw [tsc]; exact ⟨rfl, rfl, rfl, rfl, rfl, rfl, rfl⟩
  · rw [dsc]; exact ⟨rfl, rfl, rfl, rfl, rfl, rfl, rfl, rfl, rfl, rfl⟩
  · exact State.line_sampled_leaves (State.line_of_sampled lqu ⟨h1, h32⟩)
  · have settings : t.unitCfg u = nth (loadedSettings store.load).units u := by rw [State.unitCfg, cfg]
    have now : t.tsc.e = 0 := by rw [tsc]; rfl
    have hu : t.unit u = ((s.powerOnValues straps pins store).booted u).evaluated (t.unitCfg u) t.tsc.e := by
      rw [settings, now, ← units u h1 h8]
      exact unit u h1 h8
    have derived : (t.unit u).mode = t.deriveMode u := by
      rw [hu]
      exact (State.deriveMode_congr (s := s.powerOnValues straps pins store) (lqu.trans (by rw [cfg]; rfl)) cfg u).symm
    have due := GenUnit.evaluated_due hu
    refine ⟨derived ▸ State.deriveMode_derived t u, ?_, ?_, ?_, ?_, due⟩
    · rw [hu]; rfl
    · rw [hu]; exact date
    · rw [hu]; rfl
    · rw [hu, settings]; rfl
  · rw [stc, ← hj]; exact ⟨rfl, rfl, rfl, rfl, rfl, rfl⟩
  · have restarted : (NoticeUnit.powerOn (loadedSettings store.load).noticeMask).flags.getLsbD 8 = true :=
      (by decide : Notice.restarted.bit.getLsbD 8 = true)
    have storeFail : (NoticeUnit.powerOn (loadedSettings store.load).noticeMask).flags.getLsbD 7 = false :=
      (by decide : Notice.restarted.bit.getLsbD 7 = false)
    refine ⟨flag8 restarted, flag7.trans ?_, cond12⟩
    rw [← hj]
    exact (congrArg (· || decide (store.judge = .corrupt)) storeFail).trans (Bool.false_or _)
  · rw [shu]; exact ⟨state, expected, release, accept, window⟩
  · intro y hval hy img
    have load := loads y hval hy
    rw [load] at cfg tsc schedule openTrips overflow crew
    have below (h : img.current.number < 4294967295) : x.current.number = img.current.number + 1
        ∧ x.history = ({ img.current with kind := .interrupted, nextCrew := img.current.crew, duration := 0 } :: img.history).take 16 := by
      have loaded : ((s.powerOnValues straps pins store).setTlu tlu).shu = ShiftUnitState.powerOn (some img) :=
        congrArg ShiftUnitState.powerOn load
      rw [loaded] at opens
      exact opens (by rw [load]; rfl) h
    refine ⟨cfg, by rw [tsc]; rfl, by rw [shu]; exact schedule, by rw [shu]; exact openTrips, by rw [shu]; exact overflow, fun h => ?_,
      by rw [shu]; exact crew, fun u h1 h8 => ?_⟩
    · obtain ⟨number, history⟩ := below h
      rw [shu]
      refine ⟨number, ?_, ?_⟩
      · show x.history.length = _
        rw [history, List.length_take, List.length_cons, Nat.min_comm]
      · show x.history.head? = _
        rw [history]
        rfl
    · have tally : ((s.powerOnValues straps pins store).booted u).tally = nth img.tallies u :=
        (State.powerOnValues_tally s straps pins load ⟨h1, h8⟩)
      rw [unit u h1 h8, State.unit_setShu, units u h1 h8]
      simp only [GenUnit.evaluated, tally, and_self]
  · intro hval
    have load := sets hval
    have same : x = ((s.powerOnValues straps pins store).setTlu tlu).shu := congrArg State.shu (stays (by rw [load]; rfl))
    have empty : x = ShiftUnitState.powerOn none := same.trans (congrArg ShiftUnitState.powerOn load)
    rw [load] at cfg tsc dsc
    rw [cfg, tsc, dsc, shu, State.setShu_shu, empty]
    exact ⟨rfl, rfl, rfl, rfl, rfl, rfl, rfl, rfl, rfl⟩

end Sys2Proof.Machine

/-! PROOFS. What a fired boundary leaves of STC: at most a SHIFT save begun with its snapshot (R149, R155, R173, R174). -/

namespace Sys2Proof.Machine

variable {s t m : State}

/-- STC stands as before, or with a SHIFT save begun whose snapshot holds the settings in force (R149 step 5). -/
def ShiftAsked (s t : State) : Prop :=
  t.stc = s.stc ∨ ∃ f x, t.stc = { s.stc with inFlight := some f } ∧ f.trigger = .shift ∧ f.snapshot = some x
    ∧ x.image.cfg = s.cfg

theorem ShiftAsked.congr (h : ShiftAsked m t) (stc : m.stc = s.stc) (cfg : m.cfg = s.cfg) : ShiftAsked s t := by
  rwa [ShiftAsked, stc, cfg] at h

/-- Whether a SHIFT save has been begun or not, the store and its judgement stand, and so does what waits. -/
theorem ShiftAsked.stands (h : ShiftAsked s t) : t.stc.store = s.stc.store ∧ t.stc.state = s.stc.state
    ∧ t.stc.holdup = s.stc.holdup ∧ t.stc.queued = s.stc.queued ∧ t.stc.lastEnd = s.stc.lastEnd := by
  rcases h with h | ⟨f, x, h, -⟩ <;> rw [h] <;> exact ⟨rfl, rfl, rfl, rfl, rfl⟩

/-! ### The close of a shift (R149) -/

theorem State.shiftOpened_stc (s : State) (free : s.stc.inFlight = none) (kind : ShiftKind) (event : ShiftEvent)
    (crew duration : Nat) :
    (s.cfg.saveAtShift = false → (s.shiftOpened kind event crew duration).stc = s.stc)
      ∧ (s.cfg.saveAtShift = true → ∃ f, (s.shiftOpened kind event crew duration).stc = { s.stc with inFlight := some f }
          ∧ f.trigger = .shift) := by
  obtain ⟨-, stc, -⟩ := s.closeRecord_leaves kind event crew duration
  have cfg : (s.closeRecord kind event crew duration).cfg = s.cfg :=
    closeRecord_unchanged s (List.Subset.refl _) kind event crew duration .cfg (by decide)
  rw [State.shiftOpened]
  generalize s.closeRecord kind event crew duration = m at *
  obtain ⟨-, ⟨-, -, opened⟩, -⟩ := m.requestShiftSave.openShift_leaves crew
  have ended (n : State) (loss : Bool) : ((n.setCurrent { n.shu.current with loss := loss }).endHandover).stc = n.stc :=
    (State.endHandover_leaves _).2.2.1
  rw [ended, opened, State.requestShiftSave, cfg, stc, free]
  refine ⟨fun no => by rw [if_neg (by rw [no]; decide), stc], fun yes => ?_⟩
  rw [if_pos yes]
  exact ⟨{ trigger := .shift, start := m.tsc.e, snapshot := none, draw := m.draws }, by rw [← stc]; rfl, rfl⟩

theorem ShiftAsked.closeShift (s : State) (free : s.stc.inFlight = none) (kind : ShiftKind) (event : ShiftEvent)
    (crew duration : Nat) : ShiftAsked s (s.closeShift kind event crew duration) := by
  obtain ⟨none', asked⟩ := s.shiftOpened_stc free kind event crew duration
  have cfg : (s.closeShift kind event crew duration).cfg = s.cfg :=
    closeShift_unchanged s (List.Subset.refl _) kind event crew duration .cfg (by decide)
  rw [State.closeShift_eq, free] at cfg ⊢
  cases save : s.cfg.saveAtShift with
  | false => exact .inl (none' save)
  | true =>
    obtain ⟨f, stc, trigger⟩ := asked save
    rw [save] at cfg
    obtain ⟨-, -, -, stored⟩ := (s.shiftOpened kind event crew duration).takeSnapshot_leaves
    have taken := stored f (congrArg StoreController.inFlight stc)
    rw [stc] at taken
    change (s.shiftOpened kind event crew duration).takeSnapshot.cfg = s.cfg at cfg
    change ShiftAsked s (s.shiftOpened kind event crew duration).takeSnapshot
    generalize (s.shiftOpened kind event crew duration).takeSnapshot = m at *
    exact .inr ⟨_, m.snapshot.stored, taken, trigger, rfl, cfg⟩

/-! ### A fired entry and a move of the local minute (R13, R152 to R156) -/

theorem ShiftAsked.judgeEntry (s : State) (free : s.stc.inFlight = none) (x : ScheduleEntry) : ShiftAsked s (s.judgeEntry x) := by
  rw [State.judgeEntry]
  split
  · exact .closeShift s free _ _ _ _
  · exact .inl ((s.openHandover_leaves x.crew x.window).2.2.2 .stc (by decide))

theorem ShiftAsked.fireEntry (s : State) (free : s.stc.inFlight = none) (x : ScheduleEntry) (day : Int) :
    ShiftAsked s (s.fireEntry x day) := by
  rw [State.fireEntry]
  generalize hm : s.setTsc { s.tsc with lastFired := fired s.tsc.lastFired x.start day } = m
  have stc : m.stc = s.stc := by rw [← hm]; rfl
  have cfg : m.cfg = s.cfg := by rw [← hm]; rfl
  split
  · exact (ShiftAsked.judgeEntry m (stc ▸ free) x).congr stc cfg
  · obtain ⟨-, missed, -, settings, -⟩ := m.missHandover_leaves
    exact (ShiftAsked.judgeEntry m.missHandover (by rw [missed, stc, free]) x).congr (missed.trans stc) (settings.trans cfg)

theorem ShiftAsked.jumpReport (s : State) (free : s.stc.inFlight = none) (first last : Int) :
    ShiftAsked s (s.jumpReport first last) := by
  rw [State.jumpReport]
  split
  · exact .inl rfl
  · obtain ⟨stc, cfg⟩ := forAll_keeps (fun m => m.stc = s.stc ∧ m.cfg = s.cfg) (s.reached first last).dropLast
      (fun q acc => acc.placeShift .skipped q.2.crew)
      (fun q _ m h => ⟨(State.place_stc _ _).trans h.1, (State.place_cfg _ _).trans h.2⟩) s ⟨rfl, rfl⟩
    exact (ShiftAsked.fireEntry _ (stc ▸ free) _ _).congr stc cfg

theorem ShiftAsked.trackMove (s : State) (free : s.stc.inFlight = none) (held : Bool) : ShiftAsked s (s.trackMove held) := by
  rw [State.trackMove]
  split
  · exact .inl rfl
  · dsimp only
    split_ifs
    · exact .inl rfl
    · exact .inl rfl
    · exact (ShiftAsked.jumpReport (s.setTracker (some s.localMinute)) free _ _).congr rfl rfl
    · exact .inl rfl

end Sys2Proof.Machine

/-! PROOFS. O35: DFLT, item by item: what the application of a changed item leaves, and the save that follows (R180). -/

namespace Sys2Proof.Machine

variable {s t m : State}

/-! ### The application of a changed item (R191) -/

theorem moveRevert_unchanged {L : List Part} (s : State) (hd : .dsc ∈ L) (hr : .rrx ∈ L) (h : Part.recording ⊆ L) :
    Unchanged L s s.moveRevert := by
  rw [State.moveRevert]
  split
  · exact .refl L s
  · exact ite_unchanged ((setRrx_unchanged s hr _).trans (revertExpires_unchanged _ hd hr h)) (setRrx_unchanged s hr _)

theorem unitItemChanged_unchanged (s : State) (it : Item) (u : Nat) :
    Unchanged (.tlu :: Part.recording) s (s.unitItemChanged it u) := by
  have checkpointed : Unchanged (.tlu :: Part.recording) s (s.checkpointNow u) := checkpoint_unchanged s (by decide) (by decide) _ _
  exact ite_unchanged (checkpointed.trans (moveTimer_unchanged _ (by decide) (by decide) _)) checkpointed

theorem State.applyItem_of_unit {it : Item} (h : it ∈ Item.unitItems) (s : State) (old : Settings) (i : Nat) :
    s.applyItem old it i = s.unitItemChanged it i := by
  cases it with
  | unitGroup | weightStill | weightSpin | weightGen | weightPump | weightCond | weightIndet | startWeight | tripWeight
  | modeRecord | discrepDelay => rfl
  | _ => exact absurd h (by decide)

/-- The pieces that the application of a changed item may change. -/
theorem applyItem_unchanged (s : State) (old : Settings) (it : Item) (i : Nat) :
    Unchanged (.rrx :: .dsc :: .lqu :: Part.firing) s (s.applyItem old it i) := by
  have unit {it : Item} (h : it ∈ Item.unitItems) : Unchanged (.rrx :: .dsc :: .lqu :: Part.firing) s (s.applyItem old it i) := by
    rw [State.applyItem_of_unit h]
    exact (unitItemChanged_unchanged s it i).mono (by decide)
  cases it with
  | localOffset => exact trackMove_unchanged s (by decide) false
  | prefSource => exact evalSelection_unchanged s (by decide) (by decide) (by decide) false
  | revertDelay => exact moveRevert_unchanged s (by decide) (by decide) (by decide)
  | slewLimit => exact (setDsc_unchanged s (by decide) _).trans (evalClass_unchanged _ (by decide) (by decide))
  | freqWindow => exact setDsc_unchanged s (by decide) _
  | lineKind | lineUnit | linePolarity =>
    exact reconfigLine_unchanged s (by decide) (by decide) (by decide) (by decide) i _
  | unitGroup | weightStill | weightSpin | weightGen | weightPump | weightCond | weightIndet | startWeight | tripWeight
  | modeRecord | discrepDelay => exact unit (by decide)
  | watermark => exact evalWatermark_unchanged s (by decide)
  | autosaveHours => exact setAutosave_unchanged s (by decide)
  | noticeMask => exact setNtc_unchanged s (by decide) _
  | _ => exact .refl _ s

/-- The receiver with its revert timer moved to the delay now in force (R37). -/
def State.revertMoved (s : State) (w : RevertTimer) : Receiver :=
  { s.rrx with revert := some { start := w.start, expiry := w.start + s.cfg.revertDelay * 1000000 } }

theorem State.moveRevert_running {w : RevertTimer} (s : State) (h : s.rrx.revert = some w) :
    s.moveRevert = if w.start + s.cfg.revertDelay * 1000000 ≤ s.tsc.e then (s.setRrx (s.revertMoved w)).revertExpires
      else s.setRrx (s.revertMoved w) := by
  rw [State.moveRevert, h]
  by_cases passed : w.start + s.cfg.revertDelay * 1000000 ≤ s.tsc.e
  · rw [if_pos passed]
    exact if_pos passed
  · rw [if_neg passed]
    exact if_neg passed

theorem State.moveRevert_dsc (s : State) : s.moveRevert.dsc.f = s.dsc.f ∧ s.moveRevert.dsc.u = s.dsc.u := by
  have expires (x : Receiver) : (s.setRrx x).revertExpires.dsc.f = s.dsc.f ∧ (s.setRrx x).revertExpires.dsc.u = s.dsc.u := by
    obtain ⟨-, u, f, -⟩ := ((s.setRrx x).setRrx { x with revert := none }).evalSelection_leaves true
    exact ⟨f, u⟩
  cases h : s.rrx.revert with
  | none =>
    have e : s.moveRevert = s := by rw [State.moveRevert, h]
    rw [e]
    exact ⟨rfl, rfl⟩
  | some w =>
    rw [s.moveRevert_running h]
    generalize s.revertMoved w = x
    split_ifs
    · exact expires x
    · exact ⟨rfl, rfl⟩

theorem Discipline.slewChanged_leaves (d : Discipline) (limit : Nat) :
    (d.slewChanged limit).f = d.f ∧ (d.slewChanged limit).u = d.u := by
  rw [Discipline.slewChanged]
  split <;> exact ⟨rfl, rfl⟩

/-- No item's application changes F or U. -/
theorem State.applyItem_dsc (s : State) (old : Settings) (it : Item) (i : Nat) :
    (s.applyItem old it i).dsc.f = s.dsc.f ∧ (s.applyItem old it i).dsc.u = s.dsc.u := by
  have same {t : State} (h : s.applyItem old it i = t) (e : t.dsc = s.dsc) :
      (s.applyItem old it i).dsc.f = s.dsc.f ∧ (s.applyItem old it i).dsc.u = s.dsc.u := by
    rw [h, e]; exact ⟨rfl, rfl⟩
  have unit {it : Item} (h : it ∈ Item.unitItems) : (s.applyItem old it i).dsc = s.dsc := by
    rw [State.applyItem_of_unit h]
    exact unitItemChanged_unchanged s it i .dsc (by decide)
  have line : (s.reconfigLine i (nth old.lines i)).dsc = s.dsc :=
    reconfigLine_unchanged s (L := .lqu :: .tlu :: .draws :: Part.recording) (by decide) (by decide) (by decide) (by decide)
      i _ .dsc (by decide)
  cases it with
  | localOffset => exact same rfl (trackMove_unchanged s (List.Subset.refl _) false .dsc (by decide))
  | prefSource =>
    obtain ⟨-, u, f, -⟩ := s.evalSelection_leaves false
    exact ⟨f, u⟩
  | revertDelay => exact s.moveRevert_dsc
  | slewLimit =>
    have e : (s.applyItem old .slewLimit i).dsc
        = { s.dsc.slewChanged s.cfg.slewLimit with effClass := (s.dsc.slewChanged s.cfg.slewLimit).classNow } :=
      State.evalClass_dsc _
    rw [e]
    exact s.dsc.slewChanged_leaves _
  | lineKind | lineUnit | linePolarity => exact same rfl line
  | unitGroup | weightStill | weightSpin | weightGen | weightPump | weightCond | weightIndet | startWeight | tripWeight
  | modeRecord | discrepDelay => exact same rfl (unit (by decide))
  | _ => exact ⟨rfl, rfl⟩

/-- Of STC, an item other than LOCAL_OFFSET moves the autosave expiry alone. -/
theorem State.applyItem_stc (s : State) (old : Settings) (it : Item) (i : Nat) (other : it ≠ .localOffset) :
    (s.applyItem old it i).stc.store = s.stc.store ∧ (s.applyItem old it i).stc.inFlight = s.stc.inFlight
      ∧ (s.applyItem old it i).stc.queued = s.stc.queued := by
  have same (h : Unchanged (.rrx :: .dsc :: .lqu :: .tlu :: .draws :: Part.recording) s (s.applyItem old it i)) :
      (s.applyItem old it i).stc.store = s.stc.store ∧ (s.applyItem old it i).stc.inFlight = s.stc.inFlight
        ∧ (s.applyItem old it i).stc.queued = s.stc.queued := by
    have e : (s.applyItem old it i).stc = s.stc := h .stc (by decide)
    rw [e]; exact ⟨rfl, rfl, rfl⟩
  have unit (h : it ∈ Item.unitItems) :
      Unchanged (.rrx :: .dsc :: .lqu :: .tlu :: .draws :: Part.recording) s (s.applyItem old it i) := by
    rw [State.applyItem_of_unit h]
    exact (unitItemChanged_unchanged s it i).mono (by decide)
  cases it with
  | localOffset => exact absurd rfl other
  | prefSource => exact same (evalSelection_unchanged s (by decide) (by decide) (by decide) false)
  | revertDelay => exact same (moveRevert_unchanged s (by decide) (by decide) (by decide))
  | slewLimit => exact same ((setDsc_unchanged s (by decide) _).trans (evalClass_unchanged _ (by decide) (by decide)))
  | lineKind | lineUnit | linePolarity =>
    exact same (reconfigLine_unchanged s (by decide) (by decide) (by decide) (by decide) i _)
  | unitGroup | weightStill | weightSpin | weightGen | weightPump | weightCond | weightIndet | startWeight | tripWeight
  | modeRecord | discrepDelay => exact same (unit (by decide))
  | _ => exact ⟨rfl, rfl, rfl⟩

/-! ### The lines under the defaults (R87, R180) -/

/-- Line `i` is reset as UNUSED, under the defaults (R87). -/
def LineUnused (i : Nat) (t : State) : Prop :=
  t.cfg = Settings.dflt ∧ (t.line i).state = .unused ∧ (t.line i).pending = none ∧ (t.line i).quiet = none

theorem Settings.dflt_unused {i : Nat} (h1 : 1 ≤ i) (h32 : i ≤ 32) : (nth Settings.dflt.lines i).kind = .unused := by
  have e : nth Settings.dflt.lines i = (Settings.dflt.lines)[i - 1]'(by omega) := nth_eq_getElem _ _ ⟨h1, h32⟩
  rw [e]
  simp only [Settings.dflt, Vector.getElem_replicate]
  rfl

theorem State.applyItem_cfg (s : State) (old : Settings) (it : Item) (i : Nat) : (s.applyItem old it i).cfg = s.cfg :=
  applyItem_unchanged s old it i .cfg (by decide)

theorem LineUnused.tellUnits {i : Nat} (h : LineUnused i m) (us : List Nat) : LineUnused i (m.tellUnits us) := by
  have kept : Unchanged (.tlu :: .draws :: Part.recording) m (m.tellUnits us) :=
    tellUnits_unchanged m (by decide) (by decide) (by decide) us
  have lqu : (m.tellUnits us).lqu = m.lqu := kept .lqu (by decide)
  have cfg : (m.tellUnits us).cfg = m.cfg := kept .cfg (by decide)
  rw [LineUnused, State.line, lqu, cfg]
  exact h

/-- A reset line is UNUSED under the defaults, and the units told of it leave it so. -/
theorem State.reconfigLine_unused {i : Nat} (h1 : 1 ≤ i) (h32 : i ≤ 32) (old : LineSettings) (h : t.cfg = Settings.dflt) :
    LineUnused i (t.reconfigLine i old) := by
  have kind : (t.lineCfg i).kind = .unused := by
    rw [State.lineCfg, h]
    exact Settings.dflt_unused h1 h32
  refine LineUnused.tellUnits ?_ _
  rw [State.resetLine, if_pos kind]
  refine ⟨h, ?_⟩
  rw [State.line_setLine_self _ _ ⟨h1, h32⟩]
  exact ⟨rfl, rfl, rfl⟩

/-- No item's application takes a line out of UNUSED under the defaults. -/
theorem LineUnused.applyItem {i : Nat} (h1 : 1 ≤ i) (h32 : i ≤ 32) (h : LineUnused i t) (old : Settings) (it : Item) (j : Nat) :
    LineUnused i (t.applyItem old it j) := by
  have same (e : (t.applyItem old it j).lqu = t.lqu) : LineUnused i (t.applyItem old it j) := by
    rw [LineUnused, State.line, e, State.applyItem_cfg]
    exact h
  have line : LineUnused i (t.reconfigLine j (nth old.lines j)) := by
    by_cases e : j = i
    · exact e ▸ State.reconfigLine_unused h1 h32 _ h.1
    · refine LineUnused.tellUnits ?_ _
      rw [State.resetLine]
      split <;>
      · rw [LineUnused, State.line_setLine_other _ _ (Ne.symm e)]
        exact h
  have apart (e : Unchanged (.rrx :: .dsc :: Part.firing) t (t.applyItem old it j)) := same (e .lqu (by decide))
  have unit (h : it ∈ Item.unitItems) : Unchanged (.rrx :: .dsc :: Part.firing) t (t.applyItem old it j) := by
    rw [State.applyItem_of_unit h]
    exact (unitItemChanged_unchanged t it j).mono (by decide)
  cases it with
  | localOffset => exact apart (trackMove_unchanged t (by decide) false)
  | prefSource => exact apart (evalSelection_unchanged t (by decide) (by decide) (by decide) false)
  | revertDelay => exact apart (moveRevert_unchanged t (by decide) (by decide) (by decide))
  | slewLimit => exact apart ((setDsc_unchanged t (by decide) _).trans (evalClass_unchanged _ (by decide) (by decide)))
  | lineKind | lineUnit | linePolarity => exact line
  | unitGroup | weightStill | weightSpin | weightGen | weightPump | weightCond | weightIndet | startWeight | tripWeight
  | modeRecord | discrepDelay => exact apart (unit (by decide))
  | _ => exact h

end Sys2Proof.Machine

/-! PROOFS. O35: the defaults applied, each change once, and the save that follows (R180). -/

namespace Sys2Proof.Machine

variable {s t m : State}

/-! ### Each entry once -/

theorem Scope.indices_nodup (x : Scope) : x.indices.Nodup := by
  cases x with
  | part => exact List.nodup_singleton 0
  | line => exact numbers_nodup 32
  | unit => exact numbers_nodup 8

theorem entries_nodup : entries.Nodup := by
  refine List.nodup_flatMap.2 ⟨fun it _ => it.scope.indices_nodup.map fun i j h => congrArg Prod.snd h, ?_⟩
  have items : Item.all.Nodup := by decide
  refine items.imp fun {a b} other => ?_
  intro p hp hq
  obtain ⟨i, -, rfl⟩ := List.mem_map.1 hp
  obtain ⟨j, -, e⟩ := List.mem_map.1 hq
  exact other (congrArg Prod.fst e).symm

/-- A list of changes in which `a` stands at most once: every other change keeps `P` and `Q`, and `a` leads from `P` to `Q`. -/
theorem forAll_once {α : Type} [DecidableEq α] {P Q : State → Prop} {f : α → State → State} {a : α} {xs : List α} (once : xs.Nodup)
    (keepP : ∀ x ∈ xs, x ≠ a → ∀ s, P s → P (f x s)) (keepQ : ∀ x ∈ xs, x ≠ a → ∀ s, Q s → Q (f x s))
    (hit : ∀ s, P s → Q (f a s)) {s : State} (h : P s) : P (forAll xs f s) ∨ Q (forAll xs f s) := by
  induction xs generalizing s with
  | nil => exact .inl h
  | cons x xs ih =>
    obtain ⟨fresh, once⟩ := List.nodup_cons.1 once
    rw [forAll_cons]
    by_cases e : x = a
    · subst e
      exact .inr (forAll_keeps Q xs f (fun y hy => keepQ y (List.mem_cons_of_mem x hy) (fun e => fresh (e ▸ hy))) _ (hit s h))
    · exact ih once (fun y hy => keepP y (List.mem_cons_of_mem x hy)) (fun y hy => keepQ y (List.mem_cons_of_mem x hy))
        (keepP x (List.mem_cons_self ..) e s h)

/-! ### The defaults applied -/

/-- The changes that DFLT applies, in the order it takes them. -/
def State.defaultChanges (s : State) : List (Item × Nat) := freeOrder s.draws (changedEntries s.cfg Settings.dflt)

/-- The part under the defaults, before a change is applied. -/
def State.defaulted (s : State) : State := (s.setCfg Settings.dflt).setDraws (s.draws + s.defaultChanges.length)

def State.defaultsApplied (s : State) : State :=
  forAll s.defaultChanges (fun p => State.applyItem s.cfg p.1 p.2) s.defaulted

theorem State.defaultChanges_mem {p : Item × Nat} (h : p ∈ s.defaultChanges) : p ∈ entries :=
  List.mem_of_mem_filter ((freeOrder_perm _ _).mem_iff.1 h)

theorem State.defaultChanges_nodup (s : State) : s.defaultChanges.Nodup :=
  (freeOrder_perm _ _).nodup_iff.2 (entries_nodup.filter _)

/-- No save is in flight; the store and the queue of saves stand. -/
def NoSave (s t : State) : Prop :=
  t.cfg = Settings.dflt ∧ t.stc.store = s.stc.store ∧ t.stc.queued = s.stc.queued ∧ t.stc.inFlight = none

/-- A SHIFT save of the defaults is in flight; the store and the queue of saves stand. -/
def ShiftSave (s t : State) : Prop :=
  t.cfg = Settings.dflt ∧ t.stc.store = s.stc.store ∧ t.stc.queued = s.stc.queued
    ∧ ∃ f x, t.stc.inFlight = some f ∧ f.trigger = .shift ∧ f.snapshot = some x ∧ x.image.cfg = Settings.dflt

/-- A move of the local minute asks for at most one SHIFT save (R149, R155). -/
theorem NoSave.trackMove (h : NoSave s t) (held : Bool) : NoSave s (t.trackMove held) ∨ ShiftSave s (t.trackMove held) := by
  obtain ⟨cfg, store, queued, free⟩ := h
  have settings : (t.trackMove held).cfg = Settings.dflt :=
    (trackMove_unchanged t (List.Subset.refl _) held .cfg (by decide)).trans cfg
  have asked := ShiftAsked.trackMove t free held
  obtain ⟨store', -, -, queued', -⟩ := asked.stands
  rcases asked with stc | ⟨f, x, stc, trigger, snapshot, image⟩
  · exact .inl ⟨settings, store'.trans store, queued'.trans queued, stc ▸ free⟩
  · exact .inr ⟨settings, store'.trans store, queued'.trans queued, f, x, by rw [stc], trigger, snapshot, image.trans cfg⟩

/-- After the changes, a SHIFT save of the defaults may be in flight, and no other (entry 20). -/
theorem State.defaultsApplied_saves (s : State) (free : s.stc.inFlight = none) :
    NoSave s s.defaultsApplied ∨ ShiftSave s s.defaultsApplied := by
  have other (p : Item × Nat) (hp : p ∈ s.defaultChanges) (hne : p ≠ (.localOffset, 0)) : p.1 ≠ .localOffset := by
    obtain ⟨it, i⟩ := p
    rintro rfl
    have hi : i ∈ Item.localOffset.scope.indices := (mem_entries _ _).1 (State.defaultChanges_mem hp)
    exact hne (congrArg _ (List.mem_singleton.1 hi))
  have once := forAll_once (P := NoSave s) (Q := fun t => NoSave s t ∨ ShiftSave s t) (a := (.localOffset, 0)) s.defaultChanges_nodup
    (f := fun p => State.applyItem s.cfg p.1 p.2)
    (fun p hp hne t ⟨cfg, store, queued, none'⟩ => by
      obtain ⟨store', flight', queued'⟩ := t.applyItem_stc s.cfg p.1 p.2 (other p hp hne)
      exact ⟨(t.applyItem_cfg _ _ _).trans cfg, store'.trans store, queued'.trans queued, flight'.trans none'⟩)
    (fun p hp hne t h => by
      obtain ⟨store', flight', queued'⟩ := t.applyItem_stc s.cfg p.1 p.2 (other p hp hne)
      have cfg' := t.applyItem_cfg s.cfg p.1 p.2
      rcases h with ⟨cfg, store, queued, none'⟩ | ⟨cfg, store, queued, f, x, flight, rest⟩
      · exact .inl ⟨cfg'.trans cfg, store'.trans store, queued'.trans queued, flight'.trans none'⟩
      · exact .inr ⟨cfg'.trans cfg, store'.trans store, queued'.trans queued, f, x, flight'.trans flight, rest⟩)
    (fun t h => h.trackMove false) (s := s.defaulted) ⟨rfl, rfl, rfl, free⟩
  exact once.elim .inl id

/-- The changes leave F, U and every piece that no item rules. -/
theorem State.defaultsApplied_kept (s : State) :
    s.defaultsApplied.dsc.f = s.dsc.f ∧ s.defaultsApplied.dsc.u = s.dsc.u
      ∧ Unchanged (.rrx :: .dsc :: .lqu :: .cfg :: Part.firing) s s.defaultsApplied := by
  have first : Unchanged (.rrx :: .dsc :: .lqu :: .cfg :: Part.firing) s s.defaulted :=
    (setCfg_unchanged s (by decide) _).trans (setDraws_unchanged _ (by decide) _)
  exact forAll_keeps
    (fun t => t.dsc.f = s.dsc.f ∧ t.dsc.u = s.dsc.u ∧ Unchanged (.rrx :: .dsc :: .lqu :: .cfg :: Part.firing) s t) _ _
    (fun p _ t ⟨f, u, kept⟩ => by
      obtain ⟨f', u'⟩ := t.applyItem_dsc s.cfg p.1 p.2
      exact ⟨f'.trans f, u'.trans u, kept.trans ((applyItem_unchanged t s.cfg p.1 p.2).mono (by decide))⟩) _ ⟨rfl, rfl, first⟩

/-- Every line in use is reset as UNUSED. -/
theorem State.defaultsApplied_line (s : State) {i : Nat} (h1 : 1 ≤ i) (h32 : i ≤ 32) (used : (s.lineCfg i).kind ≠ .unused) :
    LineUnused i s.defaultsApplied := by
  have changed : Item.lineKind.read s.cfg i ≠ Item.lineKind.read Settings.dflt i := by
    intro e
    refine used ?_
    have kinds : (s.lineCfg i).kind.code = (nth Settings.dflt.lines i).kind.code := Int.ofNat_inj.1 e
    rw [Settings.dflt_unused h1 h32] at kinds
    generalize (s.lineCfg i).kind = k at kinds ⊢
    revert kinds
    cases k <;> decide
  have indexed : i ∈ Item.lineKind.scope.indices := (mem_numbers 32 i).2 ⟨h1, h32⟩
  exact forAll_reaches (W := fun t => t.cfg = Settings.dflt) (P := LineUnused i) (f := fun (p : Item × Nat) => State.applyItem s.cfg p.1 p.2)
    (mem_defaultChanges s.cfg s.draws indexed changed) (fun p t h => (t.applyItem_cfg _ _ _).trans h)
    (fun p t h => h.applyItem h1 h32 _ _ _) (fun t h => State.reconfigLine_unused h1 h32 _ h) rfl

/-! ### DFLT (R180) -/

/-- DFLT up to its save: the units that the changes touch evaluated. -/
def State.defaultsEvaluated (s : State) : State :=
  s.defaultsApplied.evalUnits (s.defaultChanges.flatMap (fun p => p.1.touches s.cfg Settings.dflt p.2))

theorem State.takeDefaults_eq (s : State) : s.takeDefaults =
    if s.cfg.autosaveHours = Settings.dflt.autosaveHours then s.defaultsEvaluated.requestSave .dflt
      else (s.defaultsEvaluated.requestSave .dflt).autosaveIfPassed := rfl

/-- A save of the defaults is in flight: the one of DFLT, or a SHIFT save with that of DFLT behind it. -/
def DefaultsSaved (s t : State) : Prop :=
  t.stc.store = s.stc.store ∧ ∃ f x, t.stc.inFlight = some f ∧ f.snapshot = some x ∧ x.image.cfg = Settings.dflt
    ∧ (f.trigger = .dflt ∨ f.trigger = .shift ∧ t.stc.queued = some (s.stc.queued.getD .dflt))

theorem DefaultsSaved.requestSave (h : NoSave s t ∨ ShiftSave s t) : DefaultsSaved s (t.requestSave .dflt) := by
  obtain ⟨starts, waits⟩ := t.requestSave_stc .dflt
  rcases h with ⟨cfg, store, queued, free⟩ | ⟨cfg, store, queued, f, x, flight, trigger, snapshot, image⟩
  · have begun : (t.beginSave .dflt).checkpointAll.cfg = Settings.dflt :=
      (checkpointAll_apart (t.beginSave .dflt) .cfg (by decide)).trans cfg
    rw [DefaultsSaved, starts free]
    refine ⟨store, _, _, rfl, rfl, ?_, .inl rfl⟩
    generalize (t.beginSave .dflt).checkpointAll = m at *
    exact begun
  · rw [DefaultsSaved, waits (by rw [flight]; rfl)]
    exact ⟨store, f, x, flight, snapshot, image, .inr ⟨trigger, by rw [← queued]⟩⟩

/-- An autosave that falls due now waits behind the save in flight, or is absorbed (R173, R178). -/
theorem DefaultsSaved.autosaveIfPassed (h : DefaultsSaved s t) : DefaultsSaved s t.autosaveIfPassed := by
  obtain ⟨store, f, x, flight, snapshot, image, trigger⟩ := id h
  have reached : DefaultsSaved s t.autosaveReached := by
    obtain ⟨-, waits⟩ := (t.setStc { t.stc with autosave := none }).requestSave_stc .autosave
    have busy : (t.setStc { t.stc with autosave := none }).stc.inFlight.isSome = true := by
      rw [State.setStc_stc, flight]; rfl
    rw [DefaultsSaved, State.autosaveReached, waits busy]
    refine ⟨store, f, x, flight, snapshot, image, trigger.imp_right fun ⟨shift, queued⟩ => ⟨shift, ?_⟩⟩
    show some (t.stc.queued.getD .autosave) = _
    rw [queued]; rfl
  rw [State.autosaveIfPassed]
  split
  · exact h
  · split
    · exact reached
    · exact h

/-- A request that a save refuses is taken with no save in flight (R176). -/
theorem State.free_of_accepts {k : Kind} (h : s.accepts k) (refused : k.refusedInSave = true) : s.stc.inFlight = none := by
  obtain ⟨-, busy⟩ := h
  rw [State.busy, refused, Bool.or_eq_false_iff, Bool.and_true] at busy
  exact Option.isNone_iff_eq_none.1 (Option.isSome_eq_false_iff.1 busy.1)

/-- Settles O35: the changes applied one by one, the units evaluated, and the save asked for. -/
theorem dfltRestoresTheDefaults : Obligations.DfltRestoresTheDefaults := by
  intro tag s ha
  have free : s.stc.inFlight = none := State.free_of_accepts ha rfl
  have served : serveDflt s = (s.takeDefaults, { result := .ok }) := rfl
  have row : exec (.dflt tag) s = .next (s.takeDefaults.answered 0x08 tag .ok []) :=
    congrArg Host.Outcome.next (State.takeRequest_of_serve tag ha served)
  clear served
  refine ⟨s.takeDefaults, row, ?_⟩
  clear row
  have evaluated : Unchanged (.tlu :: Part.recording) s.defaultsApplied s.defaultsEvaluated :=
    evalUnits_unchanged _ (by decide) (by decide) _
  have ended : Unchanged Part.saving s.defaultsEvaluated s.takeDefaults := by
    rw [State.takeDefaults_eq]
    have asked := requestSave_unchanged s.defaultsEvaluated (L := Part.saving) (List.Subset.refl _) .dflt
    exact ite_unchanged asked (asked.trans (autosaveIfPassed_unchanged _ (List.Subset.refl _)))
  obtain ⟨f, u, kept⟩ := s.defaultsApplied_kept
  have saves := s.defaultsApplied_saves free
  have lines (i : Nat) (h1 : 1 ≤ i) (h32 : i ≤ 32) := s.defaultsApplied_line h1 h32
  have stc : s.defaultsEvaluated.stc = s.defaultsApplied.stc := evaluated .stc (by decide)
  have cfg : s.defaultsEvaluated.cfg = s.defaultsApplied.cfg := evaluated .cfg (by decide)
  have saved : DefaultsSaved s s.takeDefaults := by
    have evaluatedSaves : NoSave s s.defaultsEvaluated ∨ ShiftSave s s.defaultsEvaluated := by
      simpa only [NoSave, ShiftSave, stc, cfg] using saves
    rw [State.takeDefaults_eq]
    split
    · exact .requestSave evaluatedSaves
    · exact (DefaultsSaved.requestSave evaluatedSaves).autosaveIfPassed
  have later : Unchanged Part.saving s.defaultsApplied s.takeDefaults := (evaluated.mono (by decide)).trans ended
  generalize s.takeDefaults = m at *
  generalize s.defaultsApplied = t at *
  have dsc : m.dsc = t.dsc := later .dsc (by decide)
  have lqu : m.lqu = t.lqu := later .lqu (by decide)
  have all : Unchanged (.rrx :: .dsc :: .lqu :: .cfg :: Part.firing) s m := kept.trans (later.mono (by decide))
  have settings : m.cfg = Settings.dflt := by
    have e : m.cfg = t.cfg := later .cfg (by decide)
    rw [e]
    exact saves.elim (·.1) (·.1)
  obtain ⟨store, save⟩ := saved
  refine ⟨settings, all .ftx (by decide), store, all .lkc (by decide), save, by rw [dsc]; exact f, by rw [dsc]; exact u,
    fun i h1 h32 used => ?_, all⟩
  rw [State.line, lqu]
  exact (lines i h1 h32 used).2

end Sys2Proof.Machine

/-! PROOFS. `Placing` says of a change that it touches the queue and the notices by placed records, by raised notices and by
conditions handed on alone; what those keep, it keeps (R98, R99, R105, R193). -/

namespace Sys2Proof.Machine

variable {s t m : State}

/-- A change made of placed records, raised notices, conditions other than QUEUE_LEVEL, and changes of other blocks. -/
inductive Placing : State → State → Prop
  | blocks {s t : State} (evq : t.evq = s.evq) (ntc : t.ntc = s.ntc) (cfg : t.cfg = s.cfg) : Placing s t
  | place (s : State) (p : Placement) : Placing s (s.place p)
  | raise (s : State) (w : Notice) : Placing s (s.raise w)
  | hand (s : State) {w : Notice} (hw : w ≠ .queueLevel) (b : Bool) : Placing s (s.hand w b)
  | trans {s t u : State} (h : Placing s t) (h' : Placing t u) : Placing s u

namespace Placing

theorem refl (s : State) : Placing s s := .blocks rfl rfl rfl

/-- What single changes keep, all of them keep. -/
theorem keeps {P : State → Prop} (h : Placing s t)
    (blocks : ∀ {s t : State}, t.evq = s.evq → t.ntc = s.ntc → t.cfg = s.cfg → P s → P t)
    (place : ∀ s p, P s → P (s.place p)) (raise : ∀ s w, P s → P (s.raise w))
    (hand : ∀ s w b, w ≠ .queueLevel → P s → P (s.hand w b)) (hs : P s) : P t := by
  induction h with
  | blocks evq ntc cfg => exact blocks evq ntc cfg hs
  | place s p => exact place s p hs
  | raise s w => exact raise s w hs
  | hand s hw b => exact hand s _ b hw hs
  | trans _ _ ih ih' => exact ih' (ih hs)

theorem forAll {α : Type} (xs : List α) (f : α → State → State) (h : ∀ x s, Placing s (f x s)) (s : State) :
    Placing s (Machine.forAll xs f s) :=
  forAll_keeps (Placing s) xs f (fun x _ _ hs => hs.trans (h x _)) s (.refl s)

theorem eitherOrder {f g : State → State} (hf : ∀ s, Placing s (f s)) (hg : ∀ s, Placing s (g s)) (s : State) :
    Placing s (Machine.eitherOrder f g s) := by
  have drawn : Placing s (s.setDraws (s.draws + 1)) := .blocks rfl rfl rfl
  rcases eitherOrder_cases f g s with e | e <;> rw [e]
  · exact (drawn.trans (hf _)).trans (hg _)
  · exact (drawn.trans (hg _)).trans (hf _)

theorem setShu (s : State) (x : ShiftUnitState) : Placing s (s.setShu x) := .blocks rfl rfl rfl

theorem setCurrent (s : State) (x : ShiftRecord) : Placing s (s.setCurrent x) := .blocks rfl rfl rfl

theorem setStc (s : State) (x : StoreController) : Placing s (s.setStc x) := .blocks rfl rfl rfl

/-! ### Units (Chapters 7 and 8) -/

theorem setUnit (s : State) (u : Nat) (x : GenUnit) : Placing s (s.setUnit u x) := .blocks rfl rfl rfl

theorem checkpointNow (s : State) (u : Nat) : Placing s (s.checkpointNow u) := .blocks rfl rfl rfl

theorem evalMaintenance (s : State) (u : Nat) : Placing s (s.evalMaintenance u) := by
  have set (x : Tally) : Placing s (s.setTally u x) := .blocks rfl rfl rfl
  simp only [State.evalMaintenance]
  split_ifs
  · exact (set _).trans (.place _ _)
  · exact set _
  · exact ((set _).trans (.place _ _)).trans (.hand _ (by decide) _)
  · exact (set _).trans (.hand _ (by decide) _)

theorem evalAll (s : State) : Placing s s.evalAll := forAll _ _ (fun u t => evalMaintenance t u) s

theorem checkpointAll (s : State) : Placing s s.checkpointAll :=
  (forAll (numbers 8) State.checkpointNow (fun u t => checkpointNow t u) s).trans (evalAll _)

theorem expireIfPassed (s : State) (u : Nat) : Placing s (s.expireIfPassed u) := by
  simp only [State.expireIfPassed]
  split
  · split
    · exact ((setUnit s u _).trans (.place _ _)).trans (.hand _ (by decide) _)
    · exact .refl s
  · exact .refl s
  · exact .refl s

theorem updateTimer (s : State) (u : Nat) (old : Mode) : Placing s (s.updateTimer u old) := by
  simp only [State.updateTimer]
  split_ifs
  · exact .refl s
  · exact (setUnit s u _).trans (expireIfPassed _ u)
  · exact (setUnit s u _).trans (.hand _ (by decide) _)
  · exact setUnit s u _

theorem moveTimer (s : State) (u : Nat) : Placing s (s.moveTimer u) := by
  simp only [State.moveTimer]
  split
  · exact (setUnit s u _).trans (expireIfPassed _ u)
  · exact .refl s
  · exact .refl s

theorem enterMode (s : State) (u : Nat) (new : Mode) (at' : Nat) (d : Date) : Placing s (s.enterMode u new at' d) :=
  (setUnit s u _).trans (updateTimer _ u _)

theorem placeMode (s : State) (u : Nat) (old : Mode) (d : Option Date) : Placing s (s.placeMode u old d) := by
  rw [State.placeMode]
  split
  · exact .place s _
  · exact .refl s

theorem rederive (s : State) (u : Nat) : Placing s (s.rederive u) := by
  simp only [State.rederive]
  split
  · exact .refl s
  · exact (enterMode s u _ _ _).trans (placeMode _ u _ _)

/-! ### Shifts (Chapter 9) -/

theorem takeSnapshot (s : State) : Placing s s.takeSnapshot := by
  have all := checkpointAll s
  rw [State.takeSnapshot]
  generalize s.checkpointAll = m at *
  exact all.trans (setStc m _)

theorem endHandover (s : State) : Placing s s.endHandover :=
  (setShu s _).trans (.hand (w := .handoverOverdue) _ (by decide) _)

theorem closeRecord (s : State) (kind : ShiftKind) (event : ShiftEvent) (crew duration : Nat) :
    Placing s (s.closeRecord kind event crew duration) := by
  refine (checkpointAll s).trans ?_
  rw [State.closeRecord]
  generalize s.checkpointAll = m
  exact ((setShu m _).trans (setCurrent _ _)).trans (.place _ _)

theorem shiftOpened (s : State) (kind : ShiftKind) (event : ShiftEvent) (crew duration : Nat) :
    Placing s (s.shiftOpened kind event crew duration) := by
  refine (closeRecord s kind event crew duration).trans ?_
  rw [State.shiftOpened]
  generalize s.closeRecord kind event crew duration = m
  obtain ⟨⟨-, evq, ntc⟩, ⟨-, -, -, cfg⟩, -⟩ := m.requestShiftSave_leaves
  obtain ⟨-, ⟨evq', ntc', -⟩, -, cfg', -⟩ := m.requestShiftSave.openShift_leaves crew
  generalize m.requestShiftSave.openShift crew = b at *
  have opened : Placing m (b.setCurrent { b.shu.current with loss := m.shu.current.loss }) :=
    .blocks (evq'.trans evq) (ntc'.trans ntc) (cfg'.trans cfg)
  exact opened.trans (endHandover _)

theorem closeShift (s : State) (kind : ShiftKind) (event : ShiftEvent) (crew duration : Nat) :
    Placing s (s.closeShift kind event crew duration) := by
  rw [State.closeShift_eq]
  split
  · exact (shiftOpened s kind event crew duration).trans (takeSnapshot _)
  · exact shiftOpened s kind event crew duration

theorem openHandover (s : State) (crew window : Nat) : Placing s (s.openHandover crew window) := by
  simp only [State.openHandover, State.placeShift]
  exact (((setShu s _).trans (.place _ _)).trans (.raise _ _)).trans (setShu _ _)

theorem missHandover (s : State) : Placing s s.missHandover := by
  simp only [State.missHandover, State.placeShift]
  exact (((Placing.place s _).trans (.raise _ _)).trans (setCurrent _ _)).trans (endHandover _)

theorem judgeEntry (s : State) (x : ScheduleEntry) : Placing s (s.judgeEntry x) := by
  rw [State.judgeEntry]
  split
  · exact closeShift s _ _ _ _
  · exact openHandover s _ _

theorem fireEntry (s : State) (x : ScheduleEntry) (day : Int) : Placing s (s.fireEntry x day) := by
  have fired : Placing s (s.setTsc { s.tsc with lastFired := fired s.tsc.lastFired x.start day }) := .blocks rfl rfl rfl
  rw [State.fireEntry]
  split
  · exact fired.trans (judgeEntry _ _)
  · exact (fired.trans (missHandover _)).trans (judgeEntry _ _)

theorem jumpReport (s : State) (first last : Int) : Placing s (s.jumpReport first last) := by
  rw [State.jumpReport]
  split
  · exact .refl s
  · exact (forAll _ _ (fun q t => .place t _) s).trans (fireEntry _ _ _)

theorem trackMove (s : State) (held : Bool) : Placing s (s.trackMove held) := by
  have set (v : Option LocalMinute) : Placing s (s.setTracker v) := .blocks rfl rfl rfl
  rw [State.trackMove]
  split
  · exact .refl s
  · dsimp only
    split_ifs
    · exact .refl s
    · exact .refl s
    · exact (set _).trans (jumpReport _ _ _)
    · exact set _

/-! ### The blocks of a restart (R190) -/

theorem raiseIfCorrupt (s : State) : Placing s s.raiseIfCorrupt := by
  rw [State.raiseIfCorrupt]
  split
  · exact .raise s _
  · exact .refl s

theorem setRrx (s : State) (x : Receiver) : Placing s (s.setRrx x) := .blocks rfl rfl rfl

theorem reportDisc (s : State) (old : DiscState) : Placing s (s.reportDisc old) := by
  rw [State.reportDisc]
  exact ((Placing.place s _).trans (.raise _ .disciplineChange)).trans (setRrx _ _)

theorem restartDsc (s : State) : Placing s s.restartDsc := by
  have evaluated : Placing s (s.setDsc (s.dsc.restarted s.cfg.slewLimit)).evalClass :=
    .blocks (State.evalClass_evq _) (State.evalClass_ntc _) (State.evalClass_cfg _)
  rw [State.restartDsc]
  split
  · exact evaluated
  · exact evaluated.trans (reportDisc _ _)

theorem setLqu (s : State) (x : Vector Line 32) : Placing s (s.setLqu x) := .blocks rfl rfl rfl

theorem restartUnit (s : State) (u : Nat) : Placing s (s.restartUnit u) := (rederive s u).trans (moveTimer _ u)

theorem restartLines (s : State) : Placing s s.restartLines := by
  rw [State.restartLines, State.resample]
  exact (setLqu s _).trans (forAll (numbers 8) State.restartUnit (fun u t => restartUnit t u) _)

theorem setSchedule (s : State) (xs : List ScheduleEntry) : Placing s (s.setSchedule xs) := .blocks rfl rfl rfl

theorem restartOffset (s : State) (old : Int) : Placing s (s.restartOffset old) := by
  rw [State.restartOffset]
  split
  · exact .refl s
  · exact trackMove s false

end Placing

/-! ### What placed records keep -/

/-- No held record is DELIVERED, QUEUE_LEVEL is right, RESTARTED is set, and every condition has its flag. -/
def RestartHeld (s : State) : Prop :=
  (∀ r ∈ s.evq.records, r.delivered = false)
    ∧ s.ntc.conditions.getLsbD 9 = decide (s.cfg.watermark ≤ s.evq.records.length)
    ∧ s.ntc.flags.getLsbD 8 = true ∧ s.ntcLatched

/-- A record that comes is not DELIVERED. -/
theorem EventQueue.place_undelivered {q : EventQueue} (policy : QueuePolicy) {r marker : Record} (hr : r.delivered = false)
    (hm : marker.delivered = false) (h : ∀ x ∈ q.records, x.delivered = false) :
    ∀ x ∈ (q.place policy r marker).1.records, x.delivered = false := by
  have appended (q' : EventQueue) (n : Nat) {y : Record} (hy : y.delivered = false) (h' : ∀ x ∈ q'.records, x.delivered = false) :
      ∀ x ∈ (q'.append n y).records, x.delivered = false := by
    intro x hx
    rcases List.mem_append.1 hx with hx | hx
    · exact h' x hx
    · rw [List.mem_singleton.1 hx]
      exact hy
  have absorbed (trip : Bool) : ∀ x ∈ mapNewest (fun m => { m with detail := m.detail.absorb trip }) q.records, x.delivered = false := by
    intro x hx
    have same := map_mapNewest (·.delivered) (fun m : Record => { m with detail := m.detail.absorb trip }) (fun _ => rfl) q.records
    have hx' : x.delivered ∈ q.records.map (·.delivered) := same ▸ List.mem_map_of_mem hx
    obtain ⟨y, hy, e⟩ := List.mem_map.1 hx'
    rw [← e]
    exact h y hy
  have removed (pick : Record → Bool) : ∀ x ∈ q.records.eraseP pick, x.delivered = false := fun x hx =>
    h x (List.mem_of_mem_eraseP hx)
  rw [EventQueue.place]
  cases q.nextSeq with
  | none => exact h
  | some n =>
    cases policy with
    | stop =>
      dsimp only [EventQueue.placeStop]
      split_ifs
      · exact appended q n hr h
      · exact absorbed _
      · exact appended (q.countLoss _) n hm h
      · exact h
    | overwrite =>
      dsimp only [EventQueue.placeOverwrite]
      split_ifs
      · exact appended q n hr h
      · exact appended { q with records := _, overwritten := _ } n hr (removed _)
      · exact appended { q with records := _, overwritten := _ } n hr (removed _)
      · exact h

/-- QUEUE_LEVEL is evaluated as a record is placed (R105). -/
theorem State.place_watermark (s : State) (p : Placement) :
    (s.place p).ntc.conditions.getLsbD 9 = decide (s.cfg.watermark ≤ (s.place p).evq.records.length) := by
  have evaluated (m : State) : m.evalWatermark.ntc.conditions.getLsbD 9 = decide (m.cfg.watermark ≤ m.evq.records.length) :=
    (NoticeUnit.hand_condition _ .queueLevel .queueLevel _ _).trans (if_pos rfl)
  obtain ⟨m, e⟩ : ∃ m : State, s.place p = m.evalWatermark := by
    simp only [State.place, State.placeSeq]
    split <;> exact ⟨_, rfl⟩
  have cfg : m.cfg = s.cfg := (congrArg State.cfg e).symm.trans (s.place_cfg p)
  rw [e, ← cfg]
  exact evaluated m

theorem Placing.restartHeld (h : Placing s t) (hs : RestartHeld s) : RestartHeld t := by
  have latched := keptApart_latched.kept
  refine h.keeps (P := RestartHeld) (fun {s t} evq ntc cfg hs => ?_) (fun s p hs => ?_) (fun s w hs => ?_) (fun s w b hw hs => ?_) hs
  · rw [RestartHeld, State.ntcLatched, evq, ntc, cfg]
    exact hs
  · obtain ⟨undelivered, -, restarted, conditions⟩ := hs
    refine ⟨?_, ?_, State.place_flag (v := .restarted) p restarted, latched.place p conditions⟩
    · rw [State.place_evq]
      exact EventQueue.place_undelivered _ rfl rfl undelivered
    · rw [State.place_watermark, State.place_cfg]
  · obtain ⟨undelivered, level, restarted, conditions⟩ := hs
    exact ⟨undelivered, level, (NoticeUnit.raise_flag _ w .restarted _).trans (by rw [show s.ntc.flags.getLsbD Notice.restarted.index = true from restarted]; rfl),
      latched.raise w conditions⟩
  · obtain ⟨undelivered, level, restarted, conditions⟩ := hs
    refine ⟨undelivered, ?_, (NoticeUnit.hand_flag _ w .restarted b _).trans (by rw [show s.ntc.flags.getLsbD Notice.restarted.index = true from restarted]; rfl),
      latched.hand w b conditions⟩
    exact ((NoticeUnit.hand_condition _ w .queueLevel b _).trans (if_neg (Ne.symm hw))).trans level

/-- The counters of `b`, but where the queue has been full or its numbers exhausted. -/
def CountsHeld (b s : State) : Prop :=
  (s.evq.lostTotal = b.evq.lostTotal ∧ s.evq.lostTrips = b.evq.lostTrips ∧ s.evq.overwritten = b.evq.overwritten)
    ∨ 319 ≤ s.evq.records.length ∨ s.evq.nextSeq = none

/-- A queue that has been full stays so as records come. -/
theorem EventQueue.place_full {q : EventQueue} (policy : QueuePolicy) (r marker : Record) (h : 319 ≤ q.records.length) :
    319 ≤ (q.place policy r marker).1.records.length := by
  have appended (q' : EventQueue) (n : Nat) (y : Record) : (q'.append n y).records.length = q'.records.length + 1 := by
    rw [EventQueue.append, List.length_append]; rfl
  have removed {pick : Record → Bool} (found : q.records.any pick = true) :
      (q.records.eraseP pick).length = q.records.length - 1 := by
    obtain ⟨x, hx, picked⟩ := List.any_eq_true.1 found
    exact List.length_eraseP_of_mem hx picked
  rw [EventQueue.place]
  cases q.nextSeq with
  | none => exact h
  | some n =>
    cases policy with
    | stop =>
      dsimp only [EventQueue.placeStop]
      split_ifs
      · rw [appended]; omega
      · rw [length_mapNewest]; exact h
      · rw [appended]; exact Nat.le_succ_of_le h
      · exact h
    | overwrite =>
      dsimp only [EventQueue.placeOverwrite]
      split_ifs with below yields yieldsToTrip
      · rw [appended]; omega
      · rw [appended, removed yields]; omega
      · rw [appended, removed (Bool.and_eq_true_iff.1 yieldsToTrip).2]; omega
      · exact h

theorem CountsHeld.place {b : State} (p : Placement) (h : CountsHeld b s) : CountsHeld b (s.place p) := by
  rw [CountsHeld, State.place_evq]
  by_cases full : 319 ≤ s.evq.records.length
  · exact .inr (.inl (EventQueue.place_full _ _ _ full))
  · cases hn : s.evq.nextSeq with
    | none =>
      refine .inr (.inr ?_)
      rw [EventQueue.place, hn]
      exact hn
    | some n =>
      have room : s.evq.hasRoom s.cfg.queuePolicy (s.recordOf p).detail.isTrip := by
        cases s.cfg.queuePolicy with
        | stop => exact show s.evq.records.length ≤ 318 by omega
        | overwrite => exact .inl (by omega)
      rw [EventQueue.place_below _ hn room (by omega)]
      rcases h with counts | h | h
      · exact .inl counts
      · exact absurd h full
      · rw [hn] at h; cases h

theorem Placing.countsHeld {b : State} (h : Placing s t) (hs : CountsHeld b s) : CountsHeld b t :=
  h.keeps (P := CountsHeld b) (fun evq _ _ hs => by rw [CountsHeld, evq]; exact hs) (fun _ p hs => hs.place p) (fun _ _ hs => hs)
    (fun _ _ _ _ hs => hs) hs

/-- With room for every record that comes, nothing is lost (R99). -/
theorem Placing.counts {k n : Nat} {ds : List Detail} (h : Placing s t) (records : Appends k ds s t) (hn : s.evq.nextSeq = some n)
    (room : s.evq.records.length + k ≤ 318) (numbers : n + k ≤ max32) :
    t.evq.lostTotal = s.evq.lostTotal ∧ t.evq.lostTrips = s.evq.lostTrips ∧ t.evq.overwritten = s.evq.overwritten := by
  obtain ⟨added, e, few, next, -⟩ := records n hn (by omega) numbers
  have length : t.evq.records.length = s.evq.records.length + added.length := by rw [e, List.length_append]
  rcases h.countsHeld (b := s) (.inl ⟨rfl, rfl, rfl⟩) with counts | full | exhausted
  · exact counts
  · omega
  · rw [next] at exhausted; cases exhausted

end Sys2Proof.Machine

/-! PROOFS. A unit whose mode is derived again (R122, R126, R131): its values, and its MODE record among the records of the units
that are derived with it. -/

namespace Sys2Proof.Machine

variable {s t m b : State} {g h : GenUnit} {u v j k n : Nat}

/-! ### The values of the unit (R122, R126 steps 2 to 4) -/

/-- A unit whose mode has been derived again, with the instant and the date of that and the expiry of a timer it starts. -/
def GenUnit.rederived (g : GenUnit) (new : Mode) (now : Nat) (date : Date) (expiry : Nat) : GenUnit :=
  if new = g.mode then g
  else { g with
    mode := new, entry := now, entryDate := date, ecp := ecpAfter g.mode new now g.ecp
    timer := if new = .indet then if expiry ≤ now then .expired else .running expiry else .stopped }

/-- The expiry of a timer that starts now (R122). -/
def State.expiryNow (s : State) (u : Nat) : Nat := s.tsc.e + (s.unitCfg u).discrepDelay * 1000000

theorem State.rederive_unit (s : State) (hu : 1 ≤ u ∧ u ≤ 8) (v : Nat) : (s.rederive u).unit v =
    if v = u then (s.unit u).rederived (s.deriveMode u) s.tsc.e s.dateNow (s.expiryNow u) else s.unit v := by
  rw [State.rederive]
  by_cases same : s.deriveMode u = (s.unit u).mode
  · rw [if_pos same, GenUnit.rederived, if_pos same]
    split
    next e => rw [e]
    next => rfl
  · rw [if_neg same, State.placeMode_unit, State.enterMode_unit _ hu, GenUnit.rederived, if_neg same]
    split
    · have set (x : GenUnit) := s.unit_setUnit u u x hu
      simp only [State.timerAfter, State.discrepancyExpiry, set, if_true]
      by_cases indet : s.deriveMode u = .indet
      · have fresh : (s.unit u).mode ≠ .indet := fun e => same (indet.trans e.symm)
        simp only [indet, fresh, if_true, if_false]
        rfl
      · simp only [indet, if_false]
    · rfl

theorem State.reconfigUnit_unit (s : State) (hu : 1 ≤ u ∧ u ≤ 8) (v : Nat) : (s.reconfigUnit u).unit v =
    if v = u then ((s.unit u).checkpoint s.tsc.e).rederived (s.deriveMode u) s.tsc.e s.dateNow (s.expiryNow u) else s.unit v := by
  have checked (w : Nat) : (s.checkpointNow u).unit w = if w = u then (s.unit u).checkpoint s.tsc.e else s.unit w :=
    s.checkpoint_unit u _ w (decide_eq_true hu)
  rw [State.reconfigUnit, State.rederive_unit _ hu, checked, if_pos rfl, checked]
  split <;> rfl

/-- The timer of a unit moved to the delay now in force (R122). -/
def GenUnit.timerMoved (g : GenUnit) (now delay : Nat) : DiscTimer :=
  match g.timer with
  | .running _ => if g.entry + delay ≤ now then .expired else .running (g.entry + delay)
  | .stopped => .stopped
  | .expired => .expired

theorem State.moveTimer_unit (s : State) (hu : 1 ≤ u ∧ u ≤ 8) (v : Nat) : (s.moveTimer u).unit v =
    if v = u then { s.unit u with timer := (s.unit u).timerMoved s.tsc.e ((s.unitCfg u).discrepDelay * 1000000) }
    else s.unit v := by
  have stays (e : (s.unit u).timerMoved s.tsc.e ((s.unitCfg u).discrepDelay * 1000000) = (s.unit u).timer) :
      s.unit v = if v = u then { s.unit u with
        timer := (s.unit u).timerMoved s.tsc.e ((s.unitCfg u).discrepDelay * 1000000) } else s.unit v := by
    rw [e]
    split
    next e => rw [e]
    next => rfl
  rw [State.moveTimer]
  cases timer : (s.unit u).timer with
  | running x =>
    rw [State.expireIfPassed_unit hu, GenUnit.timerMoved, timer]
    rfl
  | stopped => exact stays (by rw [GenUnit.timerMoved, timer])
  | expired => exact stays (by rw [GenUnit.timerMoved, timer])

theorem State.restartUnit_unit (s : State) (hu : 1 ≤ u ∧ u ≤ 8) (v : Nat) :
    let x := (s.unit u).rederived (s.deriveMode u) s.tsc.e s.dateNow (s.expiryNow u)
    (s.restartUnit u).unit v =
      if v = u then { x with timer := x.timerMoved s.tsc.e ((s.unitCfg u).discrepDelay * 1000000) } else s.unit v := by
  have kept := rederive_unchanged s (L := .tlu :: Part.recording) (by decide) (by decide) u
  have e : (s.rederive u).tsc = s.tsc := kept.tsc_eq (by decide) (by decide) (by decide) (by decide)
  have cfg : (s.rederive u).unitCfg u = s.unitCfg u := kept.unitCfg_eq (by decide) u
  rw [State.restartUnit, State.moveTimer_unit _ hu, State.rederive_unit _ hu, if_pos rfl, State.rederive_unit _ hu, e, cfg]
  split <;> rfl

/-! ### What those values are, field by field -/

theorem GenUnit.rederived_keeps (g : GenUnit) (new : Mode) (now : Nat) (date : Date) (expiry : Nat) :
    (g.rederived new now date expiry).mode = new ∧ (g.rederived new now date expiry).tally = g.tally := by
  rw [GenUnit.rederived]
  split
  next e => exact ⟨e.symm, rfl⟩
  next => exact ⟨rfl, rfl⟩

/-- The checkpoint instant of a unit booked and derived again now (R118, R126 step 3). -/
theorem GenUnit.rederived_ecp (g : GenUnit) (new : Mode) (now : Nat) (date : Date) (expiry : Nat) :
    ((g.checkpoint now).rederived new now date expiry).ecp =
      if new = .none then if g.mode = .none then g.ecp else none else some now := by
  obtain ⟨mode, -⟩ := g.checkpoint_keeps now
  by_cases unmonitored : g.mode = .none
  · have same : g.checkpoint now = g := if_pos unmonitored
    rw [same, GenUnit.rederived]
    by_cases none' : new = .none
    · rw [if_pos none', if_pos unmonitored, if_pos (none'.trans unmonitored.symm)]
    · rw [if_neg none', if_neg (fun e => none' (e.trans unmonitored)), unmonitored]
      cases new with
      | none => exact absurd rfl none'
      | _ => rfl
  · have ecp := GenUnit.checkpoint_ecp unmonitored now
    rw [GenUnit.rederived, mode]
    by_cases same : new = g.mode
    · rw [if_pos same, if_neg (same ▸ unmonitored), ecp]
    · rw [if_neg same]
      show ecpAfter g.mode new now (g.checkpoint now).ecp = _
      rw [ecp, if_neg unmonitored]
      cases new with
      | none => rfl
      | _ => cases hm : g.mode with
        | none => exact absurd hm unmonitored
        | _ => rfl

/-- A timer that has just been set is not moved. -/
theorem GenUnit.rederived_timerMoved (g : GenUnit) (new : Mode) (now : Nat) (date : Date) (delay : Nat) (h : new ≠ g.mode) :
    (g.rederived new now date (now + delay)).timerMoved now delay = (g.rederived new now date (now + delay)).timer := by
  rw [GenUnit.rederived, if_neg h, GenUnit.timerMoved]
  by_cases indet : new = .indet
  · simp only [if_pos indet]
    by_cases passed : now + delay ≤ now
    · simp only [if_pos passed]
    · simp only [if_neg passed]
  · simp only [if_neg indet]

/-! ### The evaluations that follow, and the checkpoints of a save -/

/-- A unit as it was or booked once more at `now`, but for its maintenance flag. -/
def GenUnit.Booked (now : Nat) (g h : GenUnit) : Prop :=
  h = { g with tally := { g.tally with due := h.tally.due } }
    ∨ h = { g.checkpoint now with tally := { (g.checkpoint now).tally with due := h.tally.due } }

theorem GenUnit.Booked.refl (now : Nat) (g : GenUnit) : g.Booked now g := .inl rfl

theorem GenUnit.Booked.evaluated (now : Nat) (g : GenUnit) (w : UnitSettings) (e : Nat) : g.Booked now (g.evaluated w e) := .inl rfl

theorem GenUnit.Booked.checkpoint (now : Nat) (g : GenUnit) : g.Booked now (g.checkpoint now) := .inr rfl

/-- The maintenance flag has no part in a checkpoint. -/
theorem GenUnit.checkpoint_due (g : GenUnit) (now : Nat) (due : Bool) :
    ({ g with tally := { g.tally with due := due } } : GenUnit).checkpoint now =
      { g.checkpoint now with tally := { (g.checkpoint now).tally with due := due } } := by
  by_cases hm : g.mode = .none
  · simp only [GenUnit.checkpoint, hm, if_true]
  · simp only [GenUnit.checkpoint, hm, if_false]
    rfl

theorem GenUnit.Booked.trans {now : Nat} {g h i : GenUnit} (gh : g.Booked now h) (hi : h.Booked now i) : g.Booked now i := by
  rcases gh with e | e <;> rcases hi with e' | e'
  · rw [e] at e'
    exact .inl e'
  · rw [e, GenUnit.checkpoint_due] at e'
    exact .inr e'
  · rw [e] at e'
    exact .inr e'
  · rw [e, GenUnit.checkpoint_due, GenUnit.checkpoint_again] at e'
    exact .inr e'

/-- What a booking at the present instant leaves. -/
theorem GenUnit.Booked.keeps {now : Nat} (gh : g.Booked now h) :
    h.mode = g.mode ∧ h.entry = g.entry ∧ h.entryDate = g.entryDate ∧ h.timer = g.timer
      ∧ (h.tally.starts = g.tally.starts ∧ h.tally.trips = g.tally.trips ∧ h.tally.baseline = g.tally.baseline
        ∧ h.tally.limit = g.tally.limit)
      ∧ ((g.mode = .none ∨ g.ecp = some now) → h.ecp = g.ecp) := by
  rcases gh with e | e
  · rw [e]
    exact ⟨rfl, rfl, rfl, rfl, ⟨rfl, rfl, rfl, rfl⟩, fun _ => rfl⟩
  · obtain ⟨mode, entry, date, timer, starts, trips, baseline, limit, -⟩ := g.checkpoint_keeps now
    rw [e]
    refine ⟨mode, entry, date, timer, ⟨starts, trips, baseline, limit⟩, fun settled => ?_⟩
    by_cases hm : g.mode = .none
    · show (g.checkpoint now).ecp = g.ecp
      rw [GenUnit.checkpoint, if_pos hm]
    · exact (GenUnit.checkpoint_ecp hm now).trans (settled.resolve_left hm).symm

/-- A checkpoint of a unit with nothing open leaves it (R118). -/
theorem GenUnit.checkpoint_settled {now : Nat} (settled : g.mode = .none ∨ g.ecp = some now) (inRange : g.tally.inRange) :
    g.checkpoint now = g := by
  by_cases unmonitored : g.mode = .none
  · exact if_pos unmonitored
  · have ecp := settled.resolve_left unmonitored
    have nothing : g.open' now = 0 := by
      rw [GenUnit.open', ecp]
      exact Nat.sub_self now
    obtain ⟨secs, rem⟩ := inRange.1 g.mode
    have carry : ((g.tally.accs.get g.mode).rem + 0) / 1000000 = 0 := by omega
    have stays : (g.tally.accs.get g.mode).overflows 0 = false := by
      rw [Acc.overflows, carry, decide_eq_false_iff_not]; omega
    have same : (g.tally.accs.get g.mode).book 0 = g.tally.accs.get g.mode := by
      rw [Acc.book, if_neg (Bool.eq_false_iff.1 stays), carry, Nat.add_zero, Nat.add_zero, Nat.mod_eq_of_lt (by omega)]
    have accs : g.tally.accs.set g.mode (g.tally.accs.get g.mode) = g.tally.accs := by cases g.mode <;> rfl
    rw [GenUnit.checkpoint, if_neg unmonitored, nothing]
    simp only [stays, same, accs, Bool.or_false, ← ecp]

theorem GenUnit.Booked.tally {now : Nat} (gh : g.Booked now h) (settled : g.mode = .none ∨ g.ecp = some now)
    (inRange : g.tally.inRange) : h.tally = { g.tally with due := h.tally.due } := by
  rcases gh with e | e
  · exact congrArg GenUnit.tally e
  · rw [GenUnit.checkpoint_settled settled inRange] at e
    exact congrArg GenUnit.tally e

end Sys2Proof.Machine

/-! PROOFS. `UnitRederived` from the value that a unit has when its mode is derived again, and its MODE record among those of the
units derived with it (R122, R126, R131). -/

namespace Sys2Proof.Machine

variable {s t m b : State} {g h : GenUnit} {u v j k n : Nat}

/-! ### What is said of a unit derived again -/

/-- The date of a mode entered now: time stands, the class is that before or after the command. -/
def DatedNow (s t : State) (date : Date) : Prop :=
  date.epoch = s.tsc.epoch ∧ date.s = s.tsc.s ∧ date.us = s.tsc.n / 1000 ∧ (date.cls = s.dsc.effClass ∨ date.cls = t.dsc.effClass)

/-- A MODE record of the change, behind the records held before. -/
def ModeRecorded (u : Nat) (old new : Mode) (starts : Nat) (s t : State) : Prop :=
  ∃ r ∈ t.evq.records.drop s.evq.records.length, r.detail = .mode u old new starts ∧ r.source = u

theorem UnitRederived.of_booked (hu : 1 ≤ u ∧ u ≤ 8) {new : Mode} {date : Date} {timer : DiscTimer}
    (booked : ({ ((s.unit u).checkpoint s.tsc.e).rederived new s.tsc.e date
        (s.tsc.e + (t.unitCfg u).discrepDelay * 1000000) with timer := timer } : GenUnit).Booked s.tsc.e (t.unit u))
    (derived : ModeDerived u new t) (dated : DatedNow s t date)
    (timed : new ≠ (s.unit u).mode → timer = (((s.unit u).checkpoint s.tsc.e).rederived new s.tsc.e date
      (s.tsc.e + (t.unitCfg u).discrepDelay * 1000000)).timer)
    (due : (t.unit u).tally.due = true ↔ (t.unit u).tally.limit ≤ t.eoh u)
    (record : new ≠ (s.unit u).mode → s.spacious → t.shu.schedule.length ≤ 6 → (t.unitCfg u).modeRecord = true →
      ModeRecorded u (s.unit u).mode new (s.unit u).tally.starts s t) : UnitRederived u s t := by
  obtain ⟨mode, entry, entryDate, -, starts, trips, baseline, limit, -⟩ := (s.unit u).checkpoint_keeps s.tsc.e
  have ecp := (s.unit u).rederived_ecp new s.tsc.e date (s.tsc.e + (t.unitCfg u).discrepDelay * 1000000)
  obtain ⟨newMode, tally⟩ := ((s.unit u).checkpoint s.tsc.e).rederived_keeps new s.tsc.e date
    (s.tsc.e + (t.unitCfg u).discrepDelay * 1000000)
  obtain ⟨hmode, hentry, hdate, htimer, ⟨hstarts, htrips, hbaseline, hlimit⟩, hecp⟩ := booked.keeps
  have settled : new = .none ∨ (((s.unit u).checkpoint s.tsc.e).rederived new s.tsc.e date
      (s.tsc.e + (t.unitCfg u).discrepDelay * 1000000)).ecp = some s.tsc.e := by
    by_cases none' : new = .none
    · exact .inl none'
    · exact .inr (ecp.trans (if_neg none'))
  have settled' := settled.imp_left newMode.trans
  have htally := booked.tally settled'
  have changed (other : new ≠ (s.unit u).mode) : ((s.unit u).checkpoint s.tsc.e).rederived new s.tsc.e date
      (s.tsc.e + (t.unitCfg u).discrepDelay * 1000000) = { (s.unit u).checkpoint s.tsc.e with
        mode := new, entry := s.tsc.e, entryDate := date, ecp := ecpAfter ((s.unit u).checkpoint s.tsc.e).mode new s.tsc.e
          ((s.unit u).checkpoint s.tsc.e).ecp
        timer := if new = .indet then if s.tsc.e + (t.unitCfg u).discrepDelay * 1000000 ≤ s.tsc.e then .expired
          else .running (s.tsc.e + (t.unitCfg u).discrepDelay * 1000000) else .stopped } :=
    if_neg (by rw [mode]; exact other)
  have same (e : new = (s.unit u).mode) : ((s.unit u).checkpoint s.tsc.e).rederived new s.tsc.e date
      (s.tsc.e + (t.unitCfg u).discrepDelay * 1000000) = (s.unit u).checkpoint s.tsc.e := if_pos (by rw [mode]; exact e)
  generalize ((s.unit u).checkpoint s.tsc.e).rederived new s.tsc.e date
    (s.tsc.e + (t.unitCfg u).discrepDelay * 1000000) = x at *
  have now : (t.unit u).mode = new := hmode.trans newMode
  refine ⟨now ▸ derived, ⟨?_, ?_, ?_, ?_⟩, fun inRange => ?_, due, ?_, fun e => ?_, fun other => ⟨?_, ?_, ?_, ?_⟩⟩
  · rw [hstarts, ← starts, ← tally]
  · rw [htrips, ← trips, ← tally]
  · rw [hbaseline, ← baseline, ← tally]
  · rw [hlimit, ← limit, ← tally]
  · have grown : ((s.unit u).checkpoint s.tsc.e).tally.inRange :=
      (GenUnit.checkpoint_growsTo (s.unit u) s.tsc.e (inRange u (decide_eq_true hu))).1
    rw [htally (show x.tally.inRange from tally ▸ grown), ← tally]
  · rw [now, hecp settled', ← ecp]
  · rw [hentry, hdate, same (now.symm.trans e)]
    exact ⟨entry, entryDate⟩
  · rw [hentry, changed (now ▸ other)]
  · rw [hdate, changed (now ▸ other)]
    obtain ⟨h1, h2, h3, h4⟩ := dated
    exact ⟨h1, h2, h3, h4⟩
  · rw [htimer, now]
    show timer = _
    rw [timed (now ▸ other), changed (now ▸ other)]
  · rw [now]
    exact record (now ▸ other)

/-! ### The MODE record among those of other units (R116, R126) -/

theorem Appends.rederive (s : State) (u : Nat) : Appends 2 [] s (s.rederive u) := by
  rw [State.rederive]
  split
  · exact (Appends.of_eq rfl).mono (by decide) (List.Subset.refl _)
  · exact ((Noted.enterMode s u _ _ _).trans (.placeMode _ u _ _)).appends

theorem Appends.expireIfPassed (s : State) (u : Nat) : Appends 1 [] s (s.expireIfPassed u) := (Noted.expireIfPassed s u).appends

theorem Appends.moveTimer (s : State) (u : Nat) : Appends 1 [] s (s.moveTimer u) := by
  have stays : Appends 1 [] s s := (Appends.of_eq rfl).mono (by decide) (List.Subset.refl _)
  rw [State.moveTimer]
  split
  · exact (Noted.setUnit s u _).appends.trans (.expireIfPassed _ u)
  · exact stays
  · exact stays

theorem State.rederive_record (before : Appends j [] b m) (after : Appends k [] (m.rederive u) t)
    (changes : m.deriveMode u ≠ (m.unit u).mode) (hu : 1 ≤ u ∧ u ≤ 8) (recorded : (m.unitCfg u).modeRecord = true)
    (hn : b.evq.nextSeq = some n) (room : b.evq.records.length + (j + 2 + k) ≤ 319) (numbers : n + (j + 2 + k) ≤ max32) :
    ModeRecorded u (m.unit u).mode (m.deriveMode u) (m.unit u).tally.starts b t := by
  have entered := (Noted.enterMode m u (m.deriveMode u) m.tsc.e m.dateNow).appends
  have unit : ((m.enterMode u (m.deriveMode u) m.tsc.e m.dateNow).unit u).mode = m.deriveMode u
      ∧ ((m.enterMode u (m.deriveMode u) m.tsc.e m.dateNow).unit u).tally.starts = (m.unit u).tally.starts := by
    rw [State.enterMode_unit _ hu, if_pos rfl]
    exact ⟨rfl, rfl⟩
  have cfg := (enterMode_unchanged m (L := .tlu :: Part.recording) (by decide) (by decide) u (m.deriveMode u) m.tsc.e
    m.dateNow).unitCfg_eq (by decide) u
  rw [State.rederive, if_neg changes, State.placeMode, cfg, if_pos recorded] at after
  generalize m.enterMode u (m.deriveMode u) m.tsc.e m.dateNow = q at *
  obtain ⟨mode, starts⟩ := unit
  obtain ⟨r, hr, number, fields⟩ := Appends.placed_between (before.trans entered) after hn (by omega) (by omega)
  refine ⟨r, hr, ?_, by rw [fields]; rfl⟩
  rw [fields]
  show Detail.mode u (m.unit u).mode (q.unit u).mode (q.unit u).tally.starts = _
  rw [mode, starts]

/-- One of several units derived again, each by `f`: its MODE record stands among those of the others. -/
theorem State.modeRecord_among {f : Nat → State → State} {us : List Nat} (nodup : us.Nodup) (hu : u ∈ us) (hu8 : 1 ≤ u ∧ u ≤ 8)
    (kept : ∀ v m, Unchanged (.tlu :: Part.recording) m (f v m)) (apart : ∀ v ∈ us, ∀ m, v ≠ u → (f v m).unit u = m.unit u)
    (few : ∀ v m, Appends 3 [] m (f v m))
    (own : ∀ m, ∃ c : State, c.evq = m.evq ∧ c.lqu = m.lqu ∧ c.cfg = m.cfg ∧ (c.unit u).mode = (m.unit u).mode
      ∧ (c.unit u).tally.starts = (m.unit u).tally.starts ∧ Appends 1 [] (c.rederive u) (f u m))
    (changes : s.deriveMode u ≠ (s.unit u).mode) (recorded : (s.unitCfg u).modeRecord = true)
    (before : Appends j [] b s) (after : Appends k [] (forAll us f s) t) (hn : b.evq.nextSeq = some n)
    (room : b.evq.records.length + (j + 3 * us.length + k) ≤ 319) (numbers : n + (j + 3 * us.length + k) ≤ max32) :
    ModeRecorded u (s.unit u).mode (s.deriveMode u) (s.unit u).tally.starts b t := by
  have count : ∀ (xs : List Nat) (m : State), Appends (3 * xs.length) [] m (forAll xs f m) := by
    intro xs
    induction xs with
    | nil => exact fun m => .of_eq rfl
    | cons x xs ih =>
      intro m
      rw [forAll_cons, List.length_cons, Nat.mul_succ, Nat.add_comm]
      exact (few x m).trans (ih _)
  obtain ⟨xs, ys, rfl⟩ := List.append_of_mem hu
  have fresh : u ∉ xs := fun hb => (List.nodup_append.1 nodup).2.2 u hb u List.mem_cons_self rfl
  obtain ⟨same, earlier⟩ := forAll_keeps (fun m => m.unit u = s.unit u ∧ Unchanged (.tlu :: Part.recording) s m) xs f
    (fun v hv m ⟨same, h⟩ => ⟨(apart v (List.mem_append_left _ hv) m fun e => fresh (e ▸ hv)).trans same, h.trans (kept v m)⟩)
    s ⟨rfl, .refl _ s⟩
  have first := before.trans (count xs s)
  rw [forAll_append, forAll_cons] at after
  generalize forAll xs f s = m at *
  obtain ⟨c, evq, lqu, cfg, mode, starts, posted⟩ := own m
  have lqu' : c.lqu = s.lqu := lqu.trans (earlier .lqu (by decide))
  have cfg' : c.cfg = s.cfg := cfg.trans (earlier .cfg (by decide))
  have derived : c.deriveMode u = s.deriveMode u := State.deriveMode_congr lqu' cfg' u
  have recorded' : (c.unitCfg u).modeRecord = true := by rw [State.unitCfg, cfg']; exact recorded
  rw [same] at mode starts
  rw [List.length_append, List.length_cons] at room numbers
  have record := State.rederive_record (m := c) (first.congr rfl evq) ((posted.trans (count ys _)).trans after)
    (by rw [derived, mode]; exact changes) hu8 recorded' hn (by omega) (by omega)
  rwa [derived, mode, starts] at record

end Sys2Proof.Machine

/-! PROOFS. The units through a move of the local minute: booked, evaluated, and nothing else (R118, R135, R149). The pieces of
a restart, one by one (R62, R92, R113, R131, R190). -/

namespace Sys2Proof.Machine

variable {s t m : State} {u : Nat}

/-! ### Units through a fired boundary (R149, R174) -/

/-- Every unit stands, or has been booked up to this instant, but for its maintenance flag. -/
def UnitsBooked (s t : State) : Prop :=
  t.tsc.e = s.tsc.e ∧ ∀ u, 1 ≤ u ∧ u ≤ 8 → (s.unit u).Booked s.tsc.e (t.unit u)

theorem UnitsBooked.of_eq (tlu : t.tlu = s.tlu) (e : t.tsc.e = s.tsc.e) : UnitsBooked s t :=
  ⟨e, fun u _ => by rw [State.unit, State.unit, tlu]; exact .refl _ _⟩

theorem UnitsBooked.trans (h : UnitsBooked s m) (h' : UnitsBooked m t) : UnitsBooked s t :=
  ⟨h'.1.trans h.1, fun u hu => (h.2 u hu).trans (h.1 ▸ h'.2 u hu)⟩

theorem UnitsBooked.checkpointAll (s : State) : UnitsBooked s s.checkpointAll := by
  refine ⟨by rw [State.checkpointAll_tsc], fun u hu => ?_⟩
  rw [s.checkpointAll_unit hu]
  exact (GenUnit.Booked.checkpoint _ _).trans (.evaluated _ _ _ _)

theorem UnitsBooked.evalAll (s : State) : UnitsBooked s s.evalAll := by
  have tsc : s.evalAll.tsc = s.tsc :=
    (evalAll_unchanged s (L := .tlu :: Part.recording) (by decide) (by decide)).tsc_eq (by decide) (by decide) (by decide) (by decide)
  refine ⟨by rw [tsc], fun u hu => ?_⟩
  rw [s.evalAll_unit hu]
  exact .evaluated _ _ _ _

theorem UnitsBooked.takeSnapshot (s : State) : UnitsBooked s s.takeSnapshot := by
  have all := UnitsBooked.checkpointAll s
  rw [State.takeSnapshot]
  generalize s.checkpointAll = m at *
  exact all.trans (.of_eq (t := m.setStc _) rfl rfl)

theorem UnitsBooked.place (s : State) (p : Placement) : UnitsBooked s (s.place p) := .of_eq (s.place_tlu p) (by rw [State.place_tsc])

theorem UnitsBooked.closeRecord (s : State) (kind : ShiftKind) (event : ShiftEvent) (crew duration : Nat) :
    UnitsBooked s (s.closeRecord kind event crew duration) := by
  refine (UnitsBooked.checkpointAll s).trans ?_
  rw [State.closeRecord]
  generalize s.checkpointAll = m
  have closed (x : ShiftUnitState) (r : ShiftRecord) : UnitsBooked m ((m.setShu x).setCurrent r) := .of_eq rfl rfl
  exact (closed _ _).trans (.place _ _)

theorem UnitsBooked.closeShift (s : State) (kind : ShiftKind) (event : ShiftEvent) (crew duration : Nat) :
    UnitsBooked s (s.closeShift kind event crew duration) := by
  have opened : UnitsBooked s (s.shiftOpened kind event crew duration) := by
    refine (UnitsBooked.closeRecord s kind event crew duration).trans ?_
    rw [State.shiftOpened]
    generalize s.closeRecord kind event crew duration = m
    obtain ⟨-, ⟨tsc, -, tlu, -⟩, -⟩ := m.requestShiftSave_leaves
    obtain ⟨-, -, tlu', -, tsc'⟩ := m.requestShiftSave.openShift_leaves crew
    generalize m.requestShiftSave.openShift crew = b at *
    have ended (r : ShiftRecord) : UnitsBooked b (b.setCurrent r).endHandover := .of_eq rfl rfl
    exact (UnitsBooked.of_eq (tlu'.trans tlu) (by rw [tsc', tsc])).trans (ended _)
  rw [State.closeShift_eq]
  split
  · exact opened.trans (.takeSnapshot _)
  · exact opened

theorem UnitsBooked.of_unchanged {L : List Part} (h : Unchanged L s t) (hc : .clock ∉ L) (ht : .tlu ∉ L) : UnitsBooked s t :=
  .of_eq (h .tlu ht) (h .clock hc).2.2.1

theorem UnitsBooked.judgeEntry (s : State) (x : ScheduleEntry) : UnitsBooked s (s.judgeEntry x) := by
  rw [State.judgeEntry]
  split
  · exact .closeShift s _ _ _ _
  · exact .of_unchanged (s.openHandover_leaves x.crew x.window).2.2.2 (by decide) (by decide)

theorem UnitsBooked.missHandover (s : State) : UnitsBooked s s.missHandover := by
  simp only [State.missHandover, State.placeShift]
  have placed := UnitsBooked.place s { detail := .shift .missed (low16 s.shu.current.number) (s.shu.expected.getD 0) }
  generalize s.place _ = m at *
  have ended (r : ShiftRecord) : UnitsBooked m ((m.raise .handoverMissed).setCurrent r).endHandover := .of_eq rfl rfl
  exact placed.trans (ended _)

theorem UnitsBooked.fireEntry (s : State) (x : ScheduleEntry) (day : Int) : UnitsBooked s (s.fireEntry x day) := by
  have fired : UnitsBooked s (s.setTsc { s.tsc with lastFired := fired s.tsc.lastFired x.start day }) := .of_eq rfl rfl
  rw [State.fireEntry]
  split
  · exact fired.trans (.judgeEntry _ _)
  · exact (fired.trans (.missHandover _)).trans (.judgeEntry _ _)

theorem UnitsBooked.jumpReport (s : State) (first last : Int) : UnitsBooked s (s.jumpReport first last) := by
  rw [State.jumpReport]
  split
  · exact .of_eq rfl rfl
  · have skipped := forAll_keeps (UnitsBooked s) (s.reached first last).dropLast (fun q acc => acc.placeShift .skipped q.2.crew)
      (fun q _ m h => h.trans (.place m _)) s (.of_eq rfl rfl)
    exact skipped.trans (.fireEntry _ _ _)

theorem UnitsBooked.trackMove (s : State) (held : Bool) : UnitsBooked s (s.trackMove held) := by
  have set (v : Option LocalMinute) : UnitsBooked s (s.setTracker v) := .of_eq rfl rfl
  rw [State.trackMove]
  split
  · exact .of_eq rfl rfl
  · dsimp only
    split_ifs
    · exact .of_eq rfl rfl
    · exact .of_eq rfl rfl
    · exact (set _).trans (.jumpReport _ _ _)
    · exact set _

theorem Appends.trackMove (s : State) (held : Bool) : Appends (s.shu.schedule.length + 10) [] s (s.trackMove held) := by
  have same {t : State} (h : t.evq = s.evq) : Appends (s.shu.schedule.length + 10) [] s t :=
    (Appends.of_eq h).mono (Nat.zero_le _) (List.nil_subset _)
  rw [State.trackMove]
  split
  · exact same rfl
  · dsimp only
    split_ifs
    · exact same rfl
    · exact same rfl
    · exact (State.jumpReport_appends (s.setTracker (some s.localMinute)) _ _).congr rfl rfl
    · exact same rfl

/-! ### The restart of DSC (R62) -/

theorem Receiver.told_reset (old new : DiscState) : Receiver.reset.told old new = Receiver.reset := by
  cases old <;> cases new <;> rfl

theorem State.restartDsc_unchanged (m : State) : Unchanged (.rrx :: .dsc :: Part.recording) m m.restartDsc := by
  have evaluated : Unchanged (.rrx :: .dsc :: Part.recording) m (m.setDsc (m.dsc.restarted m.cfg.slewLimit)).evalClass :=
    (setDsc_unchanged m (by decide) _).trans (evalClass_unchanged _ (by decide) (by decide))
  exact ite_unchanged evaluated (evaluated.trans (reportDisc_unchanged _ (by decide) (by decide) _))

theorem State.restartDsc_leaves (m : State) (hr : m.rrx = Receiver.reset) :
    m.restartDsc.rrx = Receiver.reset
      ∧ (∃ cls, m.restartDsc.dsc = { m.dsc.restarted m.cfg.slewLimit with effClass := cls })
      ∧ Appends 1 [] m m.restartDsc := by
  rw [State.restartDsc]
  have rrx : (m.setDsc (m.dsc.restarted m.cfg.slewLimit)).evalClass.rrx = Receiver.reset := (State.evalClass_rrx _).trans hr
  have dsc : (m.setDsc (m.dsc.restarted m.cfg.slewLimit)).evalClass.dsc = { m.dsc.restarted m.cfg.slewLimit with
      effClass := (m.dsc.restarted m.cfg.slewLimit).classNow } := State.evalClass_dsc _
  have evq : (m.setDsc (m.dsc.restarted m.cfg.slewLimit)).evalClass.evq = m.evq := State.evalClass_evq _
  generalize (m.setDsc (m.dsc.restarted m.cfg.slewLimit)).evalClass = c at *
  dsimp only
  split
  · exact ⟨rrx, ⟨_, dsc⟩, (Appends.of_eq evq).mono (by decide) (List.Subset.refl _)⟩
  · obtain ⟨-, -, -, records, -⟩ := Aside.reportDisc c m.dsc.state
    exact ⟨by rw [State.reportDisc_rrx, rrx, Receiver.told_reset], ⟨_, by rw [State.reportDisc_dsc, dsc]⟩, records.congr evq.symm rfl⟩

/-! ### The checkpoint, the lines and the units of a restart (R92, R131) -/

theorem State.restartCheckpoint_unit (s : State) (hu : 1 ≤ u ∧ u ≤ 8) :
    s.restartCheckpoint.unit u = (s.unit u).checkpoint s.tsc.e := by
  obtain ⟨hit, -, -⟩ := forAll_units (s := s) (us := numbers 8) (by decide) (f := State.checkpointNow)
    (P := Unchanged [.tlu, .current] s) (Q := fun v x => x = (s.unit v).checkpoint s.tsc.e)
    (fun v _ t ht => ht.trans (checkpoint_unchanged t (by decide) (by decide) _ _))
    (fun v hv t w hw => (t.checkpoint_unit v _ w (decide_eq_true ((mem_numbers 8 v).1 hv))).trans (if_neg hw))
    (fun v hv t ht same => by
      rw [State.checkpointNow, t.checkpoint_unit v _ v (decide_eq_true ((mem_numbers 8 v).1 hv)), if_pos rfl, same,
        ht.tsc_eq (by decide) (by decide) (by decide) (by decide)])
    (Unchanged.refl _ _)
  exact hit u ((mem_numbers 8 u).2 hu)

theorem State.restartUnit_unchanged (m : State) (u : Nat) : Unchanged (.tlu :: Part.recording) m (m.restartUnit u) :=
  (rederive_unchanged m (by decide) (by decide) u).trans (moveTimer_unchanged _ (by decide) (by decide) u)

theorem State.restartLines_unchanged (m : State) : Unchanged (.lqu :: .tlu :: Part.recording) m m.restartLines := by
  rw [State.restartLines, State.resample]
  exact (setLqu_unchanged m (by decide) _).trans
    (forAll_unchanged _ _ (fun u _ t => (t.restartUnit_unchanged u).mono (by decide)) _)

theorem State.resample_keeps (m : State) : m.resample.tsc = m.tsc ∧ m.resample.dsc = m.dsc ∧ m.resample.cfg = m.cfg
    ∧ m.resample.tlu = m.tlu ∧ m.resample.evq = m.evq := by
  have set (x : Vector Line 32) : (m.setLqu x).tsc = m.tsc ∧ (m.setLqu x).dsc = m.dsc ∧ (m.setLqu x).cfg = m.cfg
      ∧ (m.setLqu x).tlu = m.tlu ∧ (m.setLqu x).evq = m.evq := ⟨rfl, rfl, rfl, rfl, rfl⟩
  rw [State.resample]
  exact set _

/-- The value of a unit that has been derived again and its timer moved (R131). -/
def GenUnit.restarted (g : GenUnit) (new : Mode) (now : Nat) (date : Date) (delay : Nat) : GenUnit :=
  { g.rederived new now date (now + delay) with timer := (g.rederived new now date (now + delay)).timerMoved now delay }

/-- A unit after every mode has been derived again (R131). -/
theorem State.restartUnits_unit (r : State) (hu : 1 ≤ u ∧ u ≤ 8) : (forAll (numbers 8) State.restartUnit r).unit u =
    (r.unit u).restarted (r.deriveMode u) r.tsc.e r.dateNow ((r.unitCfg u).discrepDelay * 1000000) := by
  obtain ⟨hit, -, -⟩ := forAll_units (s := r) (us := numbers 8) (by decide) (f := State.restartUnit)
    (P := Unchanged (.tlu :: Part.recording) r)
    (Q := fun v y => y = (r.unit v).restarted (r.deriveMode v) r.tsc.e r.dateNow ((r.unitCfg v).discrepDelay * 1000000))
    (fun v _ t ht => ht.trans (t.restartUnit_unchanged v))
    (fun v hv t w hw => (t.restartUnit_unit ((mem_numbers 8 v).1 hv) w).trans (if_neg hw))
    (fun v hv t ht same => by
      have tsc : t.tsc = r.tsc := ht.tsc_eq (by decide) (by decide) (by decide) (by decide)
      have dsc : t.dsc = r.dsc := ht .dsc (by decide)
      have settings : t.unitCfg v = r.unitCfg v := ht.unitCfg_eq (by decide) v
      have mode : t.deriveMode v = r.deriveMode v := State.deriveMode_congr (ht .lqu (by decide)) (ht .cfg (by decide)) v
      have date : t.dateNow = r.dateNow := by simp only [State.dateNow, State.latch, tsc, dsc]
      rw [t.restartUnit_unit ((mem_numbers 8 v).1 hv) v, if_pos rfl, same, mode, date, State.expiryNow, tsc, settings,
        GenUnit.restarted])
    (Unchanged.refl _ _)
  exact hit u ((mem_numbers 8 u).2 hu)

/-- A unit after the lines have been sampled and every mode derived again (R92, R131). -/
theorem State.restartLines_unit (m : State) (hu : 1 ≤ u ∧ u ≤ 8) : m.restartLines.unit u =
    (m.unit u).restarted (m.resample.deriveMode u) m.tsc.e m.dateNow ((m.unitCfg u).discrepDelay * 1000000) := by
  obtain ⟨tsc, dsc, cfg, tlu, -⟩ := m.resample_keeps
  have date : m.resample.dateNow = m.dateNow := by simp only [State.dateNow, State.latch, tsc, dsc]
  have unit : m.resample.unit u = m.unit u := by rw [State.unit, State.unit, tlu]
  have settings : m.resample.unitCfg u = m.unitCfg u := by rw [State.unitCfg, State.unitCfg, cfg]
  rw [State.restartLines, State.restartUnits_unit _ hu, unit, date, tsc, settings]

theorem Appends.restartUnit (v : Nat) (m : State) : Appends 3 [] m (m.restartUnit v) :=
  (Appends.rederive m v).trans (.moveTimer _ v)

theorem Appends.restartLines (m : State) : Appends 24 [] m m.restartLines := by
  have count : ∀ (xs : List Nat) (c : State), Appends (3 * xs.length) [] c (forAll xs State.restartUnit c) := by
    intro xs
    induction xs with
    | nil => exact fun c => .of_eq rfl
    | cons x xs ih =>
      intro c
      rw [forAll_cons, List.length_cons, Nat.mul_succ, Nat.add_comm]
      exact (Appends.restartUnit x c).trans (ih _)
  obtain ⟨-, -, -, -, evq⟩ := m.resample_keeps
  exact (count (numbers 8) m.resample).congr evq.symm rfl

end Sys2Proof.Machine

/-! PROOFS. The stages of a restart (R190): the load, the queue, DSC with the lines, SHU with the local minute, the evaluations. -/

namespace Sys2Proof.Machine

variable {s t m x y : State} {u k n : Nat}

/-! ### The load (R113, R131, R181, R196) -/

/-- A restart up to the queue: the image judged, every unit checkpointed, the settings loaded, the notices restarted. -/
def State.restartLoaded (s : State) : State :=
  let d := s.judgeStore.restartCheckpoint.setCfg (loadedSettings s.stc.store.load)
  d.setNtc (d.ntc.restart d.cfg.noticeMask)

/-- The DELIVERED marks cleared and the watermark evaluated. -/
def State.restartCleared (s : State) : State :=
  (s.restartLoaded.setEvq s.restartLoaded.evq.undeliver).evalWatermark

/-- The RESTART record placed, STORE_FAIL raised for a CORRUPT image, and RRX reset. -/
def State.restartRecorded (s : State) : State :=
  ((s.restartCleared.place { detail := .restart false s.restartCleared.stc.state }).raiseIfCorrupt).setRrx Receiver.reset

/-- The rest of a restart. -/
def State.restartEnded (schedule : List ScheduleEntry) (offset : Int) (x : State) : State :=
  (eitherOrder (State.setSchedule schedule) (State.restartOffset offset)
    (eitherOrder State.restartDsc State.restartLines x)).evalAll.setAutosave

theorem State.restart_eq (s : State) : s.restart =
    s.restartRecorded.restartEnded ((s.stc.store.load.map (·.schedule)).getD []) s.cfg.localOffset := rfl

theorem State.restartCheckpoint_unchanged (s : State) : Unchanged [.tlu, .current] s s.restartCheckpoint :=
  forAll_unchanged _ _ (fun u _ t => checkpoint_unchanged t (by decide) (by decide) u _) s

theorem State.restartLoaded_leaves (s : State) :
    Unchanged [.tlu, .current, .stc, .ntc, .cfg] s s.restartLoaded
      ∧ s.restartLoaded.stc = { s.stc with state := s.stc.store.judge }
      ∧ s.restartLoaded.cfg = loadedSettings s.stc.store.load
      ∧ (∀ u, 1 ≤ u ∧ u ≤ 8 → s.restartLoaded.unit u = (s.unit u).checkpoint s.tsc.e)
      ∧ s.restartLoaded.ntc.flags.getLsbD 8 = true ∧ s.restartLoaded.ntcLatched := by
  have judged : Unchanged [.stc] s s.judgeStore := setStc_unchanged s (by decide) _
  have stc : s.judgeStore.stc = { s.stc with state := s.stc.store.judge } := rfl
  have units (u : Nat) : s.judgeStore.unit u = s.unit u := rfl
  have now : s.judgeStore.tsc = s.tsc := rfl
  simp only [State.restartLoaded]
  generalize s.judgeStore = j at *
  have checked := j.restartCheckpoint_unchanged
  have unit (u : Nat) (hu : 1 ≤ u ∧ u ≤ 8) := j.restartCheckpoint_unit hu
  generalize j.restartCheckpoint = c at *
  generalize loadedSettings s.stc.store.load = cfg
  have set : Unchanged [.ntc, .cfg] c ((c.setCfg cfg).setNtc ((c.setCfg cfg).ntc.restart (c.setCfg cfg).cfg.noticeMask)) :=
    (setCfg_unchanged c (by decide) _).trans (setNtc_unchanged _ (by decide) _)
  have restarted : Notice.restarted.bit.getLsbD 8 = true := by decide
  refine ⟨((judged.mono (by decide)).trans (checked.mono (by decide))).trans (set.mono (by decide)), ?_, rfl, fun u hu => ?_, ?_, ?_⟩
  · have e : c.stc = j.stc := checked .stc (by decide)
    exact e.trans stc
  · have e := unit u hu
    rw [units, now] at e
    exact e
  · show (c.ntc.conditions ||| Notice.restarted.bit).getLsbD 8 = true
    rw [BitVec.getLsbD_or, restarted, Bool.or_true]
  · obtain ⟨-, latched⟩ := NoticeUnit.restart_consistent c.ntc cfg.noticeMask
    exact latched

theorem State.restartCleared_leaves (s : State) :
    Unchanged [.tlu, .current, .stc, .ntc, .cfg, .evq] s s.restartCleared
      ∧ s.restartCleared.stc = { s.stc with state := s.stc.store.judge }
      ∧ s.restartCleared.cfg = loadedSettings s.stc.store.load
      ∧ (∀ u, 1 ≤ u ∧ u ≤ 8 → s.restartCleared.unit u = (s.unit u).checkpoint s.tsc.e)
      ∧ s.restartCleared.evq = s.evq.undeliver ∧ RestartHeld s.restartCleared := by
  obtain ⟨kept, stc, cfg, units, restarted, latched⟩ := s.restartLoaded_leaves
  have evq : s.restartLoaded.evq = s.evq := kept .evq (by decide)
  simp only [State.restartCleared]
  generalize s.restartLoaded = d at *
  have cleared : Unchanged [.ntc, .evq] d (d.setEvq d.evq.undeliver).evalWatermark :=
    (setEvq_unchanged d (by decide) _).trans (evalWatermark_unchanged _ (by decide))
  have queue : (d.setEvq d.evq.undeliver).evalWatermark.evq = s.evq.undeliver := congrArg EventQueue.undeliver evq
  have undelivered : ∀ r ∈ s.evq.undeliver.records, r.delivered = false := by
    intro r hr
    obtain ⟨r', -, rfl⟩ := List.mem_map.1 hr
    rfl
  have level : (d.setEvq d.evq.undeliver).evalWatermark.ntc.conditions.getLsbD 9 =
      decide (d.cfg.watermark ≤ d.evq.undeliver.records.length) :=
    (NoticeUnit.hand_condition _ .queueLevel .queueLevel _ _).trans (if_pos rfl)
  have flag : (d.setEvq d.evq.undeliver).evalWatermark.ntc.flags.getLsbD Notice.restarted.index = true :=
    (NoticeUnit.hand_flag _ .queueLevel .restarted _ _).trans
      (by rw [show (d.setEvq d.evq.undeliver).ntc.flags.getLsbD Notice.restarted.index = true from restarted]; rfl)
  have conditions : (d.setEvq d.evq.undeliver).evalWatermark.ntcLatched := keptApart_latched.kept.hand _ _ latched
  refine ⟨(kept.mono (by decide)).trans (cleared.mono (by decide)), stc, cfg, units, queue, ?_, ?_, flag, conditions⟩
  · rw [queue]
    exact undelivered
  · rw [level, evq]
    rfl

/-! ### DSC and the lines (R62, R92, R131) -/

/-- In either order, the lines are sampled and the units derived in a state that DSC's part precedes or follows. -/
theorem State.restartBoth_leaves (x : State) (hr : x.rrx = Receiver.reset) :
    let y := eitherOrder State.restartDsc State.restartLines x
    ∃ m, Unchanged (.rrx :: .dsc :: .draws :: Part.recording) x m ∧ (m.dsc = x.dsc ∨ m.dsc = y.dsc) ∧ Appends 1 [] x m
      ∧ Unchanged (.rrx :: .dsc :: Part.recording) m.restartLines y ∧ Appends 1 [] m.restartLines y
      ∧ y.rrx = Receiver.reset ∧ ∃ cls, y.dsc = { x.dsc.restarted x.cfg.slewLimit with effClass := cls } := by
  intro y
  have drawn : Unchanged (.rrx :: .dsc :: .draws :: Part.recording) x (x.setDraws (x.draws + 1)) := setDraws_unchanged x (by decide) _
  have nothing {a b : State} (h : b.evq = a.evq) : Appends 1 [] a b := (Appends.of_eq h).mono (by decide) (List.Subset.refl _)
  rcases eitherOrder_cases State.restartDsc State.restartLines x with e | e
  · have changed := (x.setDraws (x.draws + 1)).restartDsc_unchanged
    obtain ⟨rrx, ⟨cls, dsc⟩, records⟩ := (x.setDraws (x.draws + 1)).restartDsc_leaves hr
    have e' : y = ((x.setDraws (x.draws + 1)).restartDsc).restartLines := e
    have x' : (x.setDraws (x.draws + 1)).dsc = x.dsc ∧ (x.setDraws (x.draws + 1)).cfg = x.cfg
      ∧ (x.setDraws (x.draws + 1)).evq = x.evq := ⟨rfl, rfl, rfl⟩
    generalize x.setDraws (x.draws + 1) = x0 at *
    generalize x0.restartDsc = m at *
    have lines := m.restartLines_unchanged
    have rrx' : m.restartLines.rrx = m.rrx := lines .rrx (by decide)
    have dsc' : m.restartLines.dsc = m.dsc := lines .dsc (by decide)
    obtain ⟨x1, x2, x3⟩ := x'
    rw [e']
    refine ⟨m, drawn.trans (changed.mono (by decide)), .inr dsc'.symm, records.congr x3.symm rfl, .refl _ _, nothing rfl, rrx'.trans rrx, cls, ?_⟩
    rw [dsc', dsc, x1, x2]
  · have e' : y = ((x.setDraws (x.draws + 1)).restartLines).restartDsc := e
    have x' : (x.setDraws (x.draws + 1)).dsc = x.dsc ∧ (x.setDraws (x.draws + 1)).cfg = x.cfg
      ∧ (x.setDraws (x.draws + 1)).evq = x.evq ∧ (x.setDraws (x.draws + 1)).rrx = x.rrx := ⟨rfl, rfl, rfl, rfl⟩
    generalize x.setDraws (x.draws + 1) = x0 at *
    have lines := x0.restartLines_unchanged
    have rrx' : x0.restartLines.rrx = x0.rrx := lines .rrx (by decide)
    have dsc' : x0.restartLines.dsc = x0.dsc := lines .dsc (by decide)
    have cfg' : x0.restartLines.cfg = x0.cfg := lines .cfg (by decide)
    obtain ⟨x1, x2, x3, x4⟩ := x'
    have changed := x0.restartLines.restartDsc_unchanged
    obtain ⟨rrx, ⟨cls, dsc⟩, records⟩ := x0.restartLines.restartDsc_leaves (rrx'.trans (x4.trans hr))
    rw [e']
    refine ⟨x0, drawn, .inl x1, nothing x3, changed, records, rrx, cls, ?_⟩
    rw [dsc, dsc', cfg', x1, x2]

/-! ### SHU and the local minute (R18, R169) -/

/-- In either order, the schedule is the loaded one, and a moved local minute may fire. -/
theorem State.restartShift_leaves (y : State) (free : y.stc.inFlight = none) (schedule : List ScheduleEntry) (offset : Int) :
    let z := eitherOrder (State.setSchedule schedule) (State.restartOffset offset) y
    Unchanged (.schedule :: Part.firing) y z ∧ z.shu.schedule = schedule ∧ UnitsBooked y z
      ∧ (z.stc.store = y.stc.store ∧ z.stc.state = y.stc.state ∧ z.stc.holdup = y.stc.holdup)
      ∧ Placing y z ∧ Appends (max y.shu.schedule.length schedule.length + 10) [] y z := by
  intro z
  have moves (m : State) (hm : m.stc.inFlight = none) : Unchanged Part.firing m (m.restartOffset offset)
      ∧ UnitsBooked m (m.restartOffset offset) ∧ ShiftAsked m (m.restartOffset offset) ∧ Placing m (m.restartOffset offset)
      ∧ Appends (m.shu.schedule.length + 10) [] m (m.restartOffset offset) := by
    have placing := Placing.restartOffset m offset
    rw [State.restartOffset] at placing ⊢
    split
    · exact ⟨.refl _ m, .of_eq rfl rfl, .inl rfl, .refl m, (Appends.of_eq rfl).mono (by omega) (List.Subset.refl _)⟩
    · exact ⟨trackMove_unchanged m (List.Subset.refl _) false, .trackMove m false, .trackMove m hm false, .trackMove m false,
        .trackMove m false⟩
  have sets (m : State) : Unchanged [.schedule, .tracker] m (m.setSchedule schedule)
      ∧ (m.setSchedule schedule).shu.schedule = schedule ∧ (m.setSchedule schedule).stc = m.stc
      ∧ (m.setSchedule schedule).tlu = m.tlu ∧ (m.setSchedule schedule).tsc.e = m.tsc.e
      ∧ (m.setSchedule schedule).evq = m.evq :=
    ⟨setSchedule_unchanged m (by decide) (by decide) schedule, rfl, rfl, rfl, rfl, rfl⟩
  have drawn : Unchanged (.schedule :: Part.firing) y (y.setDraws (y.draws + 1)) := setDraws_unchanged y (by decide) _
  have y' : (y.setDraws (y.draws + 1)).shu = y.shu ∧ (y.setDraws (y.draws + 1)).stc = y.stc
      ∧ (y.setDraws (y.draws + 1)).tlu = y.tlu ∧ (y.setDraws (y.draws + 1)).tsc.e = y.tsc.e
      ∧ (y.setDraws (y.draws + 1)).evq = y.evq ∧ Placing y (y.setDraws (y.draws + 1)) :=
    ⟨rfl, rfl, rfl, rfl, rfl, .blocks rfl rfl rfl⟩
  rcases eitherOrder_cases (State.setSchedule schedule) (State.restartOffset offset) y with e | e
  · have e' : z = ((y.setDraws (y.draws + 1)).setSchedule schedule).restartOffset offset := e
    generalize y.setDraws (y.draws + 1) = y0 at *
    obtain ⟨shu0, stc0, tlu0, e0, evq0, placing0⟩ := y'
    obtain ⟨kept1, schedule1, stc1, tlu1, e1, evq1⟩ := sets y0
    have placing1 := Placing.setSchedule y0 schedule
    generalize y0.setSchedule schedule = y1 at *
    obtain ⟨kept2, units2, asked2, placing2, records2⟩ := moves y1 (by rw [stc1, stc0, free])
    obtain ⟨store, state, holdup, -⟩ := asked2.stands
    rw [e']
    refine ⟨(drawn.trans (kept1.mono (by decide))).trans (kept2.mono (by decide)), ?_,
      (UnitsBooked.of_eq (tlu1.trans tlu0) (e1.trans e0)).trans units2, ?_, (placing0.trans placing1).trans placing2, ?_⟩
    · exact (kept2 .schedule (by decide)).trans schedule1
    · rw [store, state, holdup, stc1, stc0]
      exact ⟨rfl, rfl, rfl⟩
    · rw [schedule1] at records2
      exact (records2.mono (by omega) (List.Subset.refl _)).congr (evq1.trans evq0).symm rfl
  · have e' : z = ((y.setDraws (y.draws + 1)).restartOffset offset).setSchedule schedule := e
    generalize y.setDraws (y.draws + 1) = y0 at *
    obtain ⟨shu0, stc0, tlu0, e0, evq0, placing0⟩ := y'
    obtain ⟨kept1, units1, asked1, placing1, records1⟩ := moves y0 (by rw [stc0, free])
    obtain ⟨store, state, holdup, -⟩ := asked1.stands
    generalize y0.restartOffset offset = y1 at *
    obtain ⟨kept2, schedule2, stc2, tlu2, e2, evq2⟩ := sets y1
    have placing2 := Placing.setSchedule y1 schedule
    rw [e']
    refine ⟨(drawn.trans (kept1.mono (by decide))).trans (kept2.mono (by decide)), schedule2,
      (UnitsBooked.of_eq tlu0 e0).trans (units1.trans (.of_eq tlu2 e2)), ?_, (placing0.trans placing1).trans placing2, ?_⟩
    · rw [stc2, store, state, holdup, stc0]
      exact ⟨rfl, rfl, rfl⟩
    · rw [shu0] at records1
      exact (records1.mono (by omega) (List.Subset.refl _)).congr evq0.symm evq2

end Sys2Proof.Machine

/-! PROOFS. O6: the restart put together from its stages (R18, R41, R62, R71, R92, R113, R131, R190, R196). -/

namespace Sys2Proof.Machine

variable {s t m x y z : State} {u k n : Nat}

/-! ### The record and the receiver -/

/-- The RESTART record's request (R113). -/
def State.restartNote (s : State) : Placement := { detail := .restart false s.restartCleared.stc.state }

theorem State.restartRecorded_leaves (s : State) :
    let p := s.restartCleared.place s.restartNote
    s.restartRecorded.rrx = Receiver.reset ∧ Unchanged (.rrx :: Part.recording) s.restartCleared s.restartRecorded
      ∧ Placing p s.restartRecorded ∧ s.restartRecorded.evq = p.evq := by
  intro p
  have placed : Unchanged (.rrx :: Part.recording) s.restartCleared p := place_unchanged _ (by decide) _
  have e : s.restartRecorded = p.raiseIfCorrupt.setRrx Receiver.reset := rfl
  clear_value p
  have raised : Unchanged (.rrx :: Part.recording) p p.raiseIfCorrupt ∧ p.raiseIfCorrupt.evq = p.evq := by
    rw [State.raiseIfCorrupt]
    split
    · exact ⟨raise_unchanged p (by decide) _, rfl⟩
    · exact ⟨.refl _ p, rfl⟩
  have placing := Placing.raiseIfCorrupt p
  rw [e]
  generalize p.raiseIfCorrupt = q at *
  exact ⟨rfl, (placed.trans raised.1).trans (setRrx_unchanged q (by decide) _), placing.trans (.setRrx q _), raised.2⟩

/-! ### The evaluations at the end (R131) -/

theorem State.setAutosave_keeps (s : State) : s.setAutosave.tlu = s.tlu ∧ s.setAutosave.tsc = s.tsc ∧ s.setAutosave.cfg = s.cfg
    ∧ s.setAutosave.evq = s.evq ∧ s.setAutosave.shu = s.shu ∧ s.setAutosave.stc.store = s.stc.store
    ∧ s.setAutosave.stc.state = s.stc.state ∧ s.setAutosave.stc.holdup = s.stc.holdup ∧ Placing s s.setAutosave :=
  ⟨rfl, rfl, rfl, rfl, rfl, rfl, rfl, rfl, .blocks rfl rfl rfl⟩

/-- The units evaluated and the autosave expiry set. -/
theorem State.evaluated_leaves (z : State) :
    let t := z.evalAll.setAutosave
    Unchanged (.tlu :: .stc :: Part.recording) z t ∧ Placing z t ∧ Appends 8 [] z t ∧ UnitsBooked z t
      ∧ (∀ u, 1 ≤ u ∧ u ≤ 8 → t.unit u = (z.unit u).evaluated (t.unitCfg u) t.tsc.e) ∧ ShiftBooked z t
      ∧ t.stc.store = z.stc.store ∧ t.stc.state = z.stc.state ∧ t.stc.holdup = z.stc.holdup := by
  intro t
  have evaluated : Unchanged (.tlu :: Part.recording) z z.evalAll := evalAll_unchanged z (by decide) (by decide)
  have placing := Placing.evalAll z
  have records := Appends.evalAll z
  have units := UnitsBooked.evalAll z
  have unit (u : Nat) (hu : 1 ≤ u ∧ u ≤ 8) := z.evalAll_unit hu
  have booked := ShiftBooked.evalAll z
  have e : t = z.evalAll.setAutosave := rfl
  clear_value t
  generalize z.evalAll = v at *
  have set : Unchanged (.tlu :: .stc :: Part.recording) v v.setAutosave := setAutosave_unchanged v (by decide)
  obtain ⟨tlu, tsc, cfg, evq, shu, store, state, holdup, placing'⟩ := v.setAutosave_keeps
  rw [← e] at *
  have stc : v.stc = z.stc := evaluated .stc (by decide)
  have all : Unchanged (.tlu :: .stc :: Part.recording) z t := (evaluated.mono (by decide)).trans set
  refine ⟨all, placing.trans placing', records.congr rfl evq, units.trans (.of_eq tlu (by rw [tsc])), fun u hu => ?_,
    booked.trans (.of_eq shu), by rw [store, stc], by rw [state, stc], by rw [holdup, stc]⟩
  have now : t.tsc = z.tsc := all.tsc_eq (by decide) (by decide) (by decide) (by decide)
  rw [State.unit, tlu, now, all.unitCfg_eq (by decide) u]
  exact unit u hu

/-! ### All stages -/

/-- The stages of a restart, from the queue cleared to the end: `m` is where the lines are sampled, `z` where the units are
evaluated. -/
theorem State.restart_stages (s : State) (free : s.stc.inFlight = none) :
    let c := s.restartCleared
    let t := s.restart
    let load := s.stc.store.load
    let entries := (load.map (·.schedule)).getD []
    ∃ m z, Unchanged (.rrx :: .dsc :: .draws :: Part.recording) c m ∧ (m.dsc = s.dsc ∨ m.dsc = t.dsc)
      ∧ Appends 1 [] (c.place s.restartNote) m
      ∧ Unchanged (.rrx :: .dsc :: .schedule :: Part.firing) m.restartLines t
      ∧ UnitsBooked m.restartLines z
      ∧ (∀ u, 1 ≤ u ∧ u ≤ 8 → t.unit u = (z.unit u).evaluated (t.unitCfg u) t.tsc.e)
      ∧ Appends (max s.shu.schedule.length entries.length + 19) [] m.restartLines t
      ∧ Placing (c.place s.restartNote) t
      ∧ t.rrx = Receiver.reset ∧ (∃ cls, t.dsc = { s.dsc.restarted t.cfg.slewLimit with effClass := cls })
      ∧ t.shu.schedule = entries
      ∧ (t.stc.store = s.stc.store ∧ t.stc.state = s.stc.store.judge ∧ t.stc.holdup = s.stc.holdup) := by
  intro c t load entries
  obtain ⟨kept0, stc0, cfg0, units0, evq0, held0⟩ := s.restartCleared_leaves
  obtain ⟨rrx1, kept1, placing1, evq1⟩ := s.restartRecorded_leaves
  have ends : t = s.restartRecorded.restartEnded entries s.cfg.localOffset := s.restart_eq
  have hc : c = s.restartCleared := rfl
  clear_value t c
  subst hc
  generalize s.restartRecorded = x at *
  have dscx : x.dsc = s.dsc := (kept1 .dsc (by decide)).trans (kept0 .dsc (by decide))
  have stcx : x.stc = s.restartCleared.stc := kept1 .stc (by decide)
  have shux : x.shu.schedule = s.shu.schedule := (kept1 .schedule (by decide)).trans (kept0 .schedule (by decide))
  have placingY : Placing x (eitherOrder State.restartDsc State.restartLines x) :=
    .eitherOrder (fun s => .restartDsc s) (fun s => .restartLines s) x
  obtain ⟨m, kept2, dscm, records2, kept3, records3, rrxy, cls, dscy⟩ := x.restartBoth_leaves rrx1
  rw [State.restartEnded] at ends
  generalize eitherOrder State.restartDsc State.restartLines x = y at *
  have lines := m.restartLines_unchanged
  have before : Unchanged (.rrx :: .dsc :: .lqu :: .tlu :: .draws :: Part.recording) x y :=
    ((kept2.mono (by decide)).trans (lines.mono (by decide))).trans (kept3.mono (by decide))
  have stcy : y.stc = x.stc := before .stc (by decide)
  have shuy : y.shu.schedule = x.shu.schedule := before .schedule (by decide)
  obtain ⟨kept4, schedule4, units4, ⟨store4, state4, holdup4⟩, placing4, records4⟩ :=
    y.restartShift_leaves (by rw [stcy, stcx, stc0]; exact free) entries s.cfg.localOffset
  generalize eitherOrder (State.setSchedule entries) (State.restartOffset s.cfg.localOffset) y = z at *
  obtain ⟨kept5, placing5, records5, -, unit5, -, store5, state5, holdup5⟩ := z.evaluated_leaves
  rw [← ends] at kept5 placing5 records5 unit5 store5 state5 holdup5
  have dsct : t.dsc = y.dsc := (kept5 .dsc (by decide)).trans (kept4 .dsc (by decide))
  have rrxt : t.rrx = y.rrx := (kept5 .rrx (by decide)).trans (kept4 .rrx (by decide))
  have cfgt : t.cfg = x.cfg := (kept5 .cfg (by decide)).trans ((kept4 .cfg (by decide)).trans (before .cfg (by decide)))
  have schedulet : t.shu.schedule = z.shu.schedule := kept5 .schedule (by decide)
  refine ⟨m, z, (kept1.mono (by decide)).trans kept2, ?_, records2.congr evq1.symm rfl, ?_, ?_, unit5, ?_, ?_, rrxt.trans rrxy, ?_,
    schedulet.trans schedule4, ?_, ?_, ?_⟩
  · rw [dsct, ← dscx]
    exact dscm
  · exact ((kept3.mono (by decide)).trans (kept4.mono (by decide))).trans (kept5.mono (by decide))
  · exact (UnitsBooked.of_unchanged kept3 (by decide) (by decide)).trans units4
  · rw [shuy, shux] at records4
    exact ((records3.trans records4).trans records5).mono (by omega) (List.Subset.refl _)
  · exact ((placing1.trans placingY).trans placing4).trans placing5
  · exact ⟨cls, by rw [dsct, dscy, dscx, cfgt]⟩
  · rw [store5, store4, stcy, stcx, stc0]
  · rw [state5, state4, stcy, stcx, stc0]
  · rw [holdup5, holdup4, stcy, stcx, stc0]

end Sys2Proof.Machine

/-! PROOFS. O6: what a restart leaves of the units, the lines and the queue (R92, R113, R122, R131), and the statement. -/

namespace Sys2Proof.Machine

variable {s t m : State} {u k n : Nat}

/-! ### The units (R131) -/

theorem State.restartLines_lqu (m : State) : m.restartLines.lqu = m.resample.lqu := by
  have units : Unchanged (.tlu :: Part.recording) m.resample m.restartLines :=
    forAll_unchanged _ _ (fun u _ t => t.restartUnit_unchanged u) _
  exact units .lqu (by decide)

theorem EventQueue.undeliver_length (q : EventQueue) : q.undeliver.records.length = q.records.length := List.length_map _

/-- A unit restarted: its fields, and its timer moved when the mode stays (R122, R131). -/
theorem State.restart_unit (s : State) (free : s.stc.inFlight = none) (hu : 1 ≤ u ∧ u ≤ 8) :
    UnitRederived u s s.restart
      ∧ ((s.restart.unit u).mode = (s.unit u).mode → (s.restart.unit u).timer =
          (s.unit u).timerMoved s.tsc.e ((s.restart.unitCfg u).discrepDelay * 1000000)) := by
  obtain ⟨kept0, -, -, units0, evq0, -⟩ := s.restartCleared_leaves
  obtain ⟨m, z, kept1, dscm, records1, kept2, booked2, unit, records2, -, -, -, schedule, -⟩ := s.restart_stages free
  have records0 := Appends.place s.restartCleared s.restartNote
  generalize s.restart = t at *
  have placed : Appends 2 [] s.restartCleared m := (records0.trans records1).mono (by decide) (List.nil_subset _)
  generalize s.restartCleared = c at *
  have lines := m.restartLines_unchanged
  have tscm : m.tsc = s.tsc := (kept1.tsc_eq (by decide) (by decide) (by decide) (by decide)).trans
    (kept0.tsc_eq (by decide) (by decide) (by decide) (by decide))
  have tscl : m.restartLines.tsc = m.tsc := lines.tsc_eq (by decide) (by decide) (by decide) (by decide)
  have cfgt : t.cfg = m.cfg := (kept2 .cfg (by decide)).trans (lines .cfg (by decide))
  have settings : t.unitCfg u = m.unitCfg u := by rw [State.unitCfg, State.unitCfg, cfgt]
  have unitm : m.unit u = (s.unit u).checkpoint s.tsc.e := by
    have tlu : m.tlu = c.tlu := kept1 .tlu (by decide)
    rw [← units0 u hu, State.unit, State.unit, tlu]
  obtain ⟨tscr, dscr, cfgr, tlur, evqr⟩ := m.resample_keeps
  have derived : m.resample.deriveMode u = t.deriveMode u := by
    have lqu : t.lqu = m.resample.lqu := (kept2 .lqu (by decide)).trans m.restartLines_lqu
    exact (State.deriveMode_congr lqu (cfgt.trans cfgr.symm) u).symm
  have value : m.restartLines.unit u = ((s.unit u).checkpoint s.tsc.e).restarted (t.deriveMode u) s.tsc.e m.dateNow
      ((t.unitCfg u).discrepDelay * 1000000) := by
    rw [m.restartLines_unit hu, unitm, derived, tscm, settings]
  have booked : (m.restartLines.unit u).Booked s.tsc.e (t.unit u) := by
    have now : m.restartLines.tsc.e = s.tsc.e := by rw [tscl, tscm]
    rw [unit u hu, ← now]
    exact (booked2.2 u hu).trans (.evaluated _ _ _ _)
  rw [value, GenUnit.restarted] at booked
  obtain ⟨mode, -⟩ := (s.unit u).checkpoint_keeps s.tsc.e
  have dated : DatedNow s t m.dateNow := by
    refine ⟨congrArg TimeScale.epoch tscm, congrArg TimeScale.s tscm, ?_, ?_⟩
    · show m.tsc.n / 1000 = _
      rw [tscm]
    · show m.dsc.effClass = _ ∨ m.dsc.effClass = _
      exact dscm.imp (fun h => by rw [h]) (fun h => by rw [h])
  have record (changes : t.deriveMode u ≠ (s.unit u).mode) (room : s.spacious) (short : t.shu.schedule.length ≤ 6)
      (recorded : (t.unitCfg u).modeRecord = true) :
      ModeRecorded u (s.unit u).mode (t.deriveMode u) (s.unit u).tally.starts s t := by
    obtain ⟨len, n, hn, numbers'⟩ := room
    obtain ⟨-, -, -, -, starts, -⟩ := (s.unit u).checkpoint_keeps s.tsc.e
    have length : c.evq.records.length = s.evq.records.length := by rw [evq0, EventQueue.undeliver_length]
    have next : c.evq.nextSeq = some n := by rw [evq0]; exact hn
    have unitr : m.resample.unit u = (s.unit u).checkpoint s.tsc.e := by rw [← unitm, State.unit, State.unit, tlur]
    have count : (numbers 8).length = 8 := rfl
    rw [schedule] at short
    have among := State.modeRecord_among (s := m.resample) (b := c) (t := t) (f := State.restartUnit) (us := numbers 8) (by decide)
      ((mem_numbers 8 u).2 hu) hu (fun v q => q.restartUnit_unchanged v)
      (fun v hv q other => (q.restartUnit_unit ((mem_numbers 8 v).1 hv) u).trans (if_neg (Ne.symm other)))
      Appends.restartUnit (fun q => ⟨q, rfl, rfl, rfl, rfl, rfl, Appends.moveTimer _ u⟩)
      (by rw [derived, unitr, mode]; exact changes) (by rw [State.unitCfg, cfgr, ← cfgt]; exact recorded)
      (placed.congr rfl evqr) records2 next (by rw [count]; omega) (by rw [count]; omega)
    rw [unitr, derived, mode, starts, ModeRecorded, length] at among
    exact among
  refine ⟨UnitRederived.of_booked hu booked (State.deriveMode_derived t u) dated (fun changes => ?_)
    (GenUnit.evaluated_due (unit u hu)) record, fun stays => ?_⟩
  · exact GenUnit.rederived_timerMoved _ _ _ _ _ (by rw [mode]; exact changes)
  · obtain ⟨mode', -, -, timer', -⟩ := booked.keeps
    obtain ⟨newMode, -⟩ := ((s.unit u).checkpoint s.tsc.e).rederived_keeps (t.deriveMode u) s.tsc.e m.dateNow
      (s.tsc.e + (t.unitCfg u).discrepDelay * 1000000)
    have same : t.deriveMode u = ((s.unit u).checkpoint s.tsc.e).mode := (mode'.trans newMode).symm.trans (stays.trans mode.symm)
    obtain ⟨-, entry, -, timer, -⟩ := (s.unit u).checkpoint_keeps s.tsc.e
    rw [timer']
    show GenUnit.timerMoved (((s.unit u).checkpoint s.tsc.e).rederived _ _ _ _) _ _ = _
    rw [GenUnit.rederived, if_pos same, GenUnit.timerMoved, GenUnit.timerMoved, timer, entry]

/-! ### The lines and the queue (R92, R113) -/

theorem State.restart_line (s : State) (free : s.stc.inFlight = none) {i : Nat} (hi : 1 ≤ i ∧ i ≤ 32) :
    s.restart.line i = sampledLine (s.line i).pinHigh (s.restart.lineCfg i) := by
  obtain ⟨kept0, -⟩ := s.restartCleared_leaves
  obtain ⟨m, z, kept1, -, -, kept2, -⟩ := s.restart_stages free
  generalize s.restart = t at *
  generalize s.restartCleared = c at *
  have lqum : m.lqu = s.lqu := (kept1 .lqu (by decide)).trans (kept0 .lqu (by decide))
  have lqut : t.lqu = m.resample.lqu := (kept2 .lqu (by decide)).trans m.restartLines_lqu
  have cfgt : t.cfg = m.cfg := (kept2 .cfg (by decide)).trans (m.restartLines_unchanged .cfg (by decide))
  have sampled (v : Vector Line 32) : (m.setLqu v).lqu = v := rfl
  rw [State.line, lqut, State.resample, sampled, nth_ofFn _ _ hi, State.lineCfg, cfgt, nth_eq_getElem m.cfg.lines _ hi, State.line,
    ← lqum, nth_eq_getElem m.lqu _ hi, State.pins]
  simp only [Fin.getElem_fin, Vector.getElem_map]

/-- The queue after a restart with room for every record (R99, R113). -/
theorem State.restart_queue (s : State) (free : s.stc.inFlight = none) (room : s.spacious)
    (short : s.restart.shu.schedule.length ≤ 6) (hn : s.evq.nextSeq = some n) :
    s.evq.records.map (fun r => { r with delivered := false }) <+: s.restart.evq.records
      ∧ s.restart.evq.records[s.evq.records.length]? = some
          { seq := n, detail := .restart false s.restart.stc.state, injected := false, delivered := false, station := false
            source := 0
            date := { epoch := s.tsc.epoch, cls := s.dsc.effClass, s := s.tsc.s, us := s.tsc.n / 1000 } }
      ∧ s.restart.evq.lostTotal = s.evq.lostTotal ∧ s.restart.evq.lostTrips = s.evq.lostTrips
      ∧ s.restart.evq.overwritten = s.evq.overwritten := by
  obtain ⟨kept0, stc0, -, -, evq0, -⟩ := s.restartCleared_leaves
  obtain ⟨m, z, -, -, records1, -, -, -, records2, placing, -, -, schedule, -, state, -⟩ := s.restart_stages free
  generalize s.restart = t at *
  obtain ⟨len, n', hn', numbers'⟩ := room
  obtain rfl : n' = n := Option.some.inj (hn'.symm.trans hn)
  rw [schedule] at short
  have length : s.restartCleared.evq.records.length = s.evq.records.length := by rw [evq0, EventQueue.undeliver_length]
  have next : s.restartCleared.evq.nextSeq = some n' := by rw [evq0]; exact hn
  have rest := (records1.trans (Appends.restartLines m)).trans records2
  have note := Appends.place s.restartCleared s.restartNote
  have recs := s.restartCleared.place_records s.restartNote next (by omega)
  have counts := (Placing.place s.restartCleared s.restartNote).trans placing
  obtain ⟨added, e, -⟩ := rest n'.succ (by
      obtain ⟨one, e1, few, next1, -⟩ := note n' next (by omega) (by omega)
      rw [recs] at e1
      rw [next1, ← List.append_cancel_left e1]; rfl) (by rw [recs, List.length_append, List.length_singleton]; omega) (by omega)
  have tsc : s.restartCleared.tsc = s.tsc := kept0.tsc_eq (by decide) (by decide) (by decide) (by decide)
  have dsc : s.restartCleared.dsc = s.dsc := kept0 .dsc (by decide)
  have details : s.restartNote.detail = .restart false t.stc.state := by
    rw [state, State.restartNote, stc0]
  have lost := counts.counts (note.trans rest) next (by omega) (by omega)
  have date : s.restartCleared.dateNow
      = { epoch := s.tsc.epoch, cls := s.dsc.effClass, s := s.tsc.s, us := s.tsc.n / 1000 } := by
    simp only [State.dateNow, State.latch, dateOf, tsc, dsc]
  have record : ({ s.restartCleared.recordOf s.restartNote with seq := n' } : Record) =
      { seq := n', detail := .restart false t.stc.state, injected := false, delivered := false, station := false, source := 0
        date := { epoch := s.tsc.epoch, cls := s.dsc.effClass, s := s.tsc.s, us := s.tsc.n / 1000 } } := by
    rw [← details, ← date]; rfl
  rw [e, recs, record, evq0]
  have undelivered : s.evq.undeliver.records = s.evq.records.map (fun r => { r with delivered := false }) := rfl
  rw [undelivered]
  refine ⟨⟨_, (List.append_assoc _ _ _).symm⟩, ?_, ?_⟩
  · rw [List.append_assoc, List.getElem?_append_right (by rw [List.length_map]), List.length_map, Nat.sub_self]
    rfl
  · rw [evq0] at lost
    exact lost

/-! ### RSTRT (R190) -/

theorem State.takeRestart_of_accepts (tag : Byte) (ha : s.accepts .rstrt) :
    s.takeRestart tag = (s.answered 0x04 tag .ok []).restart := by
  obtain ⟨hr, notBusy⟩ := ha
  have sent : s.sendReply Kind.rstrt.code tag { result := .ok } = s.answered 0x04 tag .ok [] := rfl
  rw [State.takeRestart, hr, notBusy, ← sent]
  rfl

/-- What LKC holds has no part in what is said of a unit derived again. -/
theorem UnitRederived.of_lkc {l : LinkController} (h : UnitRederived u (s.setLkc l) t) : UnitRederived u s t := h

/-- Settles O6: the reply is sent, then the restart goes through its stages. -/
theorem restartKeepsTimeAndDropsTheSources : Obligations.RestartKeepsTimeAndDropsTheSources := by
  intro tag s ha
  have free : s.stc.inFlight = none := State.free_of_accepts ha rfl
  have row : exec (.rstrt tag) s = .next (s.answered 0x04 tag .ok []).restart :=
    congrArg Host.Outcome.next (State.takeRestart_of_accepts tag ha)
  refine ⟨_, row, ?_⟩
  clear row
  obtain ⟨l, sent⟩ : ∃ l, s.answered 0x04 tag .ok [] = s.setLkc l := ⟨_, rfl⟩
  have free' : (s.setLkc l).stc.inFlight = none := free
  have r : (s.setLkc l).tsc = s.tsc ∧ (s.setLkc l).dsc = s.dsc ∧ (s.setLkc l).ftx = s.ftx ∧ (s.setLkc l).stc = s.stc
      ∧ (s.setLkc l).shu = s.shu ∧ (s.setLkc l).evq = s.evq ∧ (∀ i, (s.setLkc l).line i = s.line i)
      ∧ (∀ u, (s.setLkc l).unit u = s.unit u) := ⟨rfl, rfl, rfl, rfl, rfl, rfl, fun _ => rfl, fun _ => rfl⟩
  have spacious : s.spacious → (s.setLkc l).spacious := id
  rw [sent]
  have units (u : Nat) (hu : 1 ≤ u ∧ u ≤ 8) := State.restart_unit (s.setLkc l) free' hu
  have rederived (u : Nat) (hu : 1 ≤ u ∧ u ≤ 8) : UnitRederived u s (s.setLkc l).restart := (units u hu).1.of_lkc
  have lines (i : Nat) (hi : 1 ≤ i ∧ i ≤ 32) := State.line_sampled_leaves (State.restart_line (s.setLkc l) free' hi)
  have queue (room : s.spacious) (short) (n : Nat) (hn : s.evq.nextSeq = some n) :=
    State.restart_queue (s.setLkc l) free' (spacious room) short hn
  obtain ⟨kept0, -, cfg0, -, -, held⟩ := (s.setLkc l).restartCleared_leaves
  obtain ⟨m, z, kept1, -, -, kept2, -, -, -, placing, rrx, ⟨cls, dsc⟩, schedule, store, judged, holdup⟩ :=
    (s.setLkc l).restart_stages free'
  have held' := ((Placing.place _ _).trans placing).restartHeld held
  generalize (s.setLkc l).restart = t at *
  generalize (s.setLkc l).restartCleared = c at *
  have changed := kept1.mono (M := .rrx :: .dsc :: .lqu :: .schedule :: .cfg :: Part.firing) (by decide)
  have all : Unchanged (.rrx :: .dsc :: .lqu :: .schedule :: .cfg :: Part.firing) (s.setLkc l) t :=
    ((kept0.mono (by decide)).trans changed).trans
      ((m.restartLines_unchanged.mono (by decide)).trans (kept2.mono (by decide)))
  have cfg : t.cfg = loadedSettings s.stc.store.load := by
    have e : t.cfg = c.cfg := ((kept2 .cfg (by decide)).trans (m.restartLines_unchanged .cfg (by decide))).trans (kept1 .cfg (by decide))
    rw [e, cfg0]
    rfl
  obtain ⟨second, ns, elapsed, -⟩ := all .clock (by decide)
  have epoch : t.tsc.epoch = (s.setLkc l).tsc.epoch := all .epoch (by decide)
  obtain ⟨leap, pendingLeap⟩ := all .leap (by decide)
  have ftx : t.ftx = (s.setLkc l).ftx := all .ftx (by decide)
  have lkc : t.lkc = (s.setLkc l).lkc := all .lkc (by decide)
  obtain ⟨trips, -⟩ := all .trips (by decide)
  obtain ⟨tscr, dscr, ftxr, stcr, shur, evqr, liner, unitr⟩ := r
  rw [tscr] at second ns elapsed epoch leap pendingLeap
  rw [dscr] at dsc
  rw [stcr] at schedule store judged holdup
  obtain ⟨undelivered, level, restarted, latched⟩ := held'
  refine ⟨⟨second, ns, elapsed, epoch, leap, pendingLeap⟩, rrx, ?_, ftx.trans ftxr, lkc, ?_, ?_, trips.trans (by rw [shur]), ?_, ?_,
    fun u h1 h8 => ⟨rederived u ⟨h1, h8⟩, fun stays => ?_⟩, ⟨undelivered, level, fun room short n hn => ?_⟩, restarted, latched, store, judged,
    holdup⟩
  · rw [dsc]
    refine ⟨?_, rfl, rfl, rfl, rfl, rfl, rfl, rfl, rfl, rfl⟩
    show (match s.dsc.state with | .acquire | .locked => DiscState.holdover | .free => .free | .holdover => .holdover) = _
    cases s.dsc.state <;> rfl
  · rw [cfg]
    cases s.stc.store.load <;> rfl
  · rw [schedule]
    cases s.stc.store.load <;> rfl
  · intro i h1 h32
    obtain ⟨pinHigh, pending, quiet, -, bounce, -⟩ := lines i ⟨h1, h32⟩
    exact ⟨pinHigh.trans (by rw [liner]), pending, quiet, bounce⟩
  · intro i h1 h32 used
    obtain ⟨-, -, -, -, -, steady⟩ := lines i ⟨h1, h32⟩
    exact steady used
  · obtain ⟨-, moved⟩ := units u ⟨h1, h8⟩
    have timer := moved (stays.trans (by rw [unitr]))
    rw [unitr, tscr] at timer
    cases running : (s.unit u).timer <;> simp only [timer, GenUnit.timerMoved, running]
  · have held := queue room short n hn
    rw [evqr, dscr, tscr] at held
    exact held

end Sys2Proof.Machine

/-! PROOFS. The configuration table: an entry reads as it was written, and every other entry stands (11.4, R191, R192). -/

namespace Sys2Proof.Machine

variable {it jt : Item} {cfg c : Settings} {i j : Nat} {v : Int}

/-! ### The entry written -/

/-- The table with an entry of each scope written. -/
theorem Item.write_cases (it : Item) (cfg : Settings) (i : Nat) (v : Int) :
    (it.scope = .part → it.write cfg i v = cfg.put v it)
      ∧ (it.scope = .line → it.write cfg i v = cfg.setLine i ((nth cfg.lines i).put v it))
      ∧ (it.scope = .unit → it.write cfg i v = cfg.setUnit i ((nth cfg.units i).put v it)) := by
  refine ⟨fun h => ?_, fun h => ?_, fun h => ?_⟩ <;> rw [Item.write, h]

theorem flagValue_of_mem (h : 0 ≤ v ∧ v ≤ 1) : flagValue (decide (v = 1)) = v := by
  obtain ⟨h0, h1⟩ := h
  obtain rfl | rfl : v = 0 ∨ v = 1 := by omega
  · rfl
  · rfl

theorem LineKind.code_ofCode (h : 0 ≤ v ∧ v ≤ 6) : ((LineKind.ofCode v.toNat).code : Int) = v := by
  obtain ⟨h0, h6⟩ := h
  obtain rfl | rfl | rfl | rfl | rfl | rfl | rfl : v = 0 ∨ v = 1 ∨ v = 2 ∨ v = 3 ∨ v = 4 ∨ v = 5 ∨ v = 6 := by omega
  all_goals rfl

theorem two_codes {α : Type} {a b : α} {code : α → Nat} (ha : code a = 0) (hb : code b = 1) (h : 0 ≤ v ∧ v ≤ 1) :
    (code (if v = 0 then a else b) : Int) = v := by
  obtain ⟨h0, h1⟩ := h
  obtain rfl | rfl : v = 0 ∨ v = 1 := by omega
  · rw [if_pos rfl, ha]; rfl
  · rw [if_neg (by decide), hb]; rfl

/-- An entry reads as the value in range that was written (R192). -/
theorem Item.read_write (hi : i ∈ it.scope.indices) (h : (it.range cfg).1 ≤ v ∧ v ≤ (it.range cfg).2) :
    it.read (it.write cfg i v) i = v := by
  have nat (low : 0 ≤ (it.range cfg).1) : ((v.toNat : Nat) : Int) = v := Int.toNat_of_nonneg (low.trans h.1)
  have line (hs : it.scope = .line) : nth (it.write cfg i v).lines i = (nth cfg.lines i).put v it := by
    obtain ⟨-, written, -⟩ := it.write_cases cfg i v
    rw [hs] at hi
    rw [written hs]
    exact nth_setNth_self _ _ _ ((mem_numbers 32 i).1 hi)
  have unit (hs : it.scope = .unit) : nth (it.write cfg i v).units i = (nth cfg.units i).put v it := by
    obtain ⟨-, -, written⟩ := it.write_cases cfg i v
    rw [hs] at hi
    rw [written hs]
    exact nth_setNth_self _ _ _ ((mem_numbers 8 i).1 hi)
  cases it with
  | localOffset => rfl
  | prefSource => exact two_codes (code := prefCode) rfl rfl h
  | queuePolicy => exact two_codes (code := QueuePolicy.code) rfl rfl h
  | refaMatch | stepAllow | feedEnable | saveAtShift => exact flagValue_of_mem h
  | noticeMask =>
    obtain ⟨low, high⟩ := h
    show ((BitVec.ofInt 14 v).toNat : Int) = v
    change 0 ≤ v at low
    change v ≤ 16383 at high
    rw [BitVec.toNat_ofInt]
    omega
  | revertDelay | refaId | delayA | delayB | phaseLimit | phaseHyst | faultCount | lockLimit | stepLimit | freqWindow | phaseGain
  | slewLimit | holdDrift | feedId | feedClassLimit | feedActHold | feedActClass | feedActFree | chatterCount | chatterWindow
  | watermark | autosaveHours | manualWindow => exact nat (by simp [Item.range])
  | lineKind =>
    rw [Item.read, line rfl]
    exact LineKind.code_ofCode h
  | linePolarity | lineRecord | lineNotify =>
    rw [Item.read, line rfl]
    exact flagValue_of_mem h
  | lineUnit | lineFilter | lineComp =>
    rw [Item.read, line rfl]
    exact nat (by simp [Item.range])
  | modeRecord =>
    rw [Item.read, unit rfl]
    exact flagValue_of_mem h
  | unitGroup | weightStill | weightSpin | weightGen | weightPump | weightCond | weightIndet | startWeight | tripWeight
  | discrepDelay =>
    rw [Item.read, unit rfl]
    exact nat (by simp [Item.range])

/-! ### Every other entry -/

/-- An item of a line reads that line alone, one of a unit that unit. -/
theorem Item.read_congr (hl : jt.scope = .line → nth c.lines j = nth cfg.lines j) (hu : jt.scope = .unit → nth c.units j = nth cfg.units j)
    (hp : jt.scope ≠ .part) : jt.read c j = jt.read cfg j := by
  cases jt with
  | lineKind | lineUnit | linePolarity | lineFilter | lineComp | lineRecord | lineNotify => simp only [Item.read, hl rfl]
  | unitGroup | weightStill | weightSpin | weightGen | weightPump | weightCond | weightIndet | startWeight | tripWeight | modeRecord
  | discrepDelay => simp only [Item.read, hu rfl]
  | _ => exact absurd rfl hp

theorem Settings.put_keeps (cfg : Settings) (v : Int) (it : Item) : (cfg.put v it).lines = cfg.lines ∧ (cfg.put v it).units = cfg.units := by
  cases it <;> exact ⟨rfl, rfl⟩

/-- Of the items of scope "–", a write changes its own alone. -/
theorem Item.read_put_other (other : jt ≠ it) (hp : jt.scope = .part) : jt.read (cfg.put v it) j = jt.read cfg j := by
  cases it <;> first | rfl | (cases jt <;> first | rfl | exact absurd rfl other)

theorem Item.read_setLine (x : LineSettings) (h : jt.scope ≠ .line) : jt.read (cfg.setLine i x) j = jt.read cfg j := by
  cases jt with
  | lineKind | lineUnit | linePolarity | lineFilter | lineComp | lineRecord | lineNotify => exact absurd rfl h
  | _ => rfl

theorem Item.read_setUnit (x : UnitSettings) (h : jt.scope ≠ .unit) : jt.read (cfg.setUnit i x) j = jt.read cfg j := by
  cases jt with
  | unitGroup | weightStill | weightSpin | weightGen | weightPump | weightCond | weightIndet | startWeight | tripWeight | modeRecord
  | discrepDelay => exact absurd rfl h
  | _ => rfl

/-- Of the items of one line, a write changes its own alone. -/
theorem Item.read_line_other (hl : jt.scope = .line) (other : jt ≠ it) (written : nth c.lines i = (nth cfg.lines i).put v it) :
    jt.read c i = jt.read cfg i := by
  cases jt with
  | lineKind | lineUnit | linePolarity | lineFilter | lineComp | lineRecord | lineNotify =>
    simp only [Item.read, written]
    cases it <;> first | rfl | exact absurd rfl other
  | _ => exact nomatch hl

theorem Item.read_unit_other (hu : jt.scope = .unit) (other : jt ≠ it) (written : nth c.units i = (nth cfg.units i).put v it) :
    jt.read c i = jt.read cfg i := by
  cases jt with
  | unitGroup | weightStill | weightSpin | weightGen | weightPump | weightCond | weightIndet | startWeight | tripWeight | modeRecord
  | discrepDelay =>
    simp only [Item.read, written]
    cases it <;> first | rfl | exact absurd rfl other
  | _ => exact nomatch hu

/-- Every other entry stands as a value is written (R191). -/
theorem Item.read_write_other (hi : i ∈ it.scope.indices) (hj : j ∈ jt.scope.indices) (other : (jt, j) ≠ (it, i)) :
    jt.read (it.write cfg i v) j = jt.read cfg j := by
  obtain ⟨part, line, unit⟩ := it.write_cases cfg i v
  cases hs : it.scope with
  | part =>
    rw [part hs]
    obtain ⟨lines, units⟩ := cfg.put_keeps v it
    by_cases hp : jt.scope = .part
    · have index (k : Nat) (x : Scope) (hx : x = .part) (hk : k ∈ x.indices) : k = 0 := by
        rw [hx] at hk
        exact List.mem_singleton.1 hk
      have same : j = i := (index j _ hp hj).trans (index i _ hs hi).symm
      exact Item.read_put_other (fun e => other (by rw [e, same])) hp
    · exact Item.read_congr (fun _ => by rw [lines]) (fun _ => by rw [units]) hp
  | line =>
    rw [hs] at hi
    rw [line hs]
    by_cases hl : jt.scope = .line
    · by_cases same : j = i
      · subst same
        exact Item.read_line_other hl (fun e => other (by rw [e])) (nth_setNth_self _ _ _ ((mem_numbers 32 j).1 hi))
      · exact Item.read_congr (fun _ => nth_setNth_other _ _ _ _ same) (fun h => nomatch hl.symm.trans h) (by rw [hl]; decide)
    · exact Item.read_setLine _ hl
  | unit =>
    rw [hs] at hi
    rw [unit hs]
    by_cases hu : jt.scope = .unit
    · by_cases same : j = i
      · subst same
        exact Item.read_unit_other hu (fun e => other (by rw [e])) (nth_setNth_self _ _ _ ((mem_numbers 8 j).1 hi))
      · exact Item.read_congr (fun h => nomatch hu.symm.trans h) (fun _ => nth_setNth_other _ _ _ _ same) (by rw [hu]; decide)
    · exact Item.read_setUnit _ hu

/-! ### PHASE_HYST under a new PHASE_LIMIT (R191) -/

theorem Item.read_clampHyst (h : jt ≠ .phaseHyst) (cfg : Settings) (j : Nat) : jt.read cfg.clampHyst j = jt.read cfg j := by
  cases jt with
  | phaseHyst => exact absurd rfl h
  | _ => rfl

theorem Item.written_eq (h : it ≠ .phaseLimit) (cfg : Settings) (i : Nat) (v : Int) : it.written cfg i v = it.write cfg i v := if_neg h

/-- The table after a write, entry by entry. -/
theorem Item.read_written (hi : i ∈ it.scope.indices) (h : (it.range cfg).1 ≤ v ∧ v ≤ (it.range cfg).2) :
    it.read (it.written cfg i v) i = v
      ∧ (∀ jt j, j ∈ jt.scope.indices → (jt, j) ≠ (it, i) → (jt = .phaseHyst → it ≠ .phaseLimit) →
          jt.read (it.written cfg i v) j = jt.read cfg j)
      ∧ (it = .phaseLimit → ((it.written cfg i v).phaseHyst : Int) = min (cfg.phaseHyst : Int) (v / 2)) := by
  have own := Item.read_write hi h
  have others (jt j) (hj : j ∈ jt.scope.indices) (other : (jt, j) ≠ (it, i)) : jt.read (it.write cfg i v) j = jt.read cfg j :=
    Item.read_write_other hi hj other
  by_cases limit : it = .phaseLimit
  · subst limit
    have written : Item.phaseLimit.written cfg i v = (Item.phaseLimit.write cfg i v).clampHyst := if_pos rfl
    rw [written]
    refine ⟨(Item.read_clampHyst (by decide) _ _).trans own, fun jt j hj other hyst => ?_, fun _ => ?_⟩
    · rw [Item.read_clampHyst (fun e => hyst e rfl)]
      exact others jt j hj other
    · obtain ⟨low, -⟩ := h
      change 100 ≤ v at low
      show ((min cfg.phaseHyst (v.toNat / 2) : Nat) : Int) = _
      omega
  · rw [Item.written_eq limit]
    exact ⟨own, fun jt j hj other _ => others jt j hj other, fun e => absurd e limit⟩

end Sys2Proof.Machine

/-! PROOFS. CFGW: how a write is judged, and what a stored one answers (R191 steps 1 to 4). -/

namespace Sys2Proof.Machine

variable {s m : State} {it jt : Item} {cfg : Settings} {i j : Nat} {v x : Int} {item index : Byte}

/-! ### The value stored (R191 step 3) -/

/-- The value that a write of `v` stores, when it is not refused. -/
def Item.clamped (it : Item) (cfg : Settings) (v : Int) : Int := max (it.range cfg).1 (min (it.range cfg).2 v)

/-- A write that its row refuses. -/
def Item.Refused (it : Item) (cfg : Settings) (v : Int) : Prop :=
  (v < (it.range cfg).1 ∨ (it.range cfg).2 < v) ∧ (it.refuses = true ∨ it = .refaId ∧ v < (it.range cfg).1)

theorem Item.range_ordered (it : Item) (cfg : Settings) : (it.range cfg).1 ≤ (it.range cfg).2 := by
  cases it with
  | phaseHyst => exact Int.natCast_nonneg _
  | _ => simp [Item.range]

theorem Item.clamped_mem (it : Item) (cfg : Settings) (v : Int) :
    (it.range cfg).1 ≤ it.clamped cfg v ∧ it.clamped cfg v ≤ (it.range cfg).2 := by
  have ordered := it.range_ordered cfg
  rw [Item.clamped]
  omega

theorem Item.stored_cases (it : Item) (cfg : Settings) (v : Int) :
    (it.Refused cfg v → it.stored cfg v = none) ∧ (¬ it.Refused cfg v → it.stored cfg v = some (it.clamped cfg v)) := by
  have ordered := it.range_ordered cfg
  by_cases inside : (it.range cfg).1 ≤ v ∧ v ≤ (it.range cfg).2
  · have stands : it.stored cfg v = some v := if_pos inside
    have same : it.clamped cfg v = v := by rw [Item.clamped]; omega
    refine ⟨fun ⟨outside, _⟩ => ?_, fun _ => by rw [stands, same]⟩
    omega
  · have outside : v < (it.range cfg).1 ∨ (it.range cfg).2 < v := by omega
    have judged : it.stored cfg v = if it.refuses || (decide (it = .refaId) && decide (v < (it.range cfg).1)) then none
        else some (clampInt v (it.range cfg).1 (it.range cfg).2) := if_neg inside
    have clamp : clampInt v (it.range cfg).1 (it.range cfg).2 = it.clamped cfg v := by
      rw [clampInt_eq v ordered, Item.clamped, min_comm]
    have spelled : (it.refuses || (decide (it = .refaId) && decide (v < (it.range cfg).1))) = true ↔ it.Refused cfg v := by
      simp only [Item.Refused, outside, true_and, Bool.or_eq_true, Bool.and_eq_true, decide_eq_true_eq]
    rw [judged, clamp]
    exact ⟨fun h => if_pos (spelled.2 h), fun h => if_neg fun e => h (spelled.1 e)⟩

/-! ### The conflict (R73, R191 step 4) -/

/-- Another line has the kind and the unit that a write gives this one. -/
def Item.Conflicts (it : Item) (cfg : Settings) (i : Nat) (v : Int) : Prop :=
  let x := nth (it.write cfg i v).lines i
  (it = .lineKind ∨ it = .lineUnit) ∧ x.kind.isStatus = true ∧ 1 ≤ x.unit ∧
    ∃ j, 1 ≤ j ∧ j ≤ 32 ∧ j ≠ i ∧ (nth cfg.lines j).kind = x.kind ∧ (nth cfg.lines j).unit = x.unit

theorem Item.conflicts_iff (it : Item) (cfg : Settings) (i : Nat) (v : Int) : it.conflicts cfg i v = true ↔ it.Conflicts cfg i v := by
  rw [Item.conflicts, Item.Conflicts, Bool.and_eq_true, Bool.or_eq_true, decide_eq_true_eq, decide_eq_true_eq]
  refine and_congr_right fun ofLine => ?_
  have scope : it.scope = .line := by rcases ofLine with rfl | rfl <;> rfl
  obtain ⟨-, written, -⟩ := it.write_cases cfg i v
  have others (j : Nat) (h : j ≠ i) : nth (it.write cfg i v).lines j = nth cfg.lines j := by
    rw [written scope]
    exact nth_setNth_other _ _ _ _ h
  rw [Settings.conflict]
  simp only [Bool.and_eq_true, decide_eq_true_eq, List.any_eq_true, bne_iff_ne, beq_iff_eq, mem_numbers, and_assoc]
  refine and_congr_right fun _ => and_congr_right fun _ => exists_congr fun j => ?_
  refine and_congr_right fun _ => and_congr_right fun _ => and_congr_right fun other => ?_
  rw [others j other]

/-! ### The result (R191) -/

theorem Item.writeResult_cases (it : Item) (cfg : Settings) (i : Nat) (v x : Int) :
    it.writeResult cfg i v x = .ok ∨ it.writeResult cfg i v x = .clamped := by
  rw [Item.writeResult]
  split
  · exact .inr rfl
  · exact .inl rfl

/-- A write is CLAMPED when its value is, or when it clamps PHASE_HYST. -/
theorem Item.writeResult_clamped (low : (it.range cfg).1 ≤ x) :
    it.writeResult cfg i v x = .clamped ↔ x ≠ v ∨ it = .phaseLimit ∧ x / 2 < (cfg.phaseHyst : Int) := by
  have spelled : it.writeResult cfg i v x = .clamped ↔
      x ≠ v ∨ (it.written cfg i x).phaseHyst ≠ (it.write cfg i x).phaseHyst := by
    rw [Item.writeResult]
    split
    next h => exact ⟨fun _ => h, fun _ => rfl⟩
    next h => exact ⟨(nomatch ·), fun e => absurd e h⟩
  rw [spelled]
  refine or_congr_right ?_
  by_cases limit : it = .phaseLimit
  · subst limit
    change 100 ≤ x at low
    show min cfg.phaseHyst (x.toNat / 2) ≠ cfg.phaseHyst ↔ _
    simp only [true_and]
    omega
  · rw [Item.written_eq limit]
    exact ⟨fun h => absurd rfl h, fun h => absurd h.1 limit⟩

/-! ### A write judged (R191) -/

/-- The part after a write that is taken. -/
def State.written (s : State) (it : Item) (i : Nat) (x : Int) : State :=
  if it.read s.cfg i = x then s else s.storeItem it i x

theorem serveCfgw_none (value : BitVec 32) (s : State) (h : itemAt item index = none) :
    serveCfgw item index value s = (s, { result := .param }) := by
  rw [serveCfgw, h]

theorem serveCfgw_some (value : BitVec 32) (s : State) (h : itemAt item index = some it) :
    (it.Refused s.cfg value.toInt → serveCfgw item index value s = (s, { result := .param }))
      ∧ (¬ it.Refused s.cfg value.toInt → it.Conflicts s.cfg index.toNat (it.clamped s.cfg value.toInt) →
          serveCfgw item index value s = (s, { result := .conflict }))
      ∧ (¬ it.Refused s.cfg value.toInt → ¬ it.Conflicts s.cfg index.toNat (it.clamped s.cfg value.toInt) →
          serveCfgw item index value s = (s.written it index.toNat (it.clamped s.cfg value.toInt),
            { result := it.writeResult s.cfg index.toNat value.toInt (it.clamped s.cfg value.toInt)
              body := entryBody item index (it.clamped s.cfg value.toInt) })) := by
  have known : serveCfgw item index value s = s.writeItem it item index value.toInt := by rw [serveCfgw, h]
  obtain ⟨refused, taken⟩ := it.stored_cases s.cfg value.toInt
  rw [known, State.writeItem]
  refine ⟨fun r => by rw [refused r], fun r conflict => ?_, fun r free => ?_⟩
  · rw [taken r]
    exact if_pos ((it.conflicts_iff _ _ _).2 conflict)
  · rw [taken r]
    refine (if_neg fun e => free ((it.conflicts_iff _ _ _).1 e)).trans ?_
    rw [State.written]
    split <;> rfl

/-! ### What every taken write leaves -/

theorem State.storeItem_eq (s : State) (it : Item) (i : Nat) (x : Int) : s.storeItem it i x =
    (if it = .autosaveHours then
      (((s.setCfg (it.written s.cfg i x)).applyItem s.cfg it i).evalUnits (it.touches s.cfg (it.written s.cfg i x) i)).autosaveIfPassed
    else ((s.setCfg (it.written s.cfg i x)).applyItem s.cfg it i).evalUnits (it.touches s.cfg (it.written s.cfg i x) i)) := by
  have cfg : ((s.setCfg (it.written s.cfg i x)).applyItem s.cfg it i).cfg = it.written s.cfg i x := State.applyItem_cfg _ _ _ _
  rw [State.storeItem, cfg]

theorem State.storeItem_unchanged (s : State) (it : Item) (i : Nat) (x : Int) :
    Unchanged (.rrx :: .dsc :: .lqu :: Part.firing) (s.setCfg (it.written s.cfg i x)) (s.storeItem it i x) := by
  rw [State.storeItem_eq]
  generalize s.setCfg (it.written s.cfg i x) = c
  have applied := applyItem_unchanged c s.cfg it i
  generalize c.applyItem s.cfg it i = t at *
  have evaluated := applied.trans (evalUnits_unchanged t (by decide) (by decide) (it.touches s.cfg (it.written s.cfg i x) i))
  exact ite_unchanged (evaluated.trans (autosaveIfPassed_unchanged _ (by decide))) evaluated

/-- A stored write leaves the table written, and of the link, the feed, the epoch and the queue of commands nothing changed. -/
theorem State.storeItem_leaves (s : State) (it : Item) (i : Nat) (x : Int) :
    (s.storeItem it i x).cfg = it.written s.cfg i x ∧ (s.storeItem it i x).lkc = s.lkc ∧ (s.storeItem it i x).ftx = s.ftx
      ∧ (s.storeItem it i x).tsc.epoch = s.tsc.epoch ∧ (s.storeItem it i x).pending = s.pending := by
  have kept := s.storeItem_unchanged it i x
  generalize s.storeItem it i x = m at *
  exact ⟨kept .cfg (by decide), kept .lkc (by decide), kept .ftx (by decide), kept .epoch (by decide), kept .pending (by decide)⟩

end Sys2Proof.Machine

/-! PROOFS. CFGW: the items of DSC, EVQ, NTC and STC applied, and those that nothing applies (R60, R105, R178, R195). -/

namespace Sys2Proof.Machine

variable {s m : State} {it jt : Item} {i : Nat} {x : Int}

/-! ### Items that touch no unit -/

/-- A stored write of an item that touches no unit and sets no expiry of STC. -/
theorem State.storeItem_apart (touches : ∀ old new, it.touches old new i = []) (other : it ≠ .autosaveHours) :
    s.storeItem it i x = (s.setCfg (it.written s.cfg i x)).applyItem s.cfg it i := by
  rw [State.storeItem_eq, if_neg other, touches]
  rfl

/-- The items that are read from then on, and that no block applies (R63, R88, R103, R167). -/
def Item.plain : List Item :=
  [.refaId, .refaMatch, .delayA, .delayB, .phaseLimit, .phaseHyst, .faultCount, .lockLimit, .stepLimit, .stepAllow, .phaseGain,
    .holdDrift, .feedEnable, .feedId, .feedClassLimit, .feedActHold, .feedActClass, .feedActFree, .lineFilter, .lineComp, .lineRecord,
    .lineNotify, .chatterCount, .chatterWindow, .queuePolicy, .saveAtShift, .manualWindow]

theorem State.storeItem_plain (h : it ∈ Item.plain) : s.storeItem it i x = s.setCfg (it.written s.cfg i x) := by
  cases it with
  | refaId | refaMatch | delayA | delayB | phaseLimit | phaseHyst | faultCount | lockLimit | stepLimit | stepAllow | phaseGain
  | holdDrift | feedEnable | feedId | feedClassLimit | feedActHold | feedActClass | feedActFree | lineFilter | lineComp | lineRecord
  | lineNotify | chatterCount | chatterWindow | queuePolicy | saveAtShift | manualWindow =>
    exact State.storeItem_apart (fun _ _ => rfl) (by decide)
  | _ => exact absurd h (by decide)

/-! ### The discipline (R60) -/

theorem Discipline.slewChanged_eq (d : Discipline) {x : Int} (h : 1000 ≤ x) :
    let c := match d.state with
      | .free | .holdover => max (-x) (min (-d.f) x)
      | .acquire | .locked => max (-x) (min d.c x)
    let keeps := d.state = .free ∨ d.state = .holdover ∨ c = d.c
    d.slewChanged x.toNat = { d with c := c, prev := if keeps then d.prev else none } := by
  obtain ⟨limit, rfl⟩ := Int.eq_ofNat_of_zero_le (show 0 ≤ x by omega)
  rw [Int.toNat_natCast]
  have clamp (y : Int) : clampInt y (-(limit : Int)) (limit : Int) = max (-(limit : Int)) (min y (limit : Int)) :=
    clampInt_eq y (by omega)
  cases state : d.state <;> simp [Discipline.slewChanged, steerFree, clamp, state]

theorem State.storeItem_slewLimit (h : 1000 ≤ x) :
    let c := match s.dsc.state with
      | .free | .holdover => max (-x) (min (-s.dsc.f) x)
      | .acquire | .locked => max (-x) (min s.dsc.c x)
    let keeps := s.dsc.state = .free ∨ s.dsc.state = .holdover ∨ c = s.dsc.c
    (s.storeItem .slewLimit i x).dsc =
      { s.dsc with c := c, prev := if keeps then s.dsc.prev else none, effClass := (s.storeItem .slewLimit i x).dsc.effClass } := by
  intro c keeps
  have stored : s.storeItem .slewLimit i x
      = ((s.setCfg (Item.slewLimit.written s.cfg i x)).setDsc (s.dsc.slewChanged x.toNat)).evalClass :=
    State.storeItem_apart (fun _ _ => rfl) (by decide)
  have dsc : (s.storeItem .slewLimit i x).dsc
      = { s.dsc.slewChanged x.toNat with effClass := (s.dsc.slewChanged x.toNat).classNow } := by
    rw [stored]
    exact State.evalClass_dsc _
  rw [dsc, s.dsc.slewChanged_eq h]

theorem State.storeItem_freqWindow : (s.storeItem .freqWindow i x).dsc = { s.dsc with sum := 0, count := 0 } := by
  rw [State.storeItem_apart (fun _ _ => rfl) (by decide)]
  rfl

/-! ### The notices (R105, R195) -/

theorem State.storeItem_watermark (h : 1 ≤ x) :
    (s.storeItem .watermark i x).ntc.conditions.getLsbD 9 = decide (x ≤ (s.evq.records.length : Int))
      ∧ (s.ntc.conditions.getLsbD 9 = false → x ≤ (s.evq.records.length : Int) →
          (s.storeItem .watermark i x).ntc.flags.getLsbD 9 = true) := by
  have ntc : (s.storeItem .watermark i x).ntc
      = s.ntc.hand .queueLevel (decide (x.toNat ≤ s.evq.records.length)) s.cfg.noticeMask := by
    rw [State.storeItem_apart (fun _ _ => rfl) (by decide)]
    rfl
  have level : decide (x.toNat ≤ s.evq.records.length) = decide (x ≤ (s.evq.records.length : Int)) := by
    rw [decide_eq_decide]
    omega
  rw [ntc, level]
  refine ⟨(NoticeUnit.hand_condition _ .queueLevel .queueLevel _ _).trans (if_pos rfl), fun ended holds => ?_⟩
  refine (NoticeUnit.hand_flag _ .queueLevel .queueLevel _ _).trans ?_
  show (s.ntc.flags.getLsbD 9 || (decide (x ≤ (s.evq.records.length : Int)) && !s.ntc.conditions.getLsbD 9 && true)) = true
  rw [decide_eq_true holds, ended, Bool.or_comm]
  rfl

theorem State.storeItem_noticeMask : (s.storeItem .noticeMask i x).ntc =
    { s.ntc with attn := decide (s.ntc.flags &&& ~~~(s.storeItem .noticeMask i x).cfg.noticeMask ≠ 0) } := by
  rw [State.storeItem_apart (fun _ _ => rfl) (by decide)]
  rfl

/-! ### The autosave expiry (R178) -/

/-- The part with AUTOSAVE_HOURS stored and the expiry set afresh. -/
def State.hoursStored (s : State) (x : Int) : State :=
  (s.setCfg { s.cfg with autosaveHours := x.toNat }).setStc { s.stc with autosave := autosaveAt s.stc.lastEnd x.toNat }

theorem State.storeItem_autosaveHours : s.storeItem .autosaveHours i x = (s.hoursStored x).autosaveIfPassed := by
  rw [State.storeItem_eq, if_pos rfl]
  rfl

theorem State.hoursStored_autosaveIfPassed (free : s.stc.inFlight = none) (h : 0 ≤ x) :
    let at' := s.stc.lastEnd + x.toNat * 3600000000
    (x = 0 → (s.hoursStored x).autosaveIfPassed.stc = { s.stc with autosave := none })
      ∧ (x ≠ 0 → s.tsc.e < at' → (s.hoursStored x).autosaveIfPassed.stc = { s.stc with autosave := some at' })
      ∧ (x ≠ 0 → at' ≤ s.tsc.e → (s.hoursStored x).autosaveIfPassed.stc.autosave = none
          ∧ ∃ f, (s.hoursStored x).autosaveIfPassed.stc.inFlight = some f ∧ f.trigger = .autosave ∧ f.start = s.tsc.e
            ∧ f.snapshot.isSome = true) := by
  intro at'
  have stc : (s.hoursStored x).stc = { s.stc with autosave := autosaveAt s.stc.lastEnd x.toNat } := rfl
  have tsc : (s.hoursStored x).tsc = s.tsc := rfl
  have expiry (nonzero : x ≠ 0) : autosaveAt s.stc.lastEnd x.toNat = some at' := by
    have positive : x.toNat ≠ 0 := by omega
    rw [autosaveAt, if_neg positive]
    simp only [at', Option.some.injEq]
    omega
  clear_value at'
  generalize s.hoursStored x = m at *
  refine ⟨fun zero => ?_, fun nonzero ahead => ?_, fun nonzero passed => ?_⟩
  · have off : m.stc.autosave = none := by rw [stc, zero]; rfl
    rw [State.autosaveIfPassed, off]
    dsimp only
    rw [stc, zero]
    rfl
  · have on : m.stc.autosave = some at' := by rw [stc, ← expiry nonzero]
    rw [State.autosaveIfPassed, on]
    dsimp only
    rw [if_neg (by rw [tsc]; omega), stc, expiry nonzero]
  · have on : m.stc.autosave = some at' := by rw [stc, ← expiry nonzero]
    have free' : (m.setStc { m.stc with autosave := none }).stc.inFlight = none := by rw [State.setStc_stc, stc]; exact free
    have reached : m.autosaveIfPassed = m.autosaveReached := by
      rw [State.autosaveIfPassed, on]
      exact if_pos (by rw [tsc]; exact passed)
    obtain ⟨starts, -⟩ := (m.setStc { m.stc with autosave := none }).requestSave_stc .autosave
    rw [reached, State.autosaveReached, starts free']
    exact ⟨rfl, _, rfl, rfl, congrArg TimeScale.e tsc, rfl⟩

end Sys2Proof.Machine

/-! PROOFS. CFGW: LOCAL_OFFSET, REVERT_DELAY and PREF_SOURCE applied (R13, R36, R37, R39, R152). -/

namespace Sys2Proof.Machine

variable {s m : State} {it jt : Item} {i : Nat} {x : Int} {y : Source}

/-! ### LOCAL_OFFSET (R13, R152) -/

theorem State.storeItem_localOffset (changes : Item.localOffset.read s.cfg i ≠ x) :
    MoveLeaves false s.localCount (s.storeItem .localOffset i x).localCount s (s.storeItem .localOffset i x) := by
  generalize hc : s.setCfg (Item.localOffset.written s.cfg i x) = c
  have stored : s.storeItem .localOffset i x = c.trackMove false := by
    rw [State.storeItem_apart (fun _ _ => rfl) (by decide), hc]
    rfl
  have before : Aside 0 s c := hc ▸ .of_blocks rfl rfl rfl rfl rfl rfl
  have tracker : c.tsc.tracker = s.tsc.tracker := by rw [← hc]; rfl
  have moved : c.localCount ≠ s.localCount := by
    have count : c.localCount = ((s.tsc.s : Int) - s.tsc.leap + 60 * x) / 60 := by rw [← hc]; rfl
    have offset : s.cfg.localOffset ≠ x := changes
    rw [count, State.localCount]
    omega
  have changed : c.trackMove false = c.trackChange false (LocalMinute.ofCount s.localCount) := by
    refine (if_neg fun same => moved ?_).symm
    have counts := congrArg LocalMinute.count same
    rwa [State.localMinute_eq, LocalMinute.count_ofCount, LocalMinute.count_ofCount] at counts
  have kept : Unchanged Part.firing c (c.trackMove false) := trackMove_unchanged c (List.Subset.refl _) false
  have count : (c.trackMove false).localCount = c.localMinute.count := by
    obtain ⟨second, -⟩ := kept .clock (by decide)
    obtain ⟨leap, -⟩ := kept .leap (by decide)
    have cfg : (c.trackMove false).cfg = c.cfg := kept .cfg (by decide)
    rw [State.localMinute_eq, LocalMinute.count_ofCount]
    exact localCount_congr second leap cfg
  rw [stored, count, changed]
  exact State.trackChange_leaves before tracker (.refl _) rfl rfl (by decide)

/-! ### The selection -/

/-- A source that is usable, and that the discipline follows in this state (R36). -/
theorem State.eligible_iff (s : State) (y : Source) :
    s.eligible y = true ↔ (s.rrx.src y).state = .usable ∧ ¬(y = .b ∧ s.dsc.state = .free) := by
  rw [State.eligible, Bool.and_eq_true, decide_eq_true_iff, Bool.not_eq_true', Bool.and_eq_false_iff, decide_eq_false_iff_not,
    decide_eq_false_iff_not, ← not_and_or]

/-- Only the wait for the revert timer tells the selection from the one at its expiry (R36). -/
theorem State.selectionNow_cases (s : State) :
    let waits := s.rrx.selection = some (otherSource s.cfg.prefSource) ∧ s.eligible (otherSource s.cfg.prefSource) = true
      ∧ s.eligible s.cfg.prefSource = true
    (waits → s.selectionNow false = some (otherSource s.cfg.prefSource)) ∧ (¬ waits → s.selectionNow false = s.selectionNow true) := by
  intro waits
  refine ⟨fun ⟨selected, other, pref⟩ => if_pos ⟨selected, other, pref, rfl⟩, fun h => ?_⟩
  have late : s.selectionNow true = if s.eligible s.cfg.prefSource then some s.cfg.prefSource
      else if s.eligible (otherSource s.cfg.prefSource) then some (otherSource s.cfg.prefSource) else none :=
    if_neg fun ⟨_, _, _, e⟩ => Bool.noConfusion e
  rw [late]
  exact if_neg fun ⟨selected, other, pref, _⟩ => h ⟨selected, other, pref⟩

/-- The selection and the revert timer after an evaluation (R36, R37). -/
theorem State.evalSelection_false (s : State) :
    let p := s.cfg.prefSource
    let o := otherSource p
    let waits := s.rrx.selection = some o ∧ s.eligible o = true ∧ s.eligible p = true
    let timer := s.rrx.revert.getD { start := s.tsc.e, expiry := s.tsc.e + s.cfg.revertDelay * 1000000 }
    (waits → (s.evalSelection false).rrx = { s.rrx with revert := some timer })
      ∧ (¬ waits → (s.evalSelection false).rrx.revert = none
        ∧ (s.eligible p = true → (s.evalSelection false).rrx.selection = some p)
        ∧ (s.eligible p = false → s.eligible o = true → (s.evalSelection false).rrx.selection = some o)
        ∧ (s.eligible p = false → s.eligible o = false → (s.evalSelection false).rrx.selection = none)) := by
  intro p o waits timer
  obtain ⟨stays, leaves⟩ := s.selectionNow_cases
  refine ⟨fun h => ?_, fun h => ?_⟩
  · obtain ⟨selected, -, pref⟩ := id h
    rw [State.evalSelection_same ((stays h).trans selected.symm), State.settleRevert, decide_eq_true selected, pref]
    simp only [timer]
    cases s.rrx.revert <;> rfl
  · have late : s.evalSelection false = s.evalSelection true := by
      rw [State.evalSelection, State.evalSelection, leaves h]
    obtain ⟨⟨rev, rrx⟩, -⟩ := s.evalSelection_leaves true
    have selection : (s.evalSelection true).rrx.selection = s.selectionNow true :=
      (congrArg Receiver.selection rrx).trans (Receiver.toldOf_rest _ _ _).1
    rw [late, selection]
    exact ⟨s.evalSelection_revert, s.selectionNow_expired⟩

/-! ### REVERT_DELAY (R37) -/

theorem State.storeItem_revertDelay :
    let eligible (y : Source) := (s.rrx.src y).state = .usable ∧ ¬(y = .b ∧ s.dsc.state = .free)
    (s.rrx.revert = none → (s.storeItem .revertDelay i x).rrx = s.rrx)
      ∧ ∀ w, s.rrx.revert = some w →
        (s.tsc.e < w.start + x.toNat * 1000000 → (s.storeItem .revertDelay i x).rrx =
          { s.rrx with revert := some { start := w.start, expiry := w.start + x.toNat * 1000000 } })
        ∧ (w.start + x.toNat * 1000000 ≤ s.tsc.e → (s.storeItem .revertDelay i x).rrx.revert = none
          ∧ (eligible s.cfg.prefSource → (s.storeItem .revertDelay i x).rrx.selection = some s.cfg.prefSource)) := by
  intro eligible
  generalize hc : s.setCfg (Item.revertDelay.written s.cfg i x) = c
  have stored : s.storeItem .revertDelay i x = c.moveRevert := by
    rw [State.storeItem_apart (fun _ _ => rfl) (by decide), hc]
    rfl
  have rrx : c.rrx = s.rrx := by rw [← hc]; rfl
  have tsc : c.tsc = s.tsc := by rw [← hc]; rfl
  have dsc : c.dsc = s.dsc := by rw [← hc]; rfl
  have pref : c.cfg.prefSource = s.cfg.prefSource := by rw [← hc]; rfl
  have delay : c.cfg.revertDelay = x.toNat := by rw [← hc]; rfl
  rw [stored]
  refine ⟨fun idle => ?_, fun w running => ?_⟩
  · rw [State.moveRevert, rrx, idle]
    exact rrx
  · have moved : c.revertMoved w = { s.rrx with revert := some { start := w.start, expiry := w.start + x.toNat * 1000000 } } := by
      rw [State.revertMoved, rrx, delay]
    rw [c.moveRevert_running (by rw [rrx]; exact running), moved, delay, tsc]
    refine ⟨fun ahead => ?_, fun passed => ?_⟩
    · rw [if_neg (Nat.not_le.2 ahead)]
      rfl
    · rw [if_pos passed]
      have expired (r : Receiver) (src : ∀ y, r.src y = s.rrx.src y) : (c.setRrx r).revertExpires.rrx.revert = none
          ∧ (eligible s.cfg.prefSource → (c.setRrx r).revertExpires.rrx.selection = some s.cfg.prefSource) := by
        obtain ⟨none', ⟨selects, -⟩, -⟩ := (c.setRrx r).revertExpires_leaves
        refine ⟨none', fun ⟨usable, follows⟩ => ?_⟩
        rw [← pref] at usable follows ⊢
        exact selects ⟨by rw [State.setRrx_rrx, src]; exact usable, by rw [State.setRrx_dsc, dsc]; exact follows⟩
      exact expired _ fun y => by cases y <;> rfl

/-! ### PREF_SOURCE (R36, R39) -/

theorem State.storeItem_prefSource :
    let t := s.storeItem .prefSource i x
    let eligible (y : Source) := (s.rrx.src y).state = .usable ∧ ¬(y = .b ∧ s.dsc.state = .free)
    let p := t.cfg.prefSource
    let o := otherSource p
    let stays := s.rrx.selection = some o ∧ eligible o ∧ eligible p
    (stays → t.rrx.selection = some o
      ∧ t.rrx.revert = some (s.rrx.revert.getD { start := s.tsc.e, expiry := s.tsc.e + s.cfg.revertDelay * 1000000 }))
    ∧ (¬ stays → t.rrx.revert = none
        ∧ (eligible p → t.rrx.selection = some p)
        ∧ (¬ eligible p → eligible o → t.rrx.selection = some o)
        ∧ (¬ eligible p → ¬ eligible o → t.rrx.selection = none)) := by
  intro t eligible
  generalize hc : s.setCfg (Item.prefSource.written s.cfg i x) = c
  have stored : t = c.evalSelection false := by
    show s.storeItem .prefSource i x = _
    rw [State.storeItem_apart (fun _ _ => rfl) (by decide), hc]
    rfl
  have cfg : t.cfg = c.cfg := by
    have kept : Unchanged (.rrx :: .dsc :: Part.recording) c (c.evalSelection false) :=
      evalSelection_unchanged c (by decide) (by decide) (by decide) false
    rw [stored]
    exact kept .cfg (by decide)
  have rrx : c.rrx = s.rrx := by rw [← hc]; rfl
  have tsc : c.tsc = s.tsc := by rw [← hc]; rfl
  have delay : c.cfg.revertDelay = s.cfg.revertDelay := by rw [← hc]; rfl
  have meets (y : Source) : c.eligible y = true ↔ eligible y := by
    have dsc : c.dsc = s.dsc := by rw [← hc]; rfl
    rw [State.eligible_iff, rrx, dsc]
  have fails (y : Source) : c.eligible y = false ↔ ¬ eligible y := by rw [← meets, Bool.not_eq_true]
  obtain ⟨waits, settles⟩ := c.evalSelection_false
  rw [← stored, rrx, tsc, delay] at waits
  rw [← stored, rrx] at settles
  simp only [meets, fails] at waits settles
  rw [cfg]
  clear_value t
  refine ⟨fun stays => ?_, settles⟩
  obtain ⟨selected, -⟩ := id stays
  rw [waits stays]
  exact ⟨selected, rfl⟩

end Sys2Proof.Machine

/-! PROOFS. CFGW: a unit's own items applied (R122, R127, R135). -/

namespace Sys2Proof.Machine

variable {s t c m : State} {it : Item} {i u : Nat} {x : Int}

/-! ### The units that a change touches, evaluated (R135) -/

theorem State.evalUnits_unit (s : State) (us : List Nat) (u : Nat) : (s.evalUnits us).unit u =
    if (1 ≤ u ∧ u ≤ 8) ∧ u ∈ us then (s.unit u).evaluated (s.unitCfg u) s.tsc.e else s.unit u := by
  have among (v : Nat) : v ∈ (numbers 8).filter us.contains ↔ (1 ≤ v ∧ v ≤ 8) ∧ v ∈ us := by
    rw [List.mem_filter, mem_numbers, List.contains_iff_mem]
  have numbered {v : Nat} (hv : v ∈ (numbers 8).filter us.contains) : 1 ≤ v ∧ v ≤ 8 := ((among v).1 hv).1
  obtain ⟨hit, miss, -⟩ := forAll_units (s := s) (us := (numbers 8).filter us.contains) ((numbers_nodup 8).filter _)
    (f := State.evalMaintenance)
    (P := Unchanged (.tlu :: Part.recording) s) (Q := fun v y => y = (s.unit v).evaluated (s.unitCfg v) s.tsc.e)
    (fun v _ t ht => ht.trans (evalMaintenance_unchanged t (by decide) (by decide) _))
    (fun v hv t w hw => (t.evalMaintenance_unit_eq v w (numbered hv)).trans (if_neg hw))
    (fun v hv t ht same => by
      rw [t.evalMaintenance_unit_eq v v (numbered hv), if_pos rfl, same, ht.unitCfg_eq (by decide) v,
        ht.tsc_eq (by decide) (by decide) (by decide) (by decide)])
    (Unchanged.refl _ _)
  split
  next h => exact hit u ((among u).2 h)
  next h => exact miss u (mt (among u).1 h)

/-! ### The instant of the periodic evaluation (R136) -/

theorem State.evalMaintenance_nextEval (s : State) (u : Nat) : (s.evalMaintenance u).tlu.nextEval = s.tlu.nextEval := by
  have tlu : (s.evalMaintenance u).tlu
      = (s.setTally u { (s.unit u).tally with due := decide ((s.unit u).tally.limit ≤ s.eoh u) }).tlu := by
    simp only [State.evalMaintenance]
    split_ifs <;> simp only [State.hand_tlu, State.place_tlu]
  rw [tlu]
  rfl

theorem State.evalUnits_nextEval (s : State) (us : List Nat) : (s.evalUnits us).tlu.nextEval = s.tlu.nextEval :=
  forAll_keeps (fun t => t.tlu.nextEval = s.tlu.nextEval) _ State.evalMaintenance
    (fun u _ t h => (t.evalMaintenance_nextEval u).trans h) s rfl

theorem State.expireIfPassed_nextEval (s : State) (u : Nat) : (s.expireIfPassed u).tlu.nextEval = s.tlu.nextEval := by
  rw [State.expireIfPassed]
  split
  · split
    · simp only [State.expireDiscrepancy, State.evalDiscrepancy, State.hand_tlu, State.place_tlu]
      rfl
    · rfl
  · rfl
  · rfl

theorem State.moveTimer_nextEval (s : State) (u : Nat) : (s.moveTimer u).tlu.nextEval = s.tlu.nextEval := by
  rw [State.moveTimer]
  split
  · exact State.expireIfPassed_nextEval _ u
  · rfl
  · rfl

/-! ### A unit's own items (R122, R127) -/

/-- A unit after a change of its own item, before its evaluation. -/
def GenUnit.itemChanged (g : GenUnit) (it : Item) (now delay : Nat) : GenUnit :=
  if it = .discrepDelay then { g.checkpoint now with timer := g.timerMoved now delay } else g.checkpoint now

theorem State.unitItemChanged_unit (s : State) (it : Item) (hu : 1 ≤ u ∧ u ≤ 8) (v : Nat) : (s.unitItemChanged it u).unit v =
    if v = u then (s.unit u).itemChanged it s.tsc.e ((s.unitCfg u).discrepDelay * 1000000) else s.unit v := by
  have checked (w : Nat) : (s.checkpointNow u).unit w = if w = u then (s.unit u).checkpoint s.tsc.e else s.unit w :=
    s.checkpoint_unit u _ w (decide_eq_true hu)
  obtain ⟨-, entry, -, timer, -⟩ := (s.unit u).checkpoint_keeps s.tsc.e
  rw [State.unitItemChanged, GenUnit.itemChanged]
  by_cases delay : it = .discrepDelay
  · have moved : ((s.unit u).checkpoint s.tsc.e).timerMoved s.tsc.e ((s.unitCfg u).discrepDelay * 1000000)
        = (s.unit u).timerMoved s.tsc.e ((s.unitCfg u).discrepDelay * 1000000) := by
      rw [GenUnit.timerMoved, GenUnit.timerMoved, entry, timer]
    rw [if_pos delay, if_pos delay, ← moved, State.moveTimer_unit _ hu, checked u, if_pos rfl, checked v]
    split <;> rfl
  · rw [if_neg delay, if_neg delay]
    exact checked v

theorem State.unitItemChanged_nextEval (s : State) (it : Item) (u : Nat) : (s.unitItemChanged it u).tlu.nextEval = s.tlu.nextEval := by
  have checked : (s.checkpointNow u).tlu.nextEval = s.tlu.nextEval := rfl
  rw [State.unitItemChanged]
  split
  · exact (State.moveTimer_nextEval _ u).trans checked
  · exact checked

theorem State.storeItem_of_unit (h : it ∈ Item.unitItems) :
    s.storeItem it i x = ((s.setCfg (it.written s.cfg i x)).unitItemChanged it i).evalUnits [i] := by
  have other : it ≠ .autosaveHours := by
    rintro rfl
    exact absurd h (by decide)
  have touches (old new : Settings) : it.touches old new i = [i] := by
    cases it with
    | unitGroup | weightStill | weightSpin | weightGen | weightPump | weightCond | weightIndet | startWeight | tripWeight
    | modeRecord | discrepDelay => rfl
    | _ => exact absurd h (by decide)
  rw [State.storeItem_eq, if_neg other, touches, State.applyItem_of_unit h]

/-- The unit after a stored write of one of its items, and what that leaves of every other. -/
theorem State.storeItem_unit (h : it ∈ Item.unitItems) (hi : 1 ≤ i ∧ i ≤ 8) (u : Nat) : (s.storeItem it i x).unit u =
    if u = i then ((s.unit i).itemChanged it s.tsc.e (((s.storeItem it i x).unitCfg i).discrepDelay * 1000000)).evaluated
      ((s.storeItem it i x).unitCfg i) (s.storeItem it i x).tsc.e else s.unit u := by
  rw [State.storeItem_of_unit h]
  have changed := unitItemChanged_unchanged (s.setCfg (it.written s.cfg i x)) it i
  have unit := (s.setCfg (it.written s.cfg i x)).unitItemChanged_unit it hi
  have tsc : (s.setCfg (it.written s.cfg i x)).tsc = s.tsc := rfl
  have held (v : Nat) : (s.setCfg (it.written s.cfg i x)).unit v = s.unit v := rfl
  generalize s.setCfg (it.written s.cfg i x) = c at *
  generalize c.unitItemChanged it i = q at *
  have evaluated : Unchanged (.tlu :: Part.recording) q (q.evalUnits [i]) := evalUnits_unchanged q (by decide) (by decide) [i]
  have now : (q.evalUnits [i]).tsc = q.tsc := evaluated.tsc_eq (by decide) (by decide) (by decide) (by decide)
  have settings : (q.evalUnits [i]).unitCfg i = q.unitCfg i := evaluated.unitCfg_eq (by decide) i
  have settings' : q.unitCfg i = c.unitCfg i := changed.unitCfg_eq (by decide) i
  rw [q.evalUnits_unit, now, settings, settings', unit u, tsc, held, held]
  by_cases own : u = i
  · subst own
    rw [if_pos ⟨hi, List.mem_singleton_self _⟩, if_pos rfl, if_pos rfl, settings']
  · rw [if_neg fun h => own (List.mem_singleton.1 h.2), if_neg own, if_neg own]

theorem State.storeItem_nextEval (h : it ∈ Item.unitItems) : (s.storeItem it i x).tlu.nextEval = s.tlu.nextEval := by
  rw [State.storeItem_of_unit h, State.evalUnits_nextEval, State.unitItemChanged_nextEval]
  rfl

theorem Item.written_discrepDelay (cfg : Settings) (hi : 1 ≤ i ∧ i ≤ 8) :
    (nth (Item.discrepDelay.written cfg i x).units i).discrepDelay = x.toNat :=
  congrArg UnitSettings.discrepDelay (nth_setNth_self cfg.units i _ hi)

/-- What a stored write of a unit's item leaves of the units (R127). -/
theorem State.storeItem_unit_leaves (h : it ∈ Item.unitItems) (hi : 1 ≤ i ∧ i ≤ 8) :
    let m := s.storeItem it i x
    let g := s.unit i
    (m.unit i).mode = g.mode ∧ (m.unit i).entry = g.entry ∧ (m.unit i).entryDate = g.entryDate
      ∧ (m.unit i).ecp = (g.checkpoint s.tsc.e).ecp ∧ (m.unit i).tally.accs = (g.checkpoint s.tsc.e).tally.accs
      ∧ (m.unit i).tally.starts = g.tally.starts ∧ (m.unit i).tally.trips = g.tally.trips
      ∧ ((m.unit i).tally.due = true ↔ (m.unit i).tally.limit ≤ m.eoh i)
      ∧ (it ≠ .discrepDelay → (m.unit i).timer = g.timer)
      ∧ (it = .discrepDelay → (m.unit i).timer = g.timerMoved s.tsc.e (x.toNat * 1000000))
      ∧ (∀ u, u ≠ i → m.unit u = s.unit u) ∧ m.tlu.nextEval = s.tlu.nextEval := by
  intro m g
  have unit (u : Nat) := State.storeItem_unit (s := s) (x := x) h hi u
  have delay : it = .discrepDelay → (m.unitCfg i).discrepDelay = x.toNat := by
    rintro rfl
    rw [State.unitCfg, (s.storeItem_leaves .discrepDelay i x).1]
    exact Item.written_discrepDelay s.cfg hi
  have next := State.storeItem_nextEval (s := s) (i := i) (x := x) h
  change ∀ u, m.unit u = if u = i then (g.itemChanged it s.tsc.e ((m.unitCfg i).discrepDelay * 1000000)).evaluated
    (m.unitCfg i) m.tsc.e else s.unit u at unit
  change m.tlu.nextEval = _ at next
  clear_value m
  have own := (unit i).trans (if_pos rfl)
  have due := GenUnit.evaluated_due own
  obtain ⟨mode, entry, entryDate, timer, starts, trips, -⟩ := g.checkpoint_keeps s.tsc.e
  have others (u : Nat) (hu : u ≠ i) : m.unit u = s.unit u := (unit u).trans (if_neg hu)
  by_cases moves : it = .discrepDelay
  · rw [GenUnit.itemChanged, if_pos moves, delay moves] at own
    refine ⟨?_, ?_, ?_, ?_, ?_, ?_, ?_, due, fun stays => absurd moves stays, fun _ => ?_, others, next⟩ <;> rw [own]
    · exact mode
    · exact entry
    · exact entryDate
    · rfl
    · rfl
    · exact starts
    · exact trips
    · rfl
  · rw [GenUnit.itemChanged, if_neg moves] at own
    refine ⟨?_, ?_, ?_, ?_, ?_, ?_, ?_, due, fun _ => ?_, fun moved => absurd moved moves, others, next⟩ <;> rw [own]
    · exact mode
    · exact entry
    · exact entryDate
    · rfl
    · rfl
    · exact starts
    · exact trips
    · exact timer

end Sys2Proof.Machine

/-! PROOFS. CFGW: the kind, the unit and the polarity of a line applied: the line reset, and the units that it touches derived again
(R87, R126). -/

namespace Sys2Proof.Machine

variable {s t c q m b : State} {it : Item} {i u j k n : Nat} {x : Int}

/-! ### The touched units (R87 step 5) -/

theorem LineSettings.mem_statusUnit (c : LineSettings) (hu : 1 ≤ u ∧ u ≤ 8) :
    u ∈ c.statusUnit ↔ c.kind.isStatus = true ∧ c.unit = u := by
  rw [LineSettings.statusUnit]
  split
  next h =>
    obtain ⟨status, -⟩ := Bool.and_eq_true_iff.1 h
    rw [List.mem_singleton]
    exact ⟨fun e => ⟨status, e.symm⟩, fun e => e.2.symm⟩
  next h =>
    refine ⟨fun e => absurd e List.not_mem_nil, fun ⟨status, unit⟩ => absurd ?_ h⟩
    rw [status, unit]
    exact decide_eq_true hu

theorem mem_touchedUnits (old new : LineSettings) (hu : 1 ≤ u ∧ u ≤ 8) :
    u ∈ touchedUnits old new ↔ old.kind.isStatus = true ∧ old.unit = u ∨ new.kind.isStatus = true ∧ new.unit = u := by
  rw [touchedUnits, List.mem_dedup, List.mem_append, LineSettings.mem_statusUnit _ hu, LineSettings.mem_statusUnit _ hu]

theorem touchedUnits_numbered {old new : LineSettings} (h : u ∈ touchedUnits old new) : 1 ≤ u ∧ u ≤ 8 := by
  have numbered (c : LineSettings) (h : u ∈ c.statusUnit) : 1 ≤ u ∧ u ≤ 8 := by
    rw [LineSettings.statusUnit] at h
    split at h
    next exists' =>
      obtain ⟨-, unit⟩ := Bool.and_eq_true_iff.1 exists'
      rw [List.mem_singleton.1 h]
      exact of_decide_eq_true unit
    next => exact absurd h List.not_mem_nil
  rw [touchedUnits, List.mem_dedup, List.mem_append] at h
  exact h.elim (numbered old) (numbered new)

theorem touchedUnits_few (old new : LineSettings) : (touchedUnits old new).length ≤ 2 := by
  have one (c : LineSettings) : c.statusUnit.length ≤ 1 := by
    rw [LineSettings.statusUnit]
    split
    · exact Nat.le_refl 1
    · exact Nat.zero_le 1
  have fewer : (touchedUnits old new).length ≤ (old.statusUnit ++ new.statusUnit).length := (List.dedup_sublist _).length_le
  rw [List.length_append] at fewer
  have := one old
  have := one new
  omega

/-! ### The units told (R126) -/

/-- The units are derived again one after another, two of them in either order (entry 32). -/
theorem State.tellUnits_cases (c : State) (us : List Nat) :
    ∃ (vs : List Nat) (d : State), c.tellUnits us = forAll vs State.reconfigUnit d ∧ vs.Perm us ∧ Unchanged [.draws] c d := by
  have drawn : Unchanged [.draws] c (c.setDraws (c.draws + 1)) := setDraws_unchanged c (by decide) _
  match us with
  | [u, v] =>
    have two (v w : Nat) (d : State) : (d.reconfigUnit v).reconfigUnit w = forAll [v, w] State.reconfigUnit d := by
      rw [forAll_cons, forAll_cons, forAll_nil]
    have told : c.tellUnits [u, v] = eitherOrder (State.reconfigUnit u) (State.reconfigUnit v) c := by
      simp only [State.tellUnits]
    rw [told]
    rcases eitherOrder_cases (State.reconfigUnit u) (State.reconfigUnit v) c with e | e
    · exact ⟨[u, v], c.setDraws (c.draws + 1), e.trans (two _ _ _), .refl _, drawn⟩
    · exact ⟨[v, u], c.setDraws (c.draws + 1), e.trans (two _ _ _), .swap u v [], drawn⟩
  | [] => exact ⟨[], c, by simp only [State.tellUnits], .refl _, .refl _ c⟩
  | [u] => exact ⟨[u], c, by simp only [State.tellUnits], .refl _, .refl _ c⟩
  | u :: v :: w :: us => exact ⟨u :: v :: w :: us, c, by simp only [State.tellUnits], .refl _, .refl _ c⟩

theorem Appends.reconfigUnit (u : Nat) (s : State) : Appends 3 [] s (s.reconfigUnit u) :=
  ((Appends.rederive (s.checkpointNow u) u).congr rfl rfl).mono (by decide) (List.Subset.refl _)

theorem State.checkpointNow_unit (s : State) (hu : 1 ≤ u ∧ u ≤ 8) (v : Nat) :
    (s.checkpointNow u).unit v = if v = u then (s.unit u).checkpoint s.tsc.e else s.unit v :=
  s.checkpoint_unit u s.tsc.e v (decide_eq_true hu)

/-- A unit told of a change, and one that is not. -/
theorem State.reconfigUnits_unit (d : State) {vs : List Nat} (nodup : vs.Nodup) (numbered : ∀ v ∈ vs, 1 ≤ v ∧ v ≤ 8) (u : Nat) :
    (forAll vs State.reconfigUnit d).unit u = if u ∈ vs then
      ((d.unit u).checkpoint d.tsc.e).rederived (d.deriveMode u) d.tsc.e d.dateNow (d.expiryNow u) else d.unit u := by
  obtain ⟨hit, miss, -⟩ := forAll_units (s := d) nodup (f := State.reconfigUnit) (P := Unchanged (.tlu :: Part.recording) d)
    (Q := fun v y => y = ((d.unit v).checkpoint d.tsc.e).rederived (d.deriveMode v) d.tsc.e d.dateNow (d.expiryNow v))
    (fun v _ t ht => ht.trans (reconfigUnit_unchanged t (by decide) (by decide) v))
    (fun v hv t w hw => (t.reconfigUnit_unit (numbered v hv) w).trans (if_neg hw))
    (fun v hv t ht same => by
      have tsc : t.tsc = d.tsc := ht.tsc_eq (by decide) (by decide) (by decide) (by decide)
      have dsc : t.dsc = d.dsc := ht .dsc (by decide)
      have settings : t.unitCfg v = d.unitCfg v := ht.unitCfg_eq (by decide) v
      have mode : t.deriveMode v = d.deriveMode v := State.deriveMode_congr (ht .lqu (by decide)) (ht .cfg (by decide)) v
      have date : t.dateNow = d.dateNow := by simp only [State.dateNow, State.latch, tsc, dsc]
      rw [t.reconfigUnit_unit (numbered v hv) v, if_pos rfl, same, mode, date, State.expiryNow, State.expiryNow, tsc, settings])
    (Unchanged.refl _ _)
  split
  next h => exact hit u h
  next h => exact miss u h

/-! ### The line reset (R87 steps 1 to 4) -/

theorem State.resetLine_leaves (c : State) (hi : 1 ≤ i ∧ i ≤ 32) :
    let r := c.resetLine i
    (r.line i).pending = none ∧ (r.line i).quiet = none ∧ (r.line i).bounce = (c.line i).bounce
      ∧ (r.line i).pinHigh = (c.line i).pinHigh
      ∧ ((c.lineCfg i).kind ≠ .unused → (r.line i).state = .steady ∧ (r.line i).effective = c.lineLevel i
          ∧ (r.line i).filtered = c.lineLevel i) := by
  intro r
  have self (y : Line) := State.line_setLine_self c y hi
  by_cases unused : (c.lineCfg i).kind = .unused
  · have e : r = c.setLine i _ := if_pos unused
    rw [e, self]
    exact ⟨rfl, rfl, rfl, rfl, fun h => absurd unused h⟩
  · have e : r = c.setLine i _ := if_neg unused
    rw [e, self]
    exact ⟨rfl, rfl, rfl, rfl, fun _ => ⟨rfl, rfl, rfl⟩⟩

/-! ### The items of R87 -/

theorem State.storeItem_of_line (h : it = .lineKind ∨ it = .lineUnit ∨ it = .linePolarity) :
    s.storeItem it i x = (((s.setCfg (it.written s.cfg i x)).resetLine i).tellUnits
      (touchedUnits (s.lineCfg i) (nth (it.written s.cfg i x).lines i))).evalUnits
        (touchedUnits (s.lineCfg i) (nth (it.written s.cfg i x).lines i)) := by
  rcases h with rfl | rfl | rfl
  · rw [State.storeItem_eq, if_neg (by decide)]; rfl
  · rw [State.storeItem_eq, if_neg (by decide)]; rfl
  · rw [State.storeItem_eq, if_neg (by decide)]; rfl

/-- The stages of a stored write of a line's item: the line reset, the units told, and the units evaluated. -/
theorem State.storeItem_line_stages (h : it = .lineKind ∨ it = .lineUnit ∨ it = .linePolarity) :
    let m := s.storeItem it i x
    let us := touchedUnits (s.lineCfg i) (m.lineCfg i)
    ∃ (c r d : State) (vs : List Nat), c = s.setCfg m.cfg ∧ r = c.resetLine i ∧ Unchanged [.draws] r d ∧ vs.Perm us
      ∧ m = (forAll vs State.reconfigUnit d).evalUnits us := by
  intro m us
  have cfg : m.cfg = it.written s.cfg i x := (s.storeItem_leaves it i x).1
  have stored := State.storeItem_of_line (s := s) (i := i) (x := x) h
  rw [← cfg] at stored
  obtain ⟨vs, d, told, perm, drawn⟩ := ((s.setCfg m.cfg).resetLine i).tellUnits_cases us
  have e : m = (((s.setCfg m.cfg).resetLine i).tellUnits us).evalUnits us := stored
  rw [told] at e
  exact ⟨_, _, d, vs, rfl, rfl, drawn, perm, e⟩

end Sys2Proof.Machine

/-! PROOFS. CFGW: the units of a reconfigured line, each derived again or left (R87 step 5, R126). -/

namespace Sys2Proof.Machine

variable {s t c d m : State} {it : Item} {i u : Nat} {x : Int}

/-! ### The units derived again and evaluated (R126 steps 2 to 5) -/

/-- A state that differs from `s` in nothing that the units' derivation carries over: time, class, units and records. -/
def State.SameUnits (s d : State) : Prop :=
  d.tsc = s.tsc ∧ d.dsc = s.dsc ∧ d.tlu = s.tlu ∧ d.evq = s.evq

/-- The units `us`, told in the order `vs`, and evaluated. -/
def State.reconfigured (d : State) (vs us : List Nat) : State := (forAll vs State.reconfigUnit d).evalUnits us

theorem State.reconfigured_unchanged (d : State) (vs us : List Nat) : Unchanged (.tlu :: Part.recording) d (d.reconfigured vs us) :=
  (forAll_unchanged _ _ (fun u _ t => reconfigUnit_unchanged t (by decide) (by decide) u) d).trans
    (evalUnits_unchanged _ (by decide) (by decide) us)

theorem State.reconfigured_unit (d : State) {vs us : List Nat} (nodup : vs.Nodup) (numbered : ∀ v ∈ us, 1 ≤ v ∧ v ≤ 8)
    (perm : vs.Perm us) (u : Nat) :
    let m := d.reconfigured vs us
    m.unit u = if u ∈ us then (((d.unit u).checkpoint d.tsc.e).rederived (m.deriveMode u) d.tsc.e d.dateNow
      (d.tsc.e + (m.unitCfg u).discrepDelay * 1000000)).evaluated (m.unitCfg u) m.tsc.e else d.unit u := by
  intro m
  have told := d.reconfigUnits_unit nodup (fun v hv => numbered v (perm.mem_iff.1 hv)) u
  have kept := d.reconfigured_unchanged vs us
  change Unchanged _ d m at kept
  have tsc : m.tsc = d.tsc := kept.tsc_eq (by decide) (by decide) (by decide) (by decide)
  have settings : m.unitCfg u = d.unitCfg u := kept.unitCfg_eq (by decide) u
  have mode : m.deriveMode u = d.deriveMode u := State.deriveMode_congr (kept .lqu (by decide)) (kept .cfg (by decide)) u
  have evaluated := (forAll vs State.reconfigUnit d).evalUnits_unit us u
  change m.unit u = _ at evaluated
  have first : Unchanged (.tlu :: Part.recording) d (forAll vs State.reconfigUnit d) :=
    forAll_unchanged _ _ (fun u _ t => reconfigUnit_unchanged t (by decide) (by decide) u) d
  have tscq : (forAll vs State.reconfigUnit d).tsc = d.tsc := first.tsc_eq (by decide) (by decide) (by decide) (by decide)
  have settingsq : (forAll vs State.reconfigUnit d).unitCfg u = d.unitCfg u := first.unitCfg_eq (by decide) u
  rw [evaluated, told, tscq, settingsq, tsc, settings, mode, ← State.expiryNow]
  by_cases hu : u ∈ us
  · rw [if_pos ⟨numbered u hu, hu⟩, if_pos (perm.mem_iff.2 hu), if_pos hu]
  · rw [if_neg fun h => hu h.2, if_neg (mt perm.mem_iff.1 hu), if_neg hu]

theorem Appends.evalUnits (us : List Nat) (s : State) : Appends 8 [] s (s.evalUnits us) := by
  have few : ((numbers 8).filter us.contains).length ≤ 8 := List.length_filter_le _ _
  exact (Appends.overAll State.evalMaintenance (fun _ => []) Appends.evalMaintenance _ s).mono few (List.nil_subset _)

/-- A touched unit, and the MODE record of its change (R126). -/
theorem State.reconfigured_rederived (same : s.SameUnits d) {vs us : List Nat} (nodup : vs.Nodup)
    (numbered : ∀ v ∈ us, 1 ≤ v ∧ v ≤ 8) (perm : vs.Perm us) (few : us.length ≤ 2) (hu : u ∈ us) :
    let m := d.reconfigured vs us
    UnitRederived u s m ∧ ((m.unit u).mode = (s.unit u).mode → (m.unit u).timer = (s.unit u).timer) := by
  intro m
  obtain ⟨tsc, dsc, tlu, evq⟩ := same
  have value := (d.reconfigured_unit nodup numbered perm u).trans (if_pos hu)
  have kept := d.reconfigured_unchanged vs us
  have records : Appends 8 [] (forAll vs State.reconfigUnit d) m := Appends.evalUnits us (forAll vs State.reconfigUnit d)
  have hm : m = d.reconfigured vs us := rfl
  clear_value m
  rw [← hm] at value kept
  have due := GenUnit.evaluated_due value
  have derived := State.deriveMode_derived m u
  have unit : d.unit u = s.unit u := by rw [State.unit, State.unit, tlu]
  have dated : DatedNow s m d.dateNow := by
    refine ⟨congrArg TimeScale.epoch tsc, congrArg TimeScale.s tsc, ?_, .inl (congrArg Discipline.effClass dsc)⟩
    show d.tsc.n / 1000 = _
    rw [tsc]
  have mode' : d.deriveMode u = m.deriveMode u :=
    (State.deriveMode_congr (kept .lqu (by decide)) (kept .cfg (by decide)) u).symm
  have settings : d.unitCfg u = m.unitCfg u := (kept.unitCfg_eq (by decide) u).symm
  rw [unit, tsc] at value
  obtain ⟨mode, -, -, timer, -⟩ := (s.unit u).checkpoint_keeps s.tsc.e
  have booked : (((s.unit u).checkpoint s.tsc.e).rederived (m.deriveMode u) s.tsc.e d.dateNow
      (s.tsc.e + (m.unitCfg u).discrepDelay * 1000000)).Booked s.tsc.e (m.unit u) := by
    rw [value]
    exact .evaluated _ _ _ _
  have record (changes : m.deriveMode u ≠ (s.unit u).mode) (room : s.spacious) (recorded : (m.unitCfg u).modeRecord = true) :
      ModeRecorded u (s.unit u).mode (m.deriveMode u) (s.unit u).tally.starts s m := by
    obtain ⟨len, n, hn, numbers'⟩ := room
    have length : vs.length ≤ 2 := perm.length_eq ▸ few
    have among := State.modeRecord_among (s := d) (b := s) (t := m) (f := State.reconfigUnit) (us := vs) nodup
      (perm.mem_iff.2 hu) (numbered u hu) (fun v q => reconfigUnit_unchanged q (by decide) (by decide) v)
      (fun v hv q other => (q.reconfigUnit_unit (numbered v (perm.mem_iff.1 hv)) u).trans (if_neg (Ne.symm other)))
      Appends.reconfigUnit
      (fun q => ⟨q.checkpointNow u, rfl, rfl, rfl, by
          rw [q.checkpointNow_unit (numbered u hu), if_pos rfl]; exact (GenUnit.checkpoint_keeps _ _).1, by
          rw [q.checkpointNow_unit (numbered u hu), if_pos rfl]
          obtain ⟨-, -, -, -, starts, -⟩ := (q.unit u).checkpoint_keeps q.tsc.e
          exact starts, (Appends.of_eq rfl).mono (by decide) (List.Subset.refl _)⟩)
      (by rw [mode', unit]; exact changes) (by rw [settings]; exact recorded)
      (Appends.of_eq evq) records hn (by omega) (by omega)
    rwa [mode', unit] at among
  refine ⟨UnitRederived.of_booked (numbered u hu) booked derived dated (fun _ => rfl) due (fun changes room _ => record changes room),
    fun stays => ?_⟩
  obtain ⟨hmode, -, -, htimer, -⟩ := booked.keeps
  have new := ((s.unit u).checkpoint s.tsc.e).rederived_keeps (m.deriveMode u) s.tsc.e d.dateNow
    (s.tsc.e + (m.unitCfg u).discrepDelay * 1000000)
  have unmoved : m.deriveMode u = ((s.unit u).checkpoint s.tsc.e).mode :=
    new.1.symm.trans (hmode.symm.trans (stays.trans mode.symm))
  rw [htimer, GenUnit.rederived, if_pos unmoved, timer]

/-! ### What a stored write of a line's item leaves (R87) -/

theorem State.storeItem_line_leaves (h : it = .lineKind ∨ it = .lineUnit ∨ it = .linePolarity) (hi : 1 ≤ i ∧ i ≤ 32) :
    let m := s.storeItem it i x
    (m.line i).pending = none ∧ (m.line i).quiet = none ∧ (m.line i).bounce = (s.line i).bounce
      ∧ (m.line i).pinHigh = (s.line i).pinHigh
      ∧ ((m.lineCfg i).kind ≠ .unused → (m.line i).state = .steady ∧ (m.line i).effective = m.lineLevel i
          ∧ (m.line i).filtered = m.lineLevel i)
      ∧ ∀ u, 1 ≤ u → u ≤ 8 →
        let touched := (s.lineCfg i).kind.isStatus = true ∧ (s.lineCfg i).unit = u
          ∨ (m.lineCfg i).kind.isStatus = true ∧ (m.lineCfg i).unit = u
        (touched → UnitRederived u s m ∧ ((m.unit u).mode = (s.unit u).mode → (m.unit u).timer = (s.unit u).timer))
        ∧ (¬ touched → m.unit u = s.unit u) := by
  intro m
  have stages := State.storeItem_line_stages (s := s) (i := i) (x := x) h
  have hm : m = s.storeItem it i x := rfl
  clear_value m
  rw [← hm] at stages
  obtain ⟨c, r, d, vs, hc, hr, drawn, perm, e⟩ := stages
  change m = d.reconfigured vs (touchedUnits (s.lineCfg i) (m.lineCfg i)) at e
  have numbered (v : Nat) (hv : v ∈ touchedUnits (s.lineCfg i) (m.lineCfg i)) := touchedUnits_numbered hv
  have nodup : vs.Nodup := perm.nodup_iff.2 (List.nodup_dedup _)
  have few := touchedUnits_few (s.lineCfg i) (m.lineCfg i)
  have member (u : Nat) (hu : 1 ≤ u ∧ u ≤ 8) := mem_touchedUnits (s.lineCfg i) (m.lineCfg i) hu
  have settings : c.lineCfg i = m.lineCfg i := by rw [hc]; rfl
  have line : c.line i = s.line i := by rw [hc]; rfl
  have kept := d.reconfigured_unchanged vs (touchedUnits (s.lineCfg i) (m.lineCfg i))
  rw [← e] at kept
  have reset : Unchanged [.lqu] c r := hr ▸ resetLine_unchanged c (by decide) i
  have first : Unchanged [.lqu, .draws, .cfg] s d :=
    ((hc ▸ setCfg_unchanged s (L := [.lqu, .draws, .cfg]) (by decide) m.cfg).trans (reset.mono (by decide))).trans (drawn.mono (by decide))
  have same : s.SameUnits d := ⟨first.tsc_eq (by decide) (by decide) (by decide) (by decide), first .dsc (by decide),
    first .tlu (by decide), first .evq (by decide)⟩
  have lqu : m.lqu = r.lqu := (kept .lqu (by decide)).trans (drawn .lqu (by decide))
  obtain ⟨pending, quiet, bounce, pinHigh, used⟩ := c.resetLine_leaves hi
  rw [← hr] at pending quiet bounce pinHigh used
  have lineOf : m.line i = r.line i := by rw [State.line, State.line, lqu]
  have level : c.lineLevel i = m.lineLevel i := by
    rw [State.lineLevel, State.lineLevel, lineOf, pinHigh, settings]
  rw [settings, level] at used
  rw [line] at bounce pinHigh
  rw [← lineOf] at pending quiet bounce pinHigh used
  refine ⟨pending, quiet, bounce, pinHigh, used, fun u h1 h8 => ⟨fun touched => ?_, fun untouched => ?_⟩⟩
  · have hu := (member u ⟨h1, h8⟩).2 touched
    have rederived := State.reconfigured_rederived same nodup numbered perm few hu
    rwa [← e] at rederived
  · have unit := d.reconfigured_unit nodup numbered perm u
    rw [← e] at unit
    obtain ⟨-, -, tlu, -⟩ := same
    rw [unit.trans (if_neg (mt (member u ⟨h1, h8⟩).1 untouched)), State.unit, State.unit, tlu]

end Sys2Proof.Machine

/-! PROOFS. O36: CFGW, the entry written and its item applied. -/

namespace Sys2Proof.Machine

variable {s t m : State} {it : Item} {i : Nat} {x : Int}

/-- What a taken write leaves of the table, whether the value changes or not (R191). -/
theorem State.written_leaves (hi : i ∈ it.scope.indices) (h : (it.range s.cfg).1 ≤ x ∧ x ≤ (it.range s.cfg).2) :
    let m := s.written it i x
    it.read m.cfg i = x
      ∧ (∀ jt j, (jt, j) ∈ entries → (jt, j) ≠ (it, i) → (jt = .phaseHyst → it ≠ .phaseLimit) → jt.read m.cfg j = jt.read s.cfg j)
      ∧ (it = .phaseLimit → it.read s.cfg i ≠ x → (m.cfg.phaseHyst : Int) = min (s.cfg.phaseHyst : Int) (x / 2))
      ∧ m.lkc = s.lkc ∧ m.ftx = s.ftx ∧ m.tsc.epoch = s.tsc.epoch ∧ m.pending = s.pending := by
  intro m
  by_cases same : it.read s.cfg i = x
  · have e : m = s := if_pos same
    rw [e]
    exact ⟨same, fun _ _ _ _ _ => rfl, fun _ changes => absurd same changes, rfl, rfl, rfl, rfl⟩
  · have e : m = s.storeItem it i x := if_neg same
    obtain ⟨cfg, lkc, ftx, epoch, pending⟩ := s.storeItem_leaves it i x
    obtain ⟨own, others, hyst⟩ := Item.read_written hi h
    rw [← e] at cfg lkc ftx epoch pending
    rw [cfg]
    exact ⟨own, fun jt j hj => others jt j ((mem_entries jt j).1 hj), fun limit _ => hyst limit, lkc, ftx, epoch, pending⟩

theorem otherSource_eq (p : Source) : otherSource p = match p with | .a => .b | .b => .a := by
  cases p <;> rfl

theorem GenUnit.timerMoved_eq (g : GenUnit) (now delay : Nat) : g.timerMoved now delay = match g.timer with
    | .running _ => if g.entry + delay ≤ now then .expired else .running (g.entry + delay)
    | .stopped => .stopped
    | .expired => .expired := by
  cases timer : g.timer <;> simp only [GenUnit.timerMoved, timer]

/-- LKC hands CFGW on: the write of an entry, judged (R191). -/
theorem exec_cfgw (tag : Byte) {item index : Byte} (value : BitVec 32) (ha : s.accepts .cfgw) (entry : (it, index.toNat) ∈ entries)
    (number : it.number = item.toNat) :
    let v := value.toInt
    let stored := it.clamped s.cfg v
    (it.Refused s.cfg v → exec (.cfgw tag item index value) s = .next (s.answered 0x05 tag .param []))
      ∧ (¬ it.Refused s.cfg v → it.Conflicts s.cfg index.toNat stored →
          exec (.cfgw tag item index value) s = .next (s.answered 0x05 tag .conflict []))
      ∧ (¬ it.Refused s.cfg v → ¬ it.Conflicts s.cfg index.toNat stored →
          exec (.cfgw tag item index value) s = .next ((s.written it index.toNat stored).answered 0x05 tag
            (it.writeResult s.cfg index.toNat v stored) ([item, index] ++ beSigned 4 stored))) := by
  intro v stored
  have row {t : State} {a : Answer} (e : serveCfgw item index value s = (t, a)) :
      exec (.cfgw tag item index value) s = .next (t.answered 0x05 tag a.result a.body) :=
    congrArg Host.Outcome.next (State.takeRequest_of_serve tag ha e)
  obtain ⟨refuses, conflicts, takes⟩ := serveCfgw_some value s ((itemAt_eq_some item index it).2 ⟨entry, number⟩)
  refine ⟨fun r => row (refuses r), fun r c => row (conflicts r c), fun r c => ?_⟩
  have taken := row (takes r c)
  exact taken

/-- A number and an index that name no entry are PARAM (R191 steps 1 and 2). -/
theorem exec_cfgw_unknown (tag : Byte) {item index : Byte} (value : BitVec 32) (ha : s.accepts .cfgw)
    (unknown : ∀ it, (it, index.toNat) ∈ entries → it.number ≠ item.toNat) :
    exec (.cfgw tag item index value) s = .next (s.answered 0x05 tag .param []) :=
  congrArg Host.Outcome.next
    (State.takeRequest_of_serve tag ha (serveCfgw_none value s ((itemAt_eq_none item index).2 unknown)))

/-- Settles O36: the write judged, the entry stored, and its item applied by its block. -/
theorem cfgwStoresOneEntry : Obligations.CfgwStoresOneEntry := by
  intro tag item index value s ha
  have free : s.stc.inFlight = none := State.free_of_accepts ha rfl
  refine ⟨fun unknown => exec_cfgw_unknown tag value ha fun it entry number => unknown it _ entry ⟨number, rfl⟩, ?_⟩
  rintro it i entry number rfl
  obtain ⟨refuses, conflicts, takes⟩ := exec_cfgw tag value ha entry number
  intro lo hi v stored refused y conflict
  have hx : stored = it.clamped s.cfg v := rfl
  have inside := it.clamped_mem s.cfg v
  have result (low) := Item.writeResult_clamped (it := it) (cfg := s.cfg) (i := index.toNat) (v := v) (x := it.clamped s.cfg v) low
  refine ⟨refuses, conflicts, fun r c => ⟨s.written it index.toNat stored, it.writeResult s.cfg index.toNat v stored, takes r c, ?_⟩⟩
  have indexed := (mem_entries it index.toNat).1 entry
  clear refuses conflicts takes
  rw [← hx] at inside result
  obtain ⟨own, others, hyst, lkc, ftx, epoch, pending⟩ := State.written_leaves indexed inside
  have same : it.read s.cfg index.toNat = stored → s.written it index.toNat stored = s := fun e => if_pos e
  have changed : it.read s.cfg index.toNat ≠ stored → s.written it index.toNat stored = s.storeItem it index.toNat stored :=
    fun e => if_neg e
  clear_value stored
  refine ⟨own, others, hyst, it.writeResult_cases _ _ _ _, result inside.1, same, fun changes => ?_, fun changes ofLine => ?_, lkc,
    ftx, epoch, pending⟩
  · rw [changed changes]
    intro us other eligible
    refine ⟨?_, ?_, ?_, ?_, ?_, ?_, ?_, ?_, fun unit => ?_, fun plain => ?_⟩
    · rintro rfl
      exact State.storeItem_localOffset changes
    · rintro rfl
      exact State.storeItem_revertDelay
    · rintro rfl
      have settled := State.storeItem_prefSource (s := s) (i := index.toNat) (x := stored)
      simp only [otherSource_eq] at settled
      exact settled
    · rintro rfl
      exact State.storeItem_slewLimit inside.1
    · rintro rfl
      exact State.storeItem_freqWindow
    · rintro rfl
      exact State.storeItem_watermark inside.1
    · rintro rfl
      exact State.storeItem_noticeMask
    · rintro rfl
      rw [State.storeItem_autosaveHours]
      exact State.hoursStored_autosaveIfPassed free inside.1
    · have scope : it.scope = .unit := by
        cases it with
        | unitGroup | weightStill | weightSpin | weightGen | weightPump | weightCond | weightIndet | startWeight | tripWeight
        | modeRecord | discrepDelay => rfl
        | _ => exact absurd unit (by decide)
      rw [scope] at indexed
      obtain ⟨mode, at', date, ecp, accs, starts, trips, due, stays, moves, rest, next⟩ :=
        State.storeItem_unit_leaves (s := s) (x := stored) unit ((mem_numbers 8 _).1 indexed)
      refine ⟨mode, at', date, ecp, accs, starts, trips, due, stays, fun delay => (moves delay).trans ?_, rest, next⟩
      exact GenUnit.timerMoved_eq _ _ _
    · rw [State.storeItem_plain plain]
      rfl
  · rw [changed changes]
    have scope : it.scope = .line := by rcases ofLine with rfl | rfl | rfl <;> rfl
    rw [scope] at indexed
    exact State.storeItem_line_leaves ofLine ((mem_numbers 32 _).1 indexed)

end Sys2Proof.Machine
